-- ==== Sys2Proof/Word.lean ====
section
/-!
DEFINITION. The words of the Zalbern Z4306 and the fixed groups of like things: bytes, seconds values, ports, slots,
outputs, bins.
-/

namespace Sys2Proof

/-- One byte of a frame (R210). -/
abbrev Byte := BitVec 8

/-- A 16-bit word: a tag, a generation, a notice mask, a word of the retained record. -/
abbrev Word16 := BitVec 16

/-- A seconds value, 0 to 281,474,976,710,655, in the wrap of R2. -/
abbrev Seconds := BitVec 48

/-- A tenant port (00_scope.md section 0.1). -/
abbrev Port := Fin 3

/-- A reference slot (Table 0-2). -/
abbrev SlotId := Fin 6

/-- A pulse output (chapter 8). -/
abbrev OutId := Fin 4

/-- A temperature bin (R90). -/
abbrev BinId := Fin 32

/-- The slot of the line clock (Table 0-2). -/
def lfSlot : SlotId := 2

/-- The report slot of tenant port t, slot 3 + t (R28). -/
def reportSlot : Port → SlotId
  | 0 => 3
  | 1 => 4
  | 2 => 5

/-- The output of tenant port t (chapter 8). -/
def tenantOut : Port → OutId
  | 0 => 0
  | 1 => 1
  | 2 => 2

/-- One thing per tenant port. -/
structure Three (α : Type) where
  t0 : α
  t1 : α
  t2 : α
deriving DecidableEq, Repr

/-- One thing per output. -/
structure Four (α : Type) where
  o0 : α
  o1 : α
  o2 : α
  o3 : α
deriving DecidableEq, Repr

/-- One thing per reference slot. -/
structure Six (α : Type) where
  s0 : α
  s1 : α
  s2 : α
  s3 : α
  s4 : α
  s5 : α
deriving DecidableEq, Repr

namespace Three

def get {α : Type} (v : Three α) : Port → α
  | 0 => v.t0
  | 1 => v.t1
  | 2 => v.t2

def set {α : Type} (v : Three α) (i : Port) (a : α) : Three α :=
  match i with
  | 0 => { v with t0 := a }
  | 1 => { v with t1 := a }
  | 2 => { v with t2 := a }

def fill {α : Type} (a : α) : Three α := ⟨a, a, a⟩

def mapIdx {α β : Type} (f : Port → α → β) (v : Three α) : Three β := ⟨f 0 v.t0, f 1 v.t1, f 2 v.t2⟩

end Three

namespace Four

def get {α : Type} (v : Four α) : OutId → α
  | 0 => v.o0
  | 1 => v.o1
  | 2 => v.o2
  | 3 => v.o3

def set {α : Type} (v : Four α) (i : OutId) (a : α) : Four α :=
  match i with
  | 0 => { v with o0 := a }
  | 1 => { v with o1 := a }
  | 2 => { v with o2 := a }
  | 3 => { v with o3 := a }

def mapIdx {α β : Type} (f : OutId → α → β) (v : Four α) : Four β := ⟨f 0 v.o0, f 1 v.o1, f 2 v.o2, f 3 v.o3⟩

end Four

namespace Six

def get {α : Type} (v : Six α) : SlotId → α
  | 0 => v.s0
  | 1 => v.s1
  | 2 => v.s2
  | 3 => v.s3
  | 4 => v.s4
  | 5 => v.s5

def set {α : Type} (v : Six α) (i : SlotId) (a : α) : Six α :=
  match i with
  | 0 => { v with s0 := a }
  | 1 => { v with s1 := a }
  | 2 => { v with s2 := a }
  | 3 => { v with s3 := a }
  | 4 => { v with s4 := a }
  | 5 => { v with s5 := a }

def fill {α : Type} (a : α) : Six α := ⟨a, a, a, a, a, a⟩

def mapIdx {α β : Type} (f : SlotId → α → β) (v : Six α) : Six β :=
  ⟨f 0 v.s0, f 1 v.s1, f 2 v.s2, f 3 v.s3, f 4 v.s4, f 5 v.s5⟩

end Six

end Sys2Proof
end

