-- ==== Sys2Proof/Syntax.lean ====
section
/-!
DEFINITION. The commands of the Zalbern Z4306: one constructor per row of spec/opcode_table.json, with what the outside
gives the part at that event. Fields of a request are the wire fields of chapter 12, at their wire widths.
-/

namespace Sys2Proof

/-- How a sensor read ends (R87): the sensor does not acknowledge, or answers with a value in 1/16 °C. -/
inductive SensorResult where
  | noAnswer
  | value (θ : Int)
deriving DecidableEq, Repr

/-- What the store reports of the write in progress (R99; log 8): the phase being written has been written, all that was left
of the write has been written, or an error. -/
inductive StoreResult where
  | phaseWritten
  | ok
  | failed
deriving DecidableEq, Repr

/-- The line clock at an epoch boundary (R26): standing in a gap of more than 1,000,000,000 ps without an edge, or
counted continuously in 10⁻¹² of a cycle, with whether such a gap has been seen since the previous mark (log 6). -/
inductive LineClock where
  | inGap
  | counted (picocycles : Nat) (gapSeen : Bool)
deriving DecidableEq, Repr, Inhabited

/-- The pulse inputs PA_IN and PB_IN with their label links (Table 0-2). -/
inductive PulseInput where
  | pa
  | pb
deriving DecidableEq, Repr

/-- What arrives on a label link (R25): a damaged message, or one received whole. -/
inductive LinkMessage where
  | damaged
  | whole (label : Seconds) (fixValid : Bool)
deriving DecidableEq, Repr

/-- The body of ATTACH and ADVERTISE (Table 12-6). -/
structure AdvertisementFields where
  limit      : BitVec 32
  permission : Byte
  slew       : BitVec 32
  squelch    : Byte
deriving DecidableEq, Repr

/-- The body of REPORT_PHASE (Table 12-4). -/
structure ReportFields where
  stamp   : Seconds
  phase   : BitVec 48
  quality : Byte
  label   : Option Seconds
deriving DecidableEq, Repr

/-- The body of SET_OUTPUT (section 12.3). -/
structure OutputFields where
  enable   : Byte
  interval : Word16
  width    : BitVec 32
  offset   : BitVec 32
  mode     : Byte
deriving DecidableEq, Repr

/-- One item of a CONFIGURE proposal (Table 12-9). -/
structure ConfigItem where
  setting : Byte
  slot    : Byte
  value   : BitVec 32
deriving DecidableEq, Repr

/-- The commands: the rows of spec/opcode_table.json in the table's order. -/
inductive Instr where
  /-- POWER_ON (R178). -/
  | powerOn
  /-- RESET_N_FALLS (R178). -/
  | resetNFalls
  /-- BROWN_OUT (R178). -/
  | brownOut
  /-- START_SEQUENCE (R179), with the result of the start read (R87). -/
  | startSequence (read : SensorResult)
  /-- EPOCH_BOUNDARY (R6), with the line clock as it stands (R26). -/
  | epochBoundary (line : LineClock)
  /-- HOLD_OFF_EXPIRY (R39). -/
  | holdOffExpiry (slot : SlotId)
  /-- BRIDGE_EXPIRY (R58). -/
  | bridgeExpiry
  /-- JOINT_EXPIRY (R148). -/
  | jointExpiry
  /-- OVEN_FAULT (R175). -/
  | ovenFault
  /-- SOAK_END (R176). -/
  | soakEnd
  /-- SENSOR_READ_DONE (R87). -/
  | sensorReadDone (read : SensorResult)
  /-- EPOCH_CLOSE (R34). -/
  | epochClose
  /-- WRITE_COMPLETION (R101). -/
  | writeCompletion (result : StoreResult)
  /-- PULSE (R24): a rising edge after so many more OSC_IN cycles (log 3). -/
  | pulse (input : PulseInput) (cycles : Nat)
  /-- LABEL_MESSAGE (R25). -/
  | labelMessage (link : PulseInput) (message : LinkMessage)
  /-- PULSE_INSTANT (R160). -/
  | pulseInstant (out : OutId)
  /-- PULSE_WIDTH_END (R161). -/
  | pulseWidthEnd (out : OutId)
  /-- MAINS_GOOD_FALLS (R170). -/
  | mainsGoodFalls
  /-- MAINS_GOOD_RISES (R172). -/
  | mainsGoodRises
  /-- BATT_LOW_RISES (R171). -/
  | battLowRises
  /-- BATT_LOW_FALLS (R171). -/
  | battLowFalls
  /-- OVEN_OK_RISES (R174). -/
  | ovenOkRises
  /-- OVEN_OK_FALLS (R174). -/
  | ovenOkFalls
  /-- PRESENT_LINE_FALLS (R189). -/
  | presentLineFalls (t : Port)
  /-- PRESENT_LINE_RISES (R189). -/
  | presentLineRises (t : Port)
  /-- READ_TRANSACTION (R184), clocking so many bytes after the direction byte. -/
  | readTransaction (t : Port) (bytes : Nat)
  /-- RESPONSE_COMPLETED (R185). -/
  | responseCompleted (t : Port)
  /-- MALFORMED_FRAME (R187), with the code and tag bytes as received. -/
  | malformedFrame (t : Port) (code : Byte) (tag : Word16)
  /-- ATTACH (R133). -/
  | attach (t : Port) (tag : Word16) (adv : AdvertisementFields)
  /-- ADVERTISE (R134). -/
  | advertise (t : Port) (tag : Word16) (adv : AdvertisementFields)
  /-- DETACH (R135). -/
  | detach (t : Port) (tag : Word16)
  /-- READ_TIME (R190). -/
  | readTime (t : Port) (tag : Word16)
  /-- READ_STATUS (R191). -/
  | readStatus (t : Port) (tag : Word16)
  /-- REPORT_PHASE (R28). -/
  | reportPhase (t : Port) (tag : Word16) (report : ReportFields)
  /-- READ_REFERENCE (R193). -/
  | readReference (t : Port) (tag : Word16) (slot : Byte)
  /-- READ_LEARNING (R106). -/
  | readLearning (t : Port) (tag : Word16) (first : Byte) (number : Byte)
  /-- READ_AGING (R107). -/
  | readAging (t : Port) (tag : Word16)
  /-- READ_CONFIG (R194). -/
  | readConfig (t : Port) (tag : Word16)
  /-- SET_OUTPUT (R156). -/
  | setOutput (t : Port) (tag : Word16) (fields : OutputFields)
  /-- PROPOSE (R144). -/
  | propose (t : Port) (tag : Word16) (kind : Byte) (items : List ConfigItem)
  /-- CONCUR (R145). -/
  | concur (t : Port) (tag : Word16) (serial : Byte)
  /-- DECLINE (R146). -/
  | decline (t : Port) (tag : Word16) (serial : Byte)
  /-- READ_JOINT (R153). -/
  | readJoint (t : Port) (tag : Word16)
  /-- READ_NOTICES (R202). -/
  | readNotices (t : Port) (tag : Word16)
  /-- NEXT_NOTICE (R202). -/
  | nextNotice (t : Port) (tag : Word16)
  /-- CLEAR_NOTICES (R203). -/
  | clearNotices (t : Port) (tag : Word16) (kinds : List Byte)
  /-- NOTICES_DONE (R204). -/
  | noticesDone (t : Port) (tag : Word16)
  /-- SET_NOTICE_MASK (R205). -/
  | setNoticeMask (t : Port) (tag : Word16) (mask : Word16)
deriving DecidableEq, Repr

end Sys2Proof
end

