-- ==== Sys2Proof/Machine/State.lean ====
section
/-!
DEFINITION. The state of the Zalbern Z4306, block by block as Table 0-1 gives it, the reasons a step can stop, and the
state after reset. Plain data throughout. Quantities are in the units of Table 0-3 unless a field says otherwise.
-/

namespace Sys2Proof.Machine

/-! ## The TSG (chapter 1) -/

/-- Site time and the applied correction (chapter 1). -/
structure Tsg where
  /-- The seconds count (R2). -/
  seconds : Seconds
  /-- The phase within the second, ps (R2). -/
  phase : Nat
  /-- The carried fraction of a picosecond, in 1/20,000,000 ps (R3). -/
  frac : Nat
  /-- The applied correction F_app, ppt (R4). -/
  fApp : Int
  /-- The time-valid flag (R14). -/
  timeValid : Bool
  /-- The re-run flag (R10). -/
  reRun : Bool
deriving DecidableEq, Repr

/-! ## The site configuration (Table 7-5) -/

/-- The per-slot settings of Table 7-5 other than enable; the RMU holds an adopted copy of each (R22). -/
structure SlotSettings where
  priority : Nat
  /-- ps, or ppt for the LF slot. -/
  gate : Int
  /-- Cable compensation, ps; not used by the LF slot. -/
  comp : Int
  qualify : Nat
  freshness : Nat
deriving DecidableEq, Repr

/-- The settings of one slot (Table 7-5). -/
structure SlotConfig where
  enable : Bool
  settings : SlotSettings
deriving DecidableEq, Repr

/-- The site configuration (Table 7-5). -/
structure SiteConfig where
  slots : Six SlotConfig
  /-- LF nominal frequency, Hz. -/
  lfNominal : Nat
  bandwidth : Nat
  lockThreshold : Int
  stepThreshold : Int
  bridgeTime : Nat
  revertive : Bool
  waitToRestore : Nat
  sigmaFloor : Int
  eFloor : Int
  /-- OUT3 interval, ms. -/
  out3Interval : Nat
  /-- OUT3 width, steps of 100 ns. -/
  out3Width : Nat
  out3Offset : Int
deriving DecidableEq, Repr

/-! ## The RMU (chapter 2) -/

/-- The six slot states (R20). -/
inductive SlotState where
  | off
  | qualifying
  | usable
  | selected
  | disqualified
  | halting
deriving DecidableEq, Repr

/-- A set of fault kinds (Table 2-5). -/
structure FaultSet where
  gate : Bool := false
  label : Bool := false
  quality : Bool := false
  extra : Bool := false
  stale : Bool := false
deriving DecidableEq, Repr

/-- An accepted observation (R30). -/
structure Entry where
  stamp : Seconds
  /-- The phase, or f for the LF slot. -/
  value : Int
  /-- The quality class of a report. -/
  quality : Option Nat
  label : Option Seconds
deriving DecidableEq, Repr

/-- An item of a slot's queue (R30). -/
inductive QueueItem where
  | entry (e : Entry)
  | haltMark
deriving DecidableEq, Repr

/-- What has been taken for one epoch not yet closed (R31); its entry count is the queue's. -/
structure Tally where
  epoch : Seconds
  /-- The fault kinds marked; the fault mark is set when one is. -/
  faults : FaultSet
  /-- Pulses taken, for a pulse slot. -/
  pulses : Nat
deriving DecidableEq, Repr

/-- The pulse most recently taken on a pulse slot (R24, R25). -/
structure LabelTarget where
  epoch : Seconds
  hasEntry : Bool
  label : Option Seconds
deriving DecidableEq, Repr

/-- The record, the queue and the tallies of one slot (Table 2-1, R30, R31). Enable has its home in the configuration. -/
structure Slot where
  state : SlotState
  faultCount : Nat
  qualifyCount : Nat
  emptyRun : Nat
  holdOff : Nat
  /-- The disqualification streak d. -/
  streak : Nat
  usableRun : Nat
  lastValue : Option Int
  lastLabel : Option Seconds
  lastFaults : FaultSet
  settings : SlotSettings
  queue : List QueueItem
  tallies : List Tally
deriving DecidableEq, Repr

/-- The Reference Measurement Unit (chapter 2). -/
structure Rmu where
  slots : Six Slot
  targetA : Option LabelTarget
  targetB : Option LabelTarget
  /-- The LF mark, ps of line-clock time at the nominal frequency (R26). -/
  lfMark : Option Nat
  /-- A phase step or a seconds set has been applied since the mark (R26). -/
  lfVoid : Bool
  /-- The LF nominal frequency adopted, Hz (R22). -/
  lfNominal : Nat
  lastClosed : Seconds
deriving DecidableEq, Repr

/-! ## The SDE (chapters 3, 4 and 6) -/

/-- The five clock states (Table 3-1). -/
inductive ClockState where
  | freerun
  | acquire
  | locked
  | bridge
  | holdover
deriving DecidableEq, Repr

/-- The Selection and Discipline Engine (Tables 3-1, 4-1 and 6-1). -/
structure Sde where
  selected : Option SlotId
  lastSelected : Option SlotId
  clock : ClockState
  lockCount : Nat
  lockLoss : Nat
  decisionPending : Bool
  stepDecisionPending : Bool
  stepNow : Bool
  bridgeRemaining : Nat
  labelMismatch : Nat
  lockedSinceStart : Bool
  fInt : Int
  fAvg : Int
  fAvgBin : Option BinId
  /-- The residual R, ps. -/
  residual : Int
  /-- The LF bias b, ppt. -/
  bias : Int
  /-- The LF wander Q, ppt. -/
  wander : Int
  lfCount : Nat
  lfRestart : Bool
  lfBasis : Nat
  /-- The anchor correction Fa. -/
  anchorCorr : Int
  /-- The anchor bin ba. -/
  anchorBin : Option BinId
  /-- The anchor seconds sa. -/
  anchorSeconds : Seconds
  hours : Nat
  assisted : Bool
  /-- The time-error estimate E, ps. -/
  e : Int
  /-- The tolerance flags, true for in (R124). -/
  tol : Three Bool
deriving DecidableEq, Repr

/-! ## The OLS (chapter 5) -/

/-- A bin record (R91). -/
structure BinRecord where
  count : Nat
  mean : Int
  spread : Int
deriving DecidableEq, Repr

/-- A day record (R95). -/
structure DayRecord where
  day : Nat
  meanCorr : Int
  meanTemp : Int
  locked : Nat
deriving DecidableEq, Repr

/-- The result of the last restore (R103). -/
inductive RetainedOutcome where
  | restored
  | defaults
deriving DecidableEq, Repr

/-- The result of the latest completed write (Table 5-1). -/
inductive WriteResult where
  | none
  | ok
  | failed
deriving DecidableEq, Repr

/-- The content of the retained record (Table 5-7), without its format and integrity words. -/
structure RetainedContent where
  config : SiteConfig
  bins : Vector BinRecord 32
  ring : List DayRecord
  aging : Int
  anchor : Int
  anchorBin : Option BinId
deriving DecidableEq, Repr

/-- The retained record as the non-volatile store holds it (R98). -/
structure StoredRecord where
  format : Word16
  content : RetainedContent
  /-- The integrity word; absent for the value of the first phase of a write, which cannot satisfy the check (R99). -/
  integrity : Option Word16
deriving DecidableEq, Repr

/-- The phases of a write (R99): the integrity word is made invalid, the content words are written, the integrity word is
written. -/
inductive WritePhase where
  | invalidate
  | content
  | integrity
deriving DecidableEq, Repr

/-- A write in progress: the content taken when it started (R98), and the phase being written (R99). -/
structure RetainedWrite where
  content : RetainedContent
  phase : WritePhase
deriving DecidableEq, Repr

/-- The Oscillator Learning Store (Table 5-1). -/
structure Ols where
  /-- A sensor read is in progress (READING). -/
  reading : Bool
  failures : Nat
  /-- The sensor fault flag is FAULT. -/
  sensorFault : Bool
  /-- The smoothed temperature θs, 1/16 °C. -/
  theta : Option Int
  lastSample : Option Int
  bins : Vector BinRecord 32
  dayLocked : Nat
  dayCorr : Int
  dayTemp : Int
  /-- The day ring, oldest first. -/
  ring : List DayRecord
  /-- The aging slope A, ppt per day. -/
  aging : Int
  agingEst : Bool
  retainedAnchor : Int
  retainedBin : Option BinId
  outcome : RetainedOutcome
  /-- The writer: absent for IDLE, or WRITING (R98, R99). -/
  writing : Option RetainedWrite
  rewritePending : Bool
  retryDue : Bool
  lastWrite : WriteResult
  /-- The non-volatile store; absent when it has never been written (R103). -/
  store : Option StoredRecord
deriving DecidableEq, Repr

/-! ## The TRU (chapter 7) -/

/-- An advertisement after clamping (R131, R132). -/
structure Advertisement where
  limit : Int
  /-- The step permission, true for ALLOW. -/
  allow : Bool
  slew : Int
  squelch : Bool
deriving DecidableEq, Repr

/-- A tenant record (R131); the joint-party flags are computed from the joint action record. -/
structure Tenant where
  attached : Bool
  adv : Advertisement
  ackGen : Word16
deriving DecidableEq, Repr

/-- The resolved policy (R137). -/
structure Policy where
  stepsPermitted : Bool
  sRes : Int
  lCom : Int
  squelch : Bool
deriving DecidableEq, Repr

/-- Outcome codes (Table 10-4). -/
inductive OutcomeCode where
  | ok
  | clamped
  | ignored
  | pending
  | busy
  | notAttached
  | notParty
  | noAction
  | late
  | early
  | full
  | badValue
  | badRequest
  | notApplicable
  | notReady
deriving DecidableEq, Repr

/-- The kinds of joint action, CONFIGURE with its items (R143). -/
inductive JointKind where
  | configure (items : List ConfigItem)
  | clearLearning
  | stepNow
  | restartClock
deriving DecidableEq, Repr

/-- The joint action record (R143). -/
structure JointRecord where
  serial : Byte
  kind : JointKind
  initiator : Port
  required : Three Bool
  concurred : Three Bool
  age : Nat
deriving DecidableEq, Repr

/-- Why an action was cancelled (R150). -/
inductive CancelReason where
  | declined
  | expired
  | withdrawn
deriving DecidableEq, Repr

/-- How an action ended (R143). -/
inductive JointEnding where
  | done (results : List OutcomeCode)
  | cancelled (reason : CancelReason)
deriving DecidableEq, Repr

/-- The last-ended record (R143). -/
structure EndedRecord where
  record : JointRecord
  ending : JointEnding
deriving DecidableEq, Repr

/-- The Tenant Table and Resolution Unit (Table 7-1). -/
structure Tru where
  tenants : Three Tenant
  policy : Policy
  generation : Word16
  config : SiteConfig
  /-- The serial counter. -/
  serial : Byte
  joint : Option JointRecord
  lastEnded : Option EndedRecord
deriving DecidableEq, Repr

/-! ## The POU (chapter 8) -/

/-- Squelch modes (Table 8-1). -/
inductive SquelchMode where
  | none
  | invalid
  | tolerance
deriving DecidableEq, Repr

/-- Output states (R155). -/
inductive OutputState where
  | disabled
  | active
  | squelched
deriving DecidableEq, Repr

/-- An output record (Table 8-1). -/
structure OutputRecord where
  enable : Bool
  /-- ms. -/
  interval : Nat
  /-- Steps of 100 ns. -/
  width : Nat
  offset : Int
  mode : SquelchMode
deriving DecidableEq, Repr

/-- One pulse output (R155, R161, R167). -/
structure Output where
  current : OutputRecord
  pending : Option OutputRecord
  state : OutputState
  resumeWait : Bool
  /-- The width left of the pulse in progress, in 1/20,000,000 ps; the pin is high while one stands. -/
  pulseLeft : Option Nat
  /-- A pulse instant that the latest cycle has passed by advance and that is not yet acted on: how far past it site time then
  stood, in 1/20,000,000 ps (R160; the model's own, log 3). -/
  passed : Option Nat
deriving DecidableEq, Repr

/-! ## The SPM (chapter 9) -/

/-- Power states (R169). -/
inductive PowerState where
  | run
  | keepalive
  | coldkeep
deriving DecidableEq, Repr

/-- Oven states (R174). -/
inductive OvenState where
  | settled
  | warming
  | off
deriving DecidableEq, Repr

/-- Start causes (R178). -/
inductive StartCause where
  | powerOn
  | brownout
deriving DecidableEq, Repr

/-- The keep-alive summary (R173). -/
structure KeepAliveSummary where
  beganAtStart : Bool
  entrySeconds : Seconds
  boundaries : Nat
  coldBoundaries : Nat
  coldEntries : Nat
  ovenFaultSeen : Bool
  ended : Bool
deriving DecidableEq, Repr

/-- The Site Power Monitor (Table 9-1). -/
structure Spm where
  power : PowerState
  oven : OvenState
  warmUp : Nat
  ovenFault : Bool
  soak : Nat
  startCause : StartCause
  /-- The start pending cause; a start is in progress while it is present (R178). -/
  startPending : Option StartCause
  summary : Option KeepAliveSummary
deriving DecidableEq, Repr

/-! ## The NU (chapter 11) -/

/-- The report of a notice, one constructor per event kind (Table 11-2). -/
inductive Report where
  | tolLost (e : Int)
  | tolRegained (e : Int)
  | clockState (clock : ClockState) (assisted : Bool) (timeValid : Bool)
  | selection (slot : Option SlotId)
  | refDisqualified (slots : Six Bool)
  | refHalted (slots : Six Bool)
  | phaseStep (delta : Int)
  | secondsSet (value : Seconds)
  | resolved (generation : Word16)
  | jointAsked (serial : Byte) (kind : JointKind) (initiator : Port)
  | jointDone (serial : Byte) (results : List OutcomeCode)
  | jointCancelled (serial : Byte) (reason : CancelReason)
  | oven (state : OvenState) (fault : Bool)
  | sensorFault (fault : Bool)
  | retainedFault (retry : Bool)
  | outputSquelch (outputs : Four (Option OutputState))
deriving DecidableEq, Repr

/-- A notice: one kind with its report and a posting count (R200). -/
structure Notice where
  report : Report
  count : Nat
deriving DecidableEq, Repr

/-- The six latches (R208). -/
structure Latches where
  timeValid : Bool
  inTolerance : Bool
  locked : Bool
  ovenSettled : Bool
  refFault : Bool
  stepped : Bool
deriving DecidableEq, Repr

/-- The notice and latch state of one tenant (Table 11-1); both sets stand in kind order. -/
structure TenantNotices where
  notices : List Notice
  pending : List Notice
  /-- Bit k is set when kind k is enabled. -/
  mask : Word16
  frozen : Bool
  latches : Latches
deriving DecidableEq, Repr

/-! ## The ports (chapter 10) -/

/-- How a report that was not refused was judged (R29). -/
inductive Disposition where
  | entry
  | gate
  | label
  | quality
deriving DecidableEq, Repr

/-- What READ_TIME returns (R190). -/
structure TimeReading where
  seconds : Seconds
  phase : Nat
  timeValid : Bool
  fApp : Int
  clock : ClockState
  assisted : Bool
  selected : Option SlotId
  e : Int
  inTolerance : Bool
  policy : Policy
  generation : Word16
  noticesWaiting : Bool
deriving DecidableEq, Repr

/-- What READ_STATUS returns (R191). -/
structure StatusReading where
  latches : Latches
  startCause : StartCause
  outcome : RetainedOutcome
  oven : OvenState
  ovenFault : Bool
  soak : Nat
  summary : Option KeepAliveSummary
deriving DecidableEq, Repr

/-- The LF calibration that READ_REFERENCE of slot 2 carries (R85). -/
structure LfReading where
  bias : Int
  wander : Int
  count : Nat
  calibrated : Bool
deriving DecidableEq, Repr

/-- What READ_REFERENCE returns (R193). -/
structure ReferenceReading where
  slot : SlotId
  state : SlotState
  faultCount : Nat
  qualifyCount : Nat
  emptyRun : Nat
  holdOff : Nat
  streak : Nat
  usableRun : Nat
  lastValue : Option Int
  lastLabel : Option Seconds
  lastFaults : FaultSet
  olderEntries : Nat
  currentEntries : Nat
  haltMark : Bool
  lf : Option LfReading
deriving DecidableEq, Repr

/-- What READ_LEARNING returns (R106). -/
structure LearningReading where
  records : List BinRecord
  theta : Option Int
  lastSample : Option Int
  currentBin : Option BinId
  failures : Nat
  sensorFault : Bool
  learning : Bool
  writing : Bool
  rewritePending : Bool
  lastWrite : WriteResult
deriving DecidableEq, Repr

/-- What READ_AGING returns (R107). -/
structure AgingReading where
  ring : List DayRecord
  aging : Int
  established : Bool
  locked : Nat
deriving DecidableEq, Repr

/-- What READ_CONFIG returns (R194). -/
structure ConfigReading where
  config : SiteConfig
  policy : Policy
  generation : Word16
  out3 : OutputRecord
  out3State : OutputState
deriving DecidableEq, Repr

/-- The body of a response, by the request answered (Table 10-3). -/
inductive Body where
  /-- No body. -/
  | empty
  | advertised (limitClamped slewClamped : Bool) (policy : Policy) (generation : Word16)
  | time (reading : TimeReading)
  | status (reading : StatusReading)
  /-- The disposition of a report, absent when it was refused. -/
  | report (disposition : Option Disposition)
  | reference (reading : ReferenceReading)
  | learning (reading : LearningReading)
  | aging (reading : AgingReading)
  | config (reading : ConfigReading)
  /-- Field results, the pending record, the current record and the output state (R156). -/
  | output (results : List OutcomeCode) (pending : Option OutputRecord) (current : OutputRecord) (state : OutputState)
  /-- The serial taken, the results of an action executed at once, policy-unread (R144). -/
  | proposed (serial : Option Byte) (results : Option (List OutcomeCode)) (unread : Bool)
  /-- The results of an action completed, policy-unread (R145). -/
  | concurred (results : Option (List OutcomeCode)) (unread : Bool)
  | declined (unread : Bool)
  /-- The pending record, or else the last-ended one, policy-unread (R153). -/
  | joint (pending : Option JointRecord) (ended : Option EndedRecord) (unread : Bool)
  | notices (set : List Notice)
  | nextNotice (notice : Option Notice)
deriving DecidableEq, Repr

/-- A response (Table 12-2). -/
structure Response where
  code : Byte
  tag : Word16
  outcome : OutcomeCode
  overrun : Bool
  body : Body
deriving DecidableEq, Repr

/-- The port state with its response (Table 10-1): the one being completed in WORKING, the one held in READY. -/
inductive PortState where
  | idle
  | working (preparing : Response)
  | ready (held : Response)
deriving DecidableEq, Repr

/-- What a port clocks out in a transaction, direction byte left aside (R183): fill bytes alone, however many, in a request
transaction, and the bytes of a response or a NOT_READY frame in a read transaction. -/
inductive Clocked where
  | nothing
  | fill
  | bytes (bs : List Byte)
deriving DecidableEq, Repr

/-- A tenant port (Table 10-1). -/
structure TenantPort where
  state : PortState
  overrun : Bool
  /-- What the port clocked out in its latest transaction (R183, R184, R186; log 27). -/
  clocked : Clocked
deriving DecidableEq, Repr

/-! ## The input pins -/

/-- The levels of the input lines that the part takes as levels (R133, R169, R174, R178). -/
structure Pins where
  mainsGood : Bool
  battLow : Bool
  ovenOk : Bool
  resetN : Bool
  /-- VDD_CORE is above the brown-out threshold. -/
  vddOk : Bool
  present : Three Bool
deriving DecidableEq, Repr

/-! ## The whole state -/

/-- The state of the part and the queue of waiting commands, first in, first out. -/
structure State where
  tsg : Tsg
  rmu : Rmu
  sde : Sde
  ols : Ols
  tru : Tru
  nu : Three TenantNotices
  pou : Four Output
  spm : Spm
  tpi : Three TenantPort
  pins : Pins
  /-- The counter of the free values; the model's own. -/
  freeIndex : Nat
  pending : List Instr
deriving DecidableEq, Repr

/-- The reasons a step stops with a fault: none. The spec gives every command an effect in every state, and a reference,
oven, sensor or store fault is state and a notice, so nobody raises a Fault; safe. -/
inductive Fault where
deriving DecidableEq, Repr

/-- The reasons a step is refused. -/
inductive Refusal where
  /-- Raised by exec for a command without a meaning in this model; no arm of exec raises it. Safe. -/
  | notModelled (mnemonic : String)
deriving DecidableEq, Repr

/-! ## Values at a start -/

/-- A slot's factory settings (Table 7-5). -/
def factorySlot (priority : Nat) (gate : Int) (freshness : Nat) : SlotConfig :=
  { enable := true
    settings := { priority := priority, gate := gate, comp := 0, qualify := 10, freshness := freshness } }

/-- The factory configuration (Table 7-5). -/
def SiteConfig.factory : SiteConfig :=
  { slots :=
      { s0 := factorySlot 1 2000000 2
        s1 := factorySlot 2 2000000 2
        s2 := factorySlot 1 100000 2
        s3 := factorySlot 5 5000000 5
        s4 := factorySlot 5 5000000 5
        s5 := factorySlot 5 5000000 5 }
    lfNominal := 10000000
    bandwidth := 3
    lockThreshold := 100000
    stepThreshold := 1000000
    bridgeTime := 30
    revertive := true
    waitToRestore := 10
    sigmaFloor := 10
    eFloor := 20000
    out3Interval := 1000
    out3Width := 1000
    out3Offset := 0 }

/-- The cap of the time-error estimate (R119). -/
def eCap : Int := 999999999999

/-- The state of the TSG at a start, before the start value is ordered (R17). -/
def Tsg.atStart : Tsg :=
  { seconds := 0, phase := 0, frac := 0, fApp := 0, timeValid := false, reRun := false }

/-- A slot at a start (R19), enabled or not, with the settings of the configuration. -/
def Slot.atStart (c : SlotConfig) : Slot :=
  { state := if c.enable then .qualifying else .off
    faultCount := 0, qualifyCount := 0, emptyRun := 0, holdOff := 0, streak := 0, usableRun := 0
    lastValue := none, lastLabel := none, lastFaults := {}
    settings := c.settings
    queue := [], tallies := [] }

/-- The RMU at a start (Table 2-8). -/
def Rmu.atStart (c : SiteConfig) : Rmu :=
  { slots := c.slots.mapIdx fun _ sc => Slot.atStart sc
    targetA := none, targetB := none
    lfMark := none, lfVoid := false, lfNominal := c.lfNominal
    lastClosed := 281474976710655 }

/-- The SDE at a start (Tables 3-9, 4-5 and 6-11), before the start value is given to F_int. -/
def Sde.atStart (c : SiteConfig) : Sde :=
  { selected := none, lastSelected := none, clock := .freerun
    lockCount := 0, lockLoss := 0
    decisionPending := false, stepDecisionPending := false, stepNow := false
    bridgeRemaining := 0, labelMismatch := 0, lockedSinceStart := false
    fInt := 0, fAvg := 0, fAvgBin := none, residual := 0
    bias := 0, wander := 0, lfCount := 0, lfRestart := true, lfBasis := c.lfNominal
    anchorCorr := 0, anchorBin := none, anchorSeconds := 0, hours := 0, assisted := false
    e := eCap, tol := Three.fill false }

/-- A bin that holds nothing (R91). -/
def BinRecord.empty : BinRecord := { count := 0, mean := 0, spread := 0 }

/-- The temperature table with every bin empty (R103, R105). -/
def emptyBins : Vector BinRecord 32 := Vector.replicate 32 BinRecord.empty

/-- The OLS at a start (Table 5-12) with the DEFAULTS of Table 5-10, before the start read; the store is kept. -/
def Ols.atStart (store : Option StoredRecord) : Ols :=
  { reading := false, failures := 0, sensorFault := false, theta := none, lastSample := none
    bins := emptyBins, dayLocked := 0, dayCorr := 0, dayTemp := 0
    ring := [], aging := 0, agingEst := false
    retainedAnchor := 0, retainedBin := none, outcome := .defaults
    writing := none, rewritePending := false, retryDue := false, lastWrite := .none
    store := store }

/-- The default advertisement (Table 7-2). -/
def Advertisement.default : Advertisement :=
  { limit := 1100000, allow := true, slew := 100000, squelch := false }

/-- A DETACHED record (R131). -/
def Tenant.detached : Tenant := { attached := false, adv := .default, ackGen := 0 }

/-- The policy with no tenant attached (R137). -/
def Policy.noTenant : Policy := { stepsPermitted := true, sRes := 10000000, lCom := 1100000, squelch := false }

/-- The TRU at a start (R154). -/
def Tru.atStart (c : SiteConfig) : Tru :=
  { tenants := Three.fill .detached, policy := .noTenant, generation := 0, config := c
    serial := 0, joint := none, lastEnded := none }

/-- Every latch at 0 (R207). -/
def Latches.zero : Latches :=
  { timeValid := false, inTolerance := false, locked := false, ovenSettled := false, refFault := false, stepped := false }

/-- The notice state of a detached tenant (R207). -/
def TenantNotices.detached : TenantNotices :=
  { notices := [], pending := [], mask := 0xFFFF, frozen := false, latches := .zero }

/-- A tenant output's record at a start (Table 8-1). -/
def OutputRecord.default : OutputRecord :=
  { enable := false, interval := 1000, width := 1000, offset := 0, mode := .invalid }

/-- OUT3's record as the configuration gives it (R157); its mode is read through R164. -/
def OutputRecord.common (c : SiteConfig) : OutputRecord :=
  { enable := true, interval := c.out3Interval, width := c.out3Width, offset := c.out3Offset, mode := .invalid }

/-- An output at a start (Table 8-5). -/
def Output.atStart (r : OutputRecord) : Output :=
  { current := r, pending := none, state := .disabled, resumeWait := false, pulseLeft := none, passed := none }

/-- The POU at a start (Table 8-5). -/
def pouAtStart (c : SiteConfig) : Four Output :=
  { o0 := .atStart .default, o1 := .atStart .default, o2 := .atStart .default, o3 := .atStart (.common c) }

/-- A port at a start (Table 10-6). -/
def TenantPort.atStart : TenantPort := { state := .idle, overrun := false, clocked := .nothing }

/-- The machine right after reset: every block at the value its chapter gives for a start with DEFAULTS, the start ended
with cause POWER_ON. Where the value comes from a line, the store or the start read, log 1 names the level chosen:
mains good, battery not low, oven not yet settled, no board present, a store never written, a start read that failed. -/
def State.reset : State :=
  { tsg := .atStart
    rmu := .atStart .factory
    sde := .atStart .factory
    ols := { Ols.atStart none with failures := 1 }
    tru := .atStart .factory
    nu := Three.fill .detached
    pou := pouAtStart .factory
    spm :=
      { power := .run, oven := .warming, warmUp := 0, ovenFault := false, soak := 0
        startCause := .powerOn, startPending := none, summary := none }
    tpi := Three.fill .atStart
    pins :=
      { mainsGood := true, battLow := false, ovenOk := false, resetN := true, vddOk := true
        present := Three.fill false }
    freeIndex := 0
    pending := [] }

end Sys2Proof.Machine
end

