-- ==== Sys2Proof/Machine/Arith.lean ====
section
/-!
DEFINITION. The integer arithmetic of R1, the order of the wrap of seconds values, and the median of R36.
-/

namespace Sys2Proof.Machine

/-- A division rounded to the nearest integer, halves away from zero (R1). -/
def roundDiv (a : Int) (b : Nat) : Int :=
  let q : Nat := (2 * a.natAbs + b) / (2 * b)
  if a < 0 then -(q : Int) else q

/-- The magnitude |x| (R1). -/
def mag (x : Int) : Int := x.natAbs

/-- Clamped to a range (R1). -/
def clampTo (lo hi x : Int) : Int := max lo (min hi x)

/-- Clamped to ±b (R1). -/
def clampAbs (b x : Int) : Int := clampTo (-b) b x

/-- The limit of every correction, 20,000,000 ppt (R4, R75). -/
def corrLimit : Int := 20000000

/-- A correction clamped to ±20,000,000 ppt (R4). -/
def clampCorr (x : Int) : Int := clampAbs corrLimit x

/-- A saturating count (R1). -/
def satAdd (limit n : Nat) (k : Nat) : Nat := min limit (n + k)

/-- A division of counts rounded up. -/
def ceilDiv (a b : Nat) : Nat := (a + b - 1) / b

/-- a lies among the 140,737,488,355,328 seconds values that follow b in the order of the wrap (R28, R34). -/
def liesAfter (a b : Seconds) : Bool := 1 ≤ (a - b).toNat && (a - b).toNat ≤ 140737488355328

/-- Insertion into a rising list, equal values kept (R36). -/
def insertRising (x : Int) : List Int → List Int
  | [] => [x]
  | y :: ys => if x ≤ y then x :: y :: ys else y :: insertRising x ys

/-- The values in rising order (R36). -/
def sortRising : List Int → List Int
  | [] => []
  | x :: xs => insertRising x (sortRising xs)

/-- The median: the middle value, or the mean of the two middle ones rounded toward zero (R36). -/
def median (vs : List Int) : Int :=
  let sorted := sortRising vs
  let n := sorted.length
  if n % 2 = 1 then sorted.getD (n / 2) 0
  else Int.tdiv (sorted.getD (n / 2 - 1) 0 + sorted.getD (n / 2) 0) 2

/-- The bin of a temperature: floor((θ + 640)/64), limited to 0 and 31 (R90). -/
def binOf (θ : Int) : BinId :=
  let i := (clampTo 0 31 ((θ + 640) / 64)).toNat
  if h : i < 32 then ⟨i, h⟩ else 31

/-- The day that holds a seconds value (section 5.3). -/
def dayOf (v : Seconds) : Nat := v.toNat / 86400

/-- A four-byte or six-byte signed wire field as an integer (R210). -/
def signed {w : Nat} (x : BitVec w) : Int := x.toInt

end Sys2Proof.Machine
end

