-- ==== Sys2Proof/Machine/Flags.lean ====
section
/-!
DEFINITION. Notices, latches and tolerance flags: posting and merging (R199 to R201), the latches (R208, R209), the notice
line (R206) and the judgement of tolerance (R124).
-/

namespace Sys2Proof.Machine

/-- A start is in progress: its pending cause is present (R178). -/
def State.inStart (s : State) : Bool := s.spm.startPending.isSome

/-- The part serves its tenants and follows its references: in RUN and not in a start (R178, R189). -/
def State.inService (s : State) : Bool := !s.inStart && s.spm.power == .run

/-- Tenant t is attached (R131). -/
def State.attached (s : State) (t : Port) : Bool := (s.tru.tenants.get t).attached

/-! ## Notices (R199 to R201) -/

/-- The number of a kind, which is its priority (Table 11-2). -/
def Report.kind : Report → Nat
  | .tolLost _ => 0
  | .tolRegained _ => 1
  | .clockState _ _ _ => 2
  | .selection _ => 3
  | .refDisqualified _ => 4
  | .refHalted _ => 5
  | .phaseStep _ => 6
  | .secondsSet _ => 7
  | .resolved _ => 8
  | .jointAsked _ _ _ => 9
  | .jointDone _ _ => 10
  | .jointCancelled _ _ => 11
  | .oven _ _ => 12
  | .sensorFault _ => 13
  | .retainedFault _ => 14
  | .outputSquelch _ => 15

/-- The kind number of a notice. -/
def Notice.kind (n : Notice) : Nat := n.report.kind

/-- Union of two sets of slots. -/
def slotUnion (a b : Six Bool) : Six Bool := a.mapIdx fun i x => x || b.get i

/-- Union of two sets of outputs; an output named in both takes the newer state (R200). -/
def outputUnion (old new : Four (Option OutputState)) : Four (Option OutputState) :=
  old.mapIdx fun o x => (new.get o).or x

/-- The report after a merge: the union where Table 11-2 gives "union", else the newer (R200). -/
def Report.merge : Report → Report → Report
  | .refDisqualified a, .refDisqualified b => .refDisqualified (slotUnion a b)
  | .refHalted a, .refHalted b => .refHalted (slotUnion a b)
  | .outputSquelch a, .outputSquelch b => .outputSquelch (outputUnion a b)
  | _, new => new

/-- A newer notice merged into one of its kind (R200). -/
def Notice.merge (old new : Notice) : Notice :=
  { report := old.report.merge new.report, count := satAdd 255 old.count new.count }

/-- A notice joins a set in kind order, or is merged into the one of its kind (R200). -/
def fileNotice (n : Notice) : List Notice → List Notice
  | [] => [n]
  | m :: ms =>
    if n.kind < m.kind then n :: m :: ms
    else if n.kind = m.kind then m.merge n :: ms
    else m :: fileNotice n ms

/-- A kind is enabled in a mask (R205). -/
def kindEnabled (mask : Word16) (kind : Nat) : Bool := mask.getLsbD kind

/-- A posting filed for one tenant, by its frozen flag and mask (R201). -/
def TenantNotices.file (n : TenantNotices) (r : Report) : TenantNotices :=
  if n.frozen then { n with pending := fileNotice ⟨r, 1⟩ n.pending }
  else if kindEnabled n.mask r.kind then { n with notices := fileNotice ⟨r, 1⟩ n.notices }
  else n

/-- A block posts an event kind, naming tenants; it is filed for each named tenant that is attached (R199). -/
def State.post (named : Port → Bool) (r : Report) (s : State) : State :=
  { s with nu := s.nu.mapIdx fun t n => if s.attached t && named t then n.file r else n }

/-- A posting to all attached (R199). -/
def State.postAll (r : Report) (s : State) : State := s.post (fun _ => true) r

/-- A posting to one tenant. -/
def State.postTo (t : Port) (r : Report) (s : State) : State := s.post (fun u => u == t) r

/-- The notice line of tenant t is high (R206). -/
def State.noticeLine (s : State) (t : Port) : Bool :=
  s.attached t && !(s.nu.get t).frozen && !(s.nu.get t).notices.isEmpty

/-! ## Latches (R208, R209) -/

/-- The conditions of the latch-lows of tenant t, as they stand, with both latch-highs at 0: what arming sets (R209). -/
def State.armedLatches (s : State) (t : Port) : Latches :=
  { timeValid := s.tsg.timeValid
    inTolerance := s.sde.tol.get t
    locked := s.sde.clock == .locked
    ovenSettled := s.spm.oven == .settled
    refFault := false
    stepped := false }

/-- A latch-low becomes 0 whenever its condition is false (R208). -/
def Latches.follow (l now : Latches) : Latches :=
  { l with
    timeValid := l.timeValid && now.timeValid
    inTolerance := l.inTolerance && now.inTolerance
    locked := l.locked && now.locked
    ovenSettled := l.ovenSettled && now.ovenSettled }

/-- Every attached tenant's latch-lows follow their conditions; used at each change of one (R208). -/
def State.watchLatches (s : State) : State :=
  { s with
    nu := s.nu.mapIdx fun t n => if s.attached t then { n with latches := n.latches.follow (s.armedLatches t) } else n }

/-- Arming of tenant t's latches (R209). -/
def State.armLatches (t : Port) (s : State) : State :=
  { s with nu := s.nu.set t { s.nu.get t with latches := s.armedLatches t } }

/-- The event of the latch REF_FAULT (R208). -/
def State.latchRefFault (s : State) : State :=
  { s with
    nu := s.nu.mapIdx fun t n => if s.attached t then { n with latches := { n.latches with refFault := true } } else n }

/-- The event of the latch STEPPED (R208). -/
def State.latchStepped (s : State) : State :=
  { s with
    nu := s.nu.mapIdx fun t n => if s.attached t then { n with latches := { n.latches with stepped := true } } else n }

/-! ## Tolerance (R124, R125) -/

/-- Tenant t is in tolerance: attached, time valid and E ≤ L_t (R124). -/
def State.toleranceOf (s : State) (t : Port) : Bool :=
  s.attached t && s.tsg.timeValid && decide (s.sde.e ≤ (s.tru.tenants.get t).adv.limit)

/-- Sets the tolerance flag of tenant t. -/
def State.setTol (t : Port) (b : Bool) (s : State) : State :=
  { s with sde := { s.sde with tol := s.sde.tol.set t b } }

/-- Judges tenant t if it is attached; a change of its flag posts TOL_LOST or TOL_REGAINED to it alone (R124). -/
def State.judgeTenant (t : Port) (s : State) : State :=
  if !s.attached t || s.toleranceOf t == s.sde.tol.get t then s
  else
    (s.setTol t (s.toleranceOf t)).watchLatches.postTo t
      (if s.toleranceOf t then .tolRegained s.sde.e else .tolLost s.sde.e)

/-- Judges every attached tenant (R124). -/
def State.judgeAll (s : State) : State := ((s.judgeTenant 0).judgeTenant 1).judgeTenant 2

/-- A change of E, at which every attached tenant is judged (R119, R124). -/
def State.setE (e : Int) (s : State) : State :=
  State.judgeAll { s with sde := { s.sde with e := min e eCap } }

end Sys2Proof.Machine
end

