-- ==== Sys2Proof/Machine/Ops.lean ====
section
/-!
DEFINITION. Named operations that several commands share: the advance of site time and the changes the SDE orders
(R3, R8 to R13), queues and tallies (R30, R31), the current bin (R90), retained writes (R98 to R100), clock state changes
(R61), anchors (R110), oven switching (R174) and the resolution (R137).
-/

namespace Sys2Proof.Machine

/-! ## Site time (chapter 1) -/

/-- Picoseconds in a second (R2). -/
def psPerSecond : Nat := 1000000000000

/-- Units of site time in a picosecond: each cycle adds 50,000 ps plus F_app/20,000,000 ps (R3). -/
def unitsPerPs : Nat := 20000000

/-- Units in a second. -/
def unitsPerSecond : Nat := psPerSecond * unitsPerPs

/-- The phase of an epoch close, 250 ms (R34). -/
def closePhase : Nat := 250000000000

/-- Site time within the second, in units. -/
def Tsg.position (t : Tsg) : Nat := t.phase * unitsPerPs + t.frac

/-- Site time moved to a position within the second. -/
def Tsg.atPosition (t : Tsg) (u : Nat) : Tsg := { t with phase := u / unitsPerPs, frac := u % unitsPerPs }

/-- What one OSC_IN cycle adds to site time, in units: 50,000 × (10¹² + F_app) / 10¹² ps (R3). -/
def Tsg.cycleAdvance (t : Tsg) : Nat := (1000000000000 + t.fApp).toNat

/-- The width left of each pulse in progress after an advance (R161). -/
def Output.elapse (units : Nat) (o : Output) : Output := { o with pulseLeft := o.pulseLeft.map (· - units) }

/-- An interval of so many ms, in units of site time. -/
def intervalUnits (ms : Nat) : Nat := ms * 1000000000 * unitsPerPs

/-- How far site time stands past the record's latest pulse instant, in units (R159). -/
def pastInstant (t : Tsg) (r : OutputRecord) : Nat :=
  (((t.position : Int) - r.offset * unitsPerPs) % (intervalUnits r.interval : Int)).toNat

/-- The pulse instant that site time, having come to t by an advance of `reach` units, has just passed: how far past it t
stands (R160). -/
def Output.passing (t : Tsg) (reach : Nat) (o : Output) : Option Nat :=
  if pastInstant t o.current < reach then some (pastInstant t o.current) else none

/-- An output after site time has come to t by so many cycles of `adv` units: the pulse in progress has that much less left,
and the instant the latest cycle passed is marked (R160, R161; log 3). -/
def Output.advance (t : Tsg) (cycles adv : Nat) (o : Output) : Output :=
  if cycles = 0 then o else { o.elapse (cycles * adv) with passed := o.passing t adv }

/-- Site time advances by so many cycles within the current second; it does not pass the second's end, which is the
event EPOCH_BOUNDARY (log 3). -/
def State.advanceCycles (n : Nat) (s : State) : State :=
  let adv := s.tsg.cycleAdvance
  let m := min n ((unitsPerSecond - 1 - s.tsg.position) / adv)
  let t := s.tsg.atPosition (s.tsg.position + m * adv)
  { s with tsg := t, pou := s.pou.mapIdx fun _ o => o.advance t m adv }

/-- Site time advances by the least number of whole cycles that brings it to the phase given, when it stands before it. -/
def State.advanceToPhase (ps : Nat) (s : State) : State :=
  s.advanceCycles (ceilDiv (ps * unitsPerPs - s.tsg.position) s.tsg.cycleAdvance)

/-- Site time advances by the least number of whole cycles that passes the end of the second: the seconds count rises by
one and the phase continues from 0 (R6). -/
def State.passSecond (s : State) : State :=
  let adv := s.tsg.cycleAdvance
  let n := ceilDiv (unitsPerSecond - s.tsg.position) adv
  { s with
    tsg :=
      { s.tsg.atPosition ((s.tsg.position + n * adv - unitsPerSecond) % unitsPerSecond) with
        seconds := s.tsg.seconds + 1 }
    pou := s.pou.mapIdx fun _ o => o.elapse (n * adv) }

/-- The SDE orders a new F_app; the TSG clamps it (R4). -/
def State.orderFApp (f : Int) (s : State) : State := { s with tsg := { s.tsg with fApp := clampCorr f } }

/-- An ordered phase step after the limit of R11. -/
def limitStep (d : Int) : Int := clampAbs 499999999999 d

/-- The TSG's change at a phase step of Δ, already limited (R8, R9). A step past the end of the second continues from 0 in
the next (R2). -/
def Tsg.step (t : Tsg) (d : Int) : Tsg :=
  let p := (t.phase : Int) + d
  if p < 0 then { t with phase := (p + psPerSecond).toNat, seconds := t.seconds - 1, reRun := true }
  else if p < psPerSecond then { t with phase := p.toNat }
  else { t with phase := (p - psPerSecond).toNat, seconds := t.seconds + 1 }

/-! ## Slots (chapter 2) -/

/-- A phase-capable slot: every slot but LF (section 0.3). -/
def phaseCapable (n : SlotId) : Bool := n != lfSlot

/-- A slot whose state takes observations: not OFF, HALTING or DISQUALIFIED (R24, R25, R28). -/
def SlotState.takes : SlotState → Bool
  | .qualifying => true
  | .usable => true
  | .selected => true
  | .off => false
  | .disqualified => false
  | .halting => false

/-- The entries of a queue, the halt mark left aside. -/
def entriesOf (q : List QueueItem) : List Entry :=
  q.filterMap fun i => match i with
    | .entry e => some e
    | .haltMark => none

/-- The entries stamped with an epoch, in the order taken. -/
def entriesStamped (k : Seconds) (q : List QueueItem) : List Entry := (entriesOf q).filter fun e => e.stamp == k

/-- The queue without the entries stamped with an epoch. -/
def dropStamped (k : Seconds) (q : List QueueItem) : List QueueItem :=
  q.filter fun i => match i with
    | .entry e => e.stamp != k
    | .haltMark => true

/-- The queue with each entry changed, marks kept. -/
def mapEntries (f : Entry → Entry) (q : List QueueItem) : List QueueItem :=
  q.map fun i => match i with
    | .entry e => .entry (f e)
    | .haltMark => .haltMark

/-- The set of fault kinds is not empty: the fault mark (R31). -/
def FaultSet.marked (f : FaultSet) : Bool := f.gate || f.label || f.quality || f.extra || f.stale

/-- Union of two sets of fault kinds. -/
def FaultSet.union (a b : FaultSet) : FaultSet :=
  { gate := a.gate || b.gate, label := a.label || b.label, quality := a.quality || b.quality
    extra := a.extra || b.extra, stale := a.stale || b.stale }

/-- The tally of an epoch, one with nothing taken when there is none (R31). -/
def tallyOf (k : Seconds) (ts : List Tally) : Tally := (ts.find? fun t => t.epoch == k).getD ⟨k, {}, 0⟩

/-- Something is taken for an epoch: its tally is made by its first taken observation, and takes fault kinds and pulses
(R31). -/
def markTally (k : Seconds) (f : FaultSet) (pulses : Nat) : List Tally → List Tally
  | [] => [⟨k, f, pulses⟩]
  | t :: ts =>
    if t.epoch = k then { t with faults := t.faults.union f, pulses := t.pulses + pulses } :: ts
    else t :: markTally k f pulses ts

/-- An observation joins a slot's queue at the tail (R30). -/
def Slot.enqueue (sl : Slot) (e : Entry) (pulses : Nat) : Slot :=
  { sl with queue := sl.queue ++ [.entry e], tallies := markTally e.stamp {} pulses sl.tallies }

/-- A faulty observation marks its epoch's tally and is not queued (R24, R27, R29). -/
def Slot.fault (sl : Slot) (k : Seconds) (f : FaultSet) (pulses : Nat) : Slot :=
  { sl with tallies := markTally k f pulses sl.tallies }

/-- The value fails the gate: the last epoch value is present and differs by more than the gate. -/
def Slot.gated (sl : Slot) (v : Int) : Bool :=
  match sl.lastValue with
  | none => false
  | some l => decide (sl.settings.gate < mag (v - l))

/-- The queue emptied and the tallies discarded (R30). -/
def Slot.emptied (sl : Slot) : Slot := { sl with queue := [], tallies := [] }

/-- The four counters at 0 (Table 2-8). -/
def Slot.countersZero (sl : Slot) : Slot :=
  { sl with faultCount := 0, qualifyCount := 0, emptyRun := 0, usableRun := 0 }

/-- A slot's halt ends (R41). -/
def Slot.endHalt (enable : Bool) (sl : Slot) : Slot :=
  { sl.emptied.countersZero with
    state := if enable then .qualifying else .off
    lastValue := none
    holdOff := 0 }

/-- The epoch is not closed: it lies after the last-closed epoch (R24, R28). -/
def Rmu.isOpen (r : Rmu) (k : Seconds) : Bool := liesAfter k r.lastClosed

/-- The slot of a pulse input (Table 0-2). -/
def pulseSlot : PulseInput → SlotId
  | .pa => 0
  | .pb => 1

/-- The label target of a pulse slot. -/
def Rmu.target (r : Rmu) : PulseInput → Option LabelTarget
  | .pa => r.targetA
  | .pb => r.targetB

/-- Replaces the label target of a pulse slot. -/
def Rmu.setTarget (r : Rmu) (p : PulseInput) (x : Option LabelTarget) : Rmu :=
  match p with
  | .pa => { r with targetA := x }
  | .pb => { r with targetB := x }

/-- Replaces one slot. -/
def Rmu.setSlot (r : Rmu) (n : SlotId) (sl : Slot) : Rmu := { r with slots := r.slots.set n sl }

/-- The set that names one slot. -/
def oneSlot (n : SlotId) : Six Bool := (Six.fill false).set n true

/-- REF_HALTED is posted for a slot (R41). -/
def State.postHalted (n : SlotId) (s : State) : State := s.postAll (.refHalted (oneSlot n))

/-- REF_DISQUALIFIED is posted for a slot, and every attached tenant's REF_FAULT latch records it (R38, R208). -/
def State.postDisqualified (n : SlotId) (s : State) : State := (s.postAll (.refDisqualified (oneSlot n))).latchRefFault

/-- One act for each slot in slot order. -/
def State.forSlots (f : SlotId → State → State) (s : State) : State :=
  f 5 (f 4 (f 3 (f 2 (f 1 (f 0 s)))))

/-- One act for each tenant port in order. -/
def State.forPorts (f : Port → State → State) (s : State) : State := f 2 (f 1 (f 0 s))

/-- One act for each output in order. -/
def State.forOutputs (f : OutId → State → State) (s : State) : State := f 3 (f 2 (f 1 (f 0 s)))

/-! ## Changes applied by the TSG at the end of a loop update (R13) -/

/-- The RMU's share of a phase step: the applied Δ is subtracted from the last epoch phase and every queued phase of the
phase slots (R32). -/
def Slot.shiftPhase (d : Int) (sl : Slot) : Slot :=
  { sl with
    lastValue := sl.lastValue.map (· - d)
    queue := mapEntries (fun e => { e with value := e.value - d }) sl.queue }

/-- A phase step of Δ is applied: by the TSG (R8, R9), and by the RMU in the same change (R32); the next LF observation is
void (R26). The Δ is limited first (R11). -/
def State.applyStep (ordered : Int) (s : State) : State :=
  let d := limitStep ordered
  { s with
    tsg := s.tsg.step d
    rmu :=
      { s.rmu with
        slots := s.rmu.slots.mapIdx fun n sl => if phaseCapable n then sl.shiftPhase d else sl
        lfVoid := true } }

/-- An epoch renumbered by a seconds set (R33). -/
def Slot.renumber (d : Seconds) (sl : Slot) : Slot :=
  { sl with
    queue := mapEntries (fun e => { e with stamp := e.stamp + d }) sl.queue
    tallies := sl.tallies.map fun t => { t with epoch := t.epoch + d } }

/-- The label target's epoch moves with a seconds set (R33). -/
def LabelTarget.renumber (d : Seconds) (x : LabelTarget) : LabelTarget := { x with epoch := x.epoch + d }

/-- A seconds set to v is applied: the count becomes v (R12), the RMU renumbers (R33), the OLS clears its day accumulators
when the set crosses a day (R96), and the next LF observation is void (R26). -/
def State.applySet (v : Seconds) (s : State) : State :=
  let c := s.tsg.seconds
  let d := v - c
  { s with
    tsg := { s.tsg with seconds := v }
    rmu :=
      { s.rmu with
        slots := s.rmu.slots.mapIdx fun _ sl => sl.renumber d
        targetA := s.rmu.targetA.map (LabelTarget.renumber d)
        targetB := s.rmu.targetB.map (LabelTarget.renumber d)
        lastClosed := s.rmu.lastClosed + d
        lfVoid := true }
    ols := if dayOf c = dayOf v then s.ols else { s.ols with dayLocked := 0, dayCorr := 0, dayTemp := 0 } }

/-! ## The learning store (chapter 5) -/

/-- The current bin: the bin of θs, absent while θs is absent (R90). -/
def State.currentBin (s : State) : Option BinId := s.ols.theta.map binOf

/-- A bin is usable when its count is 16 or more (R91). -/
def Ols.usable (o : Ols) (b : BinId) : Bool := 16 ≤ (o.bins.get b).count

/-- Learning is enabled (R92). -/
def State.learningEnabled (s : State) : Bool :=
  s.spm.oven == .settled && s.spm.soak == 0 && !s.ols.sensorFault && s.ols.theta.isSome && s.spm.power == .run

/-- The temperature term of a prediction from a given anchor bin, present when it is in use (R111, R113). -/
def State.tempTerm (s : State) (anchor : Option BinId) : Option Int :=
  match s.currentBin, anchor with
  | some b, some a =>
    if s.ols.usable b && s.ols.usable a && !s.ols.sensorFault then some ((s.ols.bins.get b).mean - (s.ols.bins.get a).mean)
    else none
  | _, _ => none

/-- The content a write takes, as it stands when the write starts (R98). -/
def State.retainedContent (s : State) : RetainedContent :=
  { config := s.tru.config
    bins := s.ols.bins
    ring := s.ols.ring
    aging := s.ols.aging
    anchor := if s.sde.lockedSinceStart then s.sde.fAvg else s.ols.retainedAnchor
    anchorBin := if s.sde.lockedSinceStart then s.sde.fAvgBin else s.ols.retainedBin }

/-- A write starts with the content current now, in its first phase (R98, R99). -/
def State.startWrite (s : State) : State := { s with ols := { s.ols with writing := some ⟨s.retainedContent, .invalidate⟩ } }

/-- A retained write is requested: it starts at once when the writer is IDLE, and else sets rewrite pending (R100). -/
def State.requestWrite (s : State) : State :=
  if s.ols.writing.isNone then s.startWrite else { s with ols := { s.ols with rewritePending := true } }

/-- The aging slope and the established flag from the end records of the ring (R97). -/
def agingOf (ring : List DayRecord) : Int × Bool :=
  match ring.head?, ring.getLast? with
  | some o, some n =>
    if 2 ≤ ring.length ∧ o.day + 2 ≤ n.day then
      (clampAbs 1000 (roundDiv (n.meanCorr - o.meanCorr) (n.day - o.day)), true)
    else (0, false)
  | _, _ => (0, false)

/-- A valid sample (R88). -/
def State.validSample (θ : Int) (s : State) : State :=
  let smoothed : Int :=
    match s.ols.theta with
    | none => θ
    | some old => if s.ols.sensorFault then θ else old + roundDiv (θ - old) 8
  let s' : State :=
    { s with ols := { s.ols with lastSample := some θ, failures := 0, theta := some smoothed, sensorFault := false } }
  if s.ols.sensorFault then s'.postAll (.sensorFault false) else s'

/-- A failed sample (R89). -/
def State.failedSample (s : State) : State :=
  let n := satAdd 10 s.ols.failures 1
  if n = 10 ∧ s.ols.sensorFault = false then
    State.postAll (.sensorFault true) { s with ols := { s.ols with failures := n, sensorFault := true } }
  else { s with ols := { s.ols with failures := n } }

/-- A sensor read ends: a value in −880 to +2,000 is a valid sample, anything else a failed one (R87). -/
def State.endRead (r : SensorResult) (s : State) : State :=
  match r with
  | .noAnswer => s.failedSample
  | .value θ => if -880 ≤ θ ∧ θ ≤ 2000 then s.validSample θ else s.failedSample

/-! ## Clock states and accounting (chapters 3 and 6) -/

/-- The CLOCK_STATE report as the clock stands (R61). -/
def State.clockReport (s : State) : Report := .clockState s.sde.clock s.sde.assisted s.tsg.timeValid

/-- The clock enters a state. Leaving HOLDOVER clears the assisted flag (R60), leaving ACQUIRE clears step-now and step
decision pending (R63, Table 3-6). A change posts CLOCK_STATE, and the latches follow it (R61, R208). -/
def State.enterClock (c : ClockState) (s : State) : State :=
  if c = s.sde.clock then s
  else
    let s' : State :=
      { s with
        sde :=
          { s.sde with
            clock := c
            assisted := false
            stepNow := s.sde.stepNow && s.sde.clock != .acquire
            stepDecisionPending := s.sde.stepDecisionPending && s.sde.clock != .acquire } }
    s'.watchLatches.postAll s'.clockReport

/-- An anchor is taken with the correction given, the current bin and the seconds count; the hours restart (R110, R112). -/
def State.takeAnchor (fa : Int) (s : State) : State :=
  { s with
    sde := { s.sde with anchorCorr := fa, anchorBin := s.currentBin, anchorSeconds := s.tsg.seconds, hours := 0 } }

/-- E at entry to BRIDGE or HOLDOVER: E_floor plus the magnitude of the last selected slot's last epoch phase, an absent
slot or value counting as 0 (R121). -/
def State.entryE (s : State) : Int :=
  let last : Int := ((s.sde.lastSelected.bind fun n => (s.rmu.slots.get n).lastValue).map mag).getD 0
  s.tru.config.eFloor + last

/-- The clock enters HOLDOVER: decision pending and bridge remaining are cleared, the anchor is F_avg (R110), and E is set
unless the clock comes from BRIDGE (R121). -/
def State.enterHoldover (s : State) : State :=
  let kept := s.sde.clock == .bridge
  let e := s.entryE
  let s' := (State.enterClock .holdover { s with sde := { s.sde with decisionPending := false, bridgeRemaining := 0 } })
  let s'' := s'.takeAnchor s'.sde.fAvg
  if kept then s'' else s''.setE e

/-- The clock enters BRIDGE: F_app becomes F_int, the anchor is F_int, bridge remaining is the setting, and E is set (R56,
R117, R121). -/
def State.enterBridge (s : State) : State :=
  let e := s.entryE
  let s' :=
    State.enterClock .bridge
      { s with sde := { s.sde with decisionPending := false, bridgeRemaining := s.tru.config.bridgeTime } }
  ((s'.orderFApp s'.sde.fInt).takeAnchor s'.sde.fInt).setE e

/-- The clock enters FREERUN: E goes to its cap (R119). -/
def State.enterFreerun (s : State) : State := (State.enterClock .freerun s).setE eCap

/-- Cold operation (R118). -/
def State.cold (s : State) : Bool :=
  (s.sde.clock == .bridge || s.sde.clock == .holdover) && s.spm.oven != .settled

/-! ## The oven (section 9.2) -/

/-- OVEN_EN is high: the oven is not OFF, or a start is in progress (R174, R178). -/
def State.ovenEnable (s : State) : Bool := s.inStart || s.spm.oven != .off

/-- OVEN is posted with the oven as it stands (R177). -/
def State.postOven (s : State) : State := s.postAll (.oven s.spm.oven s.spm.ovenFault)

/-- The oven becomes SETTLED: the soak starts, warm-up elapsed and the fault flag are cleared (R174). -/
def State.ovenSettles (s : State) : State :=
  State.postOven (State.watchLatches
    { s with spm := { s.spm with oven := .settled, soak := 1800, warmUp := 0, ovenFault := false } })

/-- The oven is switched on: WARMING, and SETTLED in the same change when OVEN_OK is high (R174). -/
def State.ovenOn (s : State) : State :=
  let s' := State.postOven (State.watchLatches { s with spm := { s.spm with oven := .warming, warmUp := 0 } })
  if s.pins.ovenOk then s'.ovenSettles else s'

/-- The oven is switched off (R174). -/
def State.ovenOff (s : State) : State :=
  let s' : State := { s with spm := { s.spm with oven := .off, warmUp := 0, soak := 0, ovenFault := false } }
  if s.spm.oven = .off then s' else s'.watchLatches.postOven

/-! ## The resolution (section 7.3) -/

/-- The policy resolved from the tenants attached (R137). -/
def resolvedPolicy (ts : Three Tenant) : Policy :=
  let advs := ([ts.t0, ts.t1, ts.t2].filter (·.attached)).map (·.adv)
  match advs with
  | [] => .noTenant
  | a :: as =>
    { stepsPermitted := (a :: as).all (·.allow)
      sRes := as.foldl (fun m x => min m x.slew) a.slew
      lCom := as.foldl (fun m x => min m x.limit) a.limit
      squelch := (a :: as).any (·.squelch) }

/-- The resolution runs: the policy is derived afresh, the generation rises by 1, and RESOLVED is posted (R137, R138). -/
def State.resolve (s : State) : State :=
  let s' : State :=
    { s with tru := { s.tru with policy := resolvedPolicy s.tru.tenants, generation := s.tru.generation + 1 } }
  s'.postAll (.resolved s'.tru.generation)

/-- Tenant t is given the resolved policy: its acknowledged generation becomes the current one while it is attached
(R138). -/
def State.acknowledge (t : Port) (s : State) : State :=
  if s.attached t then
    { s with
      tru :=
        { s.tru with tenants := s.tru.tenants.set t { s.tru.tenants.get t with ackGen := s.tru.generation } } }
  else s

/-- The policy-unread indication of tenant t (R138). -/
def State.policyUnread (s : State) (t : Port) : Bool := (s.tru.tenants.get t).ackGen != s.tru.generation

end Sys2Proof.Machine
end

