-- ==== Sys2Proof/Machine/Reference.lean ====
section
/-!
DEFINITION. The Reference Measurement Unit (chapter 2): judging pulses, labels, LF observations and reports, closing an
epoch for a slot, adopting settings, and the slots at keep-alive entry, restart and enable changes.
-/

namespace Sys2Proof.Machine

/-! ## Observations (section 2.2) -/

/-- The epoch and the phase of a pulse at site time c s + phase, with the slot's cable compensation: the nearest second
mark, half-way belonging to the earlier one (R23). -/
def pulseEpoch (c : Seconds) (phase : Nat) (comp : Int) : Seconds × Int :=
  let x := (phase : Int) - comp
  if x ≤ 500000000000 then (c, -x) else (c + 1, psPerSecond - x)

/-- A pulse is taken in the slot's state at the edge (R24). -/
def Rmu.takePulse (r : Rmu) (p : PulseInput) (c : Seconds) (phase : Nat) : Rmu :=
  let sl := r.slots.get (pulseSlot p)
  let k := (pulseEpoch c phase sl.settings.comp).1
  let e := (pulseEpoch c phase sl.settings.comp).2
  if !sl.state.takes || !r.isOpen k then r
  else if 1 ≤ (tallyOf k sl.tallies).pulses then
    (r.setSlot (pulseSlot p) (sl.fault k { extra := true } 1)).setTarget p (some ⟨k, false, none⟩)
  else if sl.gated e then
    (r.setSlot (pulseSlot p) (sl.fault k { gate := true } 1)).setTarget p (some ⟨k, false, none⟩)
  else
    (r.setSlot (pulseSlot p) (sl.enqueue ⟨k, e, none, none⟩ 1)).setTarget p (some ⟨k, true, none⟩)

/-- A label message received whole is judged against the label target (R25). -/
def Rmu.takeLabel (r : Rmu) (p : PulseInput) (label : Seconds) (fixValid timeValid : Bool) : Rmu :=
  let sl := r.slots.get (pulseSlot p)
  match r.target p with
  | none => r
  | some x =>
    if !sl.state.takes || !r.isOpen x.epoch || x.label.isSome then r
    else
      let r' := r.setTarget p (some { x with label := some label })
      if !x.hasEntry then r'
      else if !fixValid then
        r'.setSlot (pulseSlot p) { sl.fault x.epoch { quality := true } 0 with queue := dropStamped x.epoch sl.queue }
      else if timeValid && sl.state != .selected && label != x.epoch then
        r'.setSlot (pulseSlot p) { sl.fault x.epoch { label := true } 0 with queue := dropStamped x.epoch sl.queue }
      else
        r'.setSlot (pulseSlot p)
          { sl with
            queue := mapEntries (fun e => if e.stamp = x.epoch then { e with label := some label } else e) sl.queue }

/-- The LF mark: the line clock's accumulated phase in whole ps at the nominal frequency, rounded (R1, R26), from its count in
10⁻¹² of a cycle (log 6). -/
def lfMarkOf (nominal picocycles : Nat) : Nat := (roundDiv picocycles nominal).toNat

/-- The LF epoch frequency between two marks: f = 10¹² − D, with D their difference in ps (R26). -/
def lfFrequency (old new : Nat) : Int := 1000000000000 - ((new : Int) - old)

/-- An LF observation for epoch k is judged (R27). -/
def Slot.takeLf (k : Seconds) (f : Int) (sl : Slot) : Slot :=
  if !sl.state.takes then sl
  else if sl.gated f then sl.fault k { gate := true } 0
  else sl.enqueue ⟨k, f, none, none⟩ 0

/-- At a raised boundary that ends epoch k the LF mark is taken, and the observation is formed when the previous mark is
there and nothing has made it void (R26). -/
def Rmu.takeLineClock (r : Rmu) (k : Seconds) (line : LineClock) : Rmu :=
  match line with
  | .inGap => { r with lfMark := none }
  | .counted picocycles gapSeen =>
    let new := lfMarkOf r.lfNominal picocycles
    let r' : Rmu := { r with lfMark := some new, lfVoid := false }
    match r.lfMark with
    | none => r'
    | some old =>
      if r.lfVoid || gapSeen then r'
      else r'.setSlot lfSlot ((r.slots.get lfSlot).takeLf k (lfFrequency old new))

/-- The answer to a phase report: a refusal, or a disposition (R28, R29). -/
inductive ReportJudgement where
  | refused (o : OutcomeCode)
  | judged (d : Disposition)
deriving DecidableEq, Repr

/-- A stamp is open: the current seconds count or the one before it, of an epoch not yet closed (R28). -/
def Rmu.stampOpen (r : Rmu) (c stamp : Seconds) : Bool := (stamp == c || stamp == c - 1) && r.isOpen stamp

/-- The phase a report is judged by, and queued with: e plus the slot's cable compensation (R29). -/
def reportPhase (sl : Slot) (f : ReportFields) : Int := signed f.phase + sl.settings.comp

/-- A phase report for a report slot is refused, or judged (Table 2-4, R29). -/
def Rmu.judgeReport (r : Rmu) (n : SlotId) (c : Seconds) (timeValid : Bool) (f : ReportFields) : ReportJudgement :=
  let sl := r.slots.get n
  let e := signed f.phase
  if !sl.state.takes then .refused .ignored
  else if mag e > 499999999999 || f.quality.toNat > 7 then .refused .badValue
  else if !r.stampOpen c f.stamp && liesAfter f.stamp c then .refused .early
  else if !r.stampOpen c f.stamp then .refused .late
  else if 16 ≤ (entriesStamped f.stamp sl.queue).length then .refused .full
  else if sl.gated (reportPhase sl f) then .judged .gate
  else if f.label.isSome && timeValid && f.label != some f.stamp && sl.state != .selected then .judged .label
  else if f.quality.toNat = 7 then .judged .quality
  else .judged .entry

/-- What the judgement does to the slot (R28, R29): a refusal leaves it as it is. -/
def Slot.takeReport (sl : Slot) (f : ReportFields) : ReportJudgement → Slot
  | .refused _ => sl
  | .judged .entry => sl.enqueue ⟨f.stamp, reportPhase sl f, some f.quality.toNat, f.label⟩ 0
  | .judged .gate => sl.fault f.stamp { gate := true } 0
  | .judged .label => sl.fault f.stamp { label := true } 0
  | .judged .quality => sl.fault f.stamp { quality := true } 0

/-! ## The epoch close (section 2.4) -/

/-- An epoch's outcome, with what the summary carries of it (R35, R42). -/
inductive EpochOutcome where
  | good (value : Int) (label : Option Seconds)
  | empty
  | faulty (kinds : FaultSet)
  | none
deriving DecidableEq, Repr

/-- One item of the epoch summary (R42). -/
structure SlotItem where
  state : SlotState
  outcome : EpochOutcome
  priority : Nat
  usableRun : Nat
  /-- The slot's halt ended at this close (R41, R84; log 32). -/
  haltEnded : Bool
deriving DecidableEq, Repr

/-- The outcome of epoch k for a slot that takes one, and the empty run it leaves (R35, R36). -/
def Slot.outcomeOf (k : Seconds) (sl : Slot) : EpochOutcome × Nat :=
  let entries := entriesStamped k sl.queue
  let faults := (tallyOf k sl.tallies).faults
  let run := satAdd 65535 sl.emptyRun 1
  if faults.marked then (.faulty faults, 0)
  else if !entries.isEmpty then
    (.good (median (entries.map (·.value))) (entries.filterMap (·.label)).getLast?, 0)
  else if sl.settings.freshness < run then (.faulty { stale := true }, run)
  else (.empty, run)

/-- The outcome acts on the slot's counters, and on its last value, label and faults (R36, R37). -/
def Slot.count (o : EpochOutcome) (run : Nat) (sl : Slot) : Slot :=
  match o with
  | .good v l =>
    let q := if sl.state = .qualifying then sl.qualifyCount + 1 else sl.qualifyCount
    { sl with
      faultCount := 0
      emptyRun := 0
      qualifyCount := q
      state := if sl.state = .qualifying ∧ sl.settings.qualify ≤ q then .usable else sl.state
      lastValue := some v
      lastLabel := l.or sl.lastLabel }
  | .faulty kinds =>
    { sl with
      faultCount := satAdd 3 sl.faultCount 1
      qualifyCount := 0
      emptyRun := run
      lastFaults := kinds }
  | .empty => { sl with emptyRun := run }
  | .none => sl

/-- The slot enters DISQUALIFIED (R38). -/
def Slot.disqualify (sl : Slot) : Slot :=
  { sl.emptied with
    state := .disqualified
    lastValue := none
    holdOff := 60 * 2 ^ sl.streak
    streak := min (sl.streak + 1) 4
    usableRun := 0 }

/-- The USABLE run at a close, and the forgiveness at 3,600 (R40). -/
def Slot.runOn (sl : Slot) : Slot :=
  if sl.state = .usable ∨ sl.state = .selected then
    let n := satAdd 3600 sl.usableRun 1
    { sl with usableRun := n, streak := if n = 3600 then 0 else sl.streak }
  else { sl with usableRun := 0 }

/-- What a close leaves of one slot: the slot, its item, and whether it was disqualified or ended a halt at it. -/
structure SlotClose where
  slot : Slot
  item : SlotItem
  disqualified : Bool
  halted : Bool
deriving DecidableEq, Repr

/-- The close of epoch k for one slot (R35 to R41). -/
def Slot.close (enable : Bool) (k : Seconds) (sl : Slot) : SlotClose :=
  if sl.state = .off ∨ sl.state = .disqualified then
    { slot := sl, item := ⟨sl.state, .none, sl.settings.priority, sl.usableRun, false⟩, disqualified := false, halted := false }
  else
    let outcome := (sl.outcomeOf k).1
    let counted := sl.count outcome (sl.outcomeOf k).2
    let taken : Slot :=
      { counted with
        queue := dropStamped k sl.queue
        tallies := sl.tallies.filter fun t => t.epoch != k }
    let disq := decide (3 ≤ taken.faultCount)
    let ran := (if disq then taken.disqualify else taken).runOn
    let halted := decide (sl.state = .halting)
    let final := if halted then ran.endHalt enable else ran
    { slot := final
      item := ⟨final.state, outcome, final.settings.priority, final.usableRun, halted⟩
      disqualified := disq
      halted := halted }

/-! ## Adoption of settings (R22) -/

/-- A slot adopts its settings: held phases move by the change of cable compensation, and a qualify count at or above the
new setting is reduced to one less (R22). -/
def Slot.adopt (phaseSlot : Bool) (new : SlotSettings) (sl : Slot) : Slot :=
  let d := if phaseSlot then new.comp - sl.settings.comp else 0
  { sl with
    settings := new
    lastValue := sl.lastValue.map (· + d)
    queue := mapEntries (fun e => { e with value := e.value + d }) sl.queue
    qualifyCount :=
      if sl.state = .qualifying ∧ new.qualify ≤ sl.qualifyCount then new.qualify - 1 else sl.qualifyCount }

/-- The RMU adopts the settings of the configuration; a new LF nominal frequency makes the LF mark and last f absent
(R22). -/
def Rmu.adopt (r : Rmu) (c : SiteConfig) : Rmu :=
  let slots := r.slots.mapIdx fun n sl => sl.adopt (phaseCapable n) (c.slots.get n).settings
  if c.lfNominal = r.lfNominal then { r with slots := slots }
  else
    { r with
      slots := slots.set lfSlot { slots.get lfSlot with lastValue := none }
      lfMark := none
      lfNominal := c.lfNominal }

/-! ## Other changes of the slots -/

/-- A slot becomes QUALIFYING with its counters 0 at the end of its hold-off (R39). -/
def Slot.endHoldOff (sl : Slot) : Slot := { sl.countersZero with state := .qualifying, holdOff := 0 }

/-- Hold-off remaining falls by 1 at a raised boundary (R39). -/
def Slot.countHoldOff (sl : Slot) : Slot :=
  if sl.state = .disqualified then { sl with holdOff := sl.holdOff - 1 } else sl

/-- A slot at entry to KEEPALIVE from RUN (R43). -/
def Slot.keepAlive (enable : Bool) (sl : Slot) : Slot :=
  match sl.state with
  | .qualifying | .usable | .selected => { sl.emptied.countersZero with state := .qualifying, lastValue := none }
  | .halting => sl.endHalt enable
  | .disqualified => sl
  | .off => sl

/-- A slot at the execution of RESTART_CLOCK (R45). -/
def Slot.restart (sl : Slot) : Slot :=
  match sl.state with
  | .qualifying | .usable | .selected | .disqualified => { sl.countersZero with state := .qualifying, holdOff := 0 }
  | .halting => sl
  | .off => sl

/-- A slot whose enable is set off at the execution of a CONFIGURE (Table 2-3). -/
def Slot.disable (sl : Slot) : Slot :=
  match sl.state with
  | .qualifying | .usable | .selected => { sl with state := .halting, queue := sl.queue ++ [.haltMark] }
  | .disqualified => { sl with state := .off, holdOff := 0, lastValue := none }
  | .off => sl
  | .halting => sl

/-- A slot whose enable is set on at the execution of a CONFIGURE (Table 2-3). -/
def Slot.enableOn (sl : Slot) : Slot :=
  match sl.state with
  | .off => { sl.countersZero with state := .qualifying }
  | .qualifying | .usable | .selected | .disqualified | .halting => sl

/-- A slot's enable set to a value it does not have (R21): DISQUALIFIED set off posts REF_HALTED. -/
def State.changeEnable (n : SlotId) (on : Bool) (s : State) : State :=
  let sl := s.rmu.slots.get n
  let s' : State := { s with rmu := s.rmu.setSlot n (if on then sl.enableOn else sl.disable) }
  if !on && sl.state == .disqualified then s'.postHalted n else s'

end Sys2Proof.Machine
end

