-- ==== Sys2Proof/Machine/Joint.lean ====
section
/-!
DEFINITION. Joint actions (sections 7.4 and 7.5): the items of a CONFIGURE (R141), the execution of each kind (R147, R151,
R152, R69, R45, R105), cancellation (R150), and the detach of a tenant (R135, R149).
-/

namespace Sys2Proof.Machine

/-! ## Configuration items (R141, Table 7-6) -/

/-- A numeric item: taken in range, else the nearer end (Table 7-6). -/
def clampItem (lo hi v : Int) : Int × OutcomeCode :=
  if lo ≤ v ∧ v ≤ hi then (v, .ok) else (clampTo lo hi v, .clamped)

/-- The intervals that the POU supports, in ms (Table 8-1). -/
def supportedIntervals : List Nat := [1, 2, 4, 5, 8, 10, 20, 25, 40, 50, 100, 125, 200, 250, 500, 1000]

/-- A value is a supported interval. -/
def isInterval (v : Int) : Bool := decide (0 ≤ v) && supportedIntervals.contains v.toNat

/-- Half an interval of so many ms, in steps of 100 ns. -/
def halfInterval (ms : Nat) : Nat := ms * 5000

/-- The slot an item names, when it is 0 to 5 (Table 7-6). -/
def slotOf (b : Byte) : Option SlotId := if h : b.toNat < 6 then some ⟨b.toNat, h⟩ else none

/-- A per-slot numeric setting (Table 7-5); cable compensation is not a setting of slot 2 (Table 7-6). -/
def applySlotItem (c : SiteConfig) (n : SlotId) (setting : Byte) (v : Int) : SiteConfig × OutcomeCode :=
  let sc := c.slots.get n
  let put (x : SlotSettings) : SiteConfig := { c with slots := c.slots.set n { sc with settings := x } }
  match setting.toNat with
  | 0x02 => let r := clampItem 0 15 v; (put { sc.settings with priority := r.1.toNat }, r.2)
  | 0x03 =>
    let r := clampItem 1000 (if phaseCapable n then 100000000 else 10000000) v
    (put { sc.settings with gate := r.1 }, r.2)
  | 0x04 =>
    if phaseCapable n then
      let r := clampItem (-1000000) 1000000 v
      (put { sc.settings with comp := r.1 }, r.2)
    else (c, .ignored)
  | 0x05 => let r := clampItem 1 600 v; (put { sc.settings with qualify := r.1.toNat }, r.2)
  | 0x06 => let r := clampItem 1 60 v; (put { sc.settings with freshness := r.1.toNat }, r.2)
  | _ => (c, .ignored)

/-- A site setting (Table 7-5), the width judged against the interval the whole action leaves (R141). -/
def applySiteItem (finalInterval : Nat) (c : SiteConfig) (setting : Byte) (v : Int) : SiteConfig × OutcomeCode :=
  match setting.toNat with
  | 0x10 => let r := clampItem 8000 25000000 v; ({ c with lfNominal := r.1.toNat }, r.2)
  | 0x11 => let r := clampItem 0 7 v; ({ c with bandwidth := r.1.toNat }, r.2)
  | 0x12 => let r := clampItem 10000 10000000 v; ({ c with lockThreshold := r.1 }, r.2)
  | 0x13 => let r := clampItem 100000 100000000 v; ({ c with stepThreshold := r.1 }, r.2)
  | 0x14 => let r := clampItem 0 600 v; ({ c with bridgeTime := r.1.toNat }, r.2)
  | 0x15 =>
    if v = 0 then ({ c with revertive := false }, .ok)
    else if v = 1 then ({ c with revertive := true }, .ok)
    else (c, .ignored)
  | 0x16 => let r := clampItem 1 600 v; ({ c with waitToRestore := r.1.toNat }, r.2)
  | 0x17 => let r := clampItem 1 10000 v; ({ c with sigmaFloor := r.1 }, r.2)
  | 0x18 => let r := clampItem 0 1000000 v; ({ c with eFloor := r.1 }, r.2)
  | 0x20 => if isInterval v then ({ c with out3Interval := v.toNat }, .ok) else (c, .ignored)
  | 0x21 => let r := clampItem 1 (halfInterval finalInterval) v; ({ c with out3Width := r.1.toNat }, r.2)
  | 0x22 => let r := clampItem (-1000000000) 1000000000 v; ({ c with out3Offset := r.1 }, r.2)
  | _ => (c, .ignored)

/-- The OUT3 interval in force after all items of an action (R141). -/
def finalInterval (now : Nat) (items : List ConfigItem) : Nat :=
  items.foldl (fun i x => if x.setting = 0x20 ∧ isInterval x.value.toInt then x.value.toInt.toNat else i) now

/-- The slot enable setting of a slot, which acts on the slot at once when it changes (R21; log 31). -/
def State.configureEnable (n : SlotId) (v : Int) (s : State) : State × OutcomeCode :=
  if v = 0 ∨ v = 1 then
    let on := decide (v = 1)
    let sc := s.tru.config.slots.get n
    if sc.enable = on then (s, .ok)
    else
      let c : SiteConfig := { s.tru.config with slots := s.tru.config.slots.set n { sc with enable := on } }
      (State.changeEnable n on { s with tru := { s.tru with config := c } }, .ok)
  else (s, .ignored)

/-- One item is applied (Table 7-6): identifiers 0x01 to 0x06 use the slot byte (Table 12-12). -/
def State.configureItem (final : Nat) (i : ConfigItem) (s : State) : State × OutcomeCode :=
  let v := i.value.toInt
  if 1 ≤ i.setting.toNat ∧ i.setting.toNat ≤ 6 then
    match slotOf i.slot with
    | none => (s, .ignored)
    | some n =>
      if i.setting = 0x01 then s.configureEnable n v
      else
        let r := applySlotItem s.tru.config n i.setting v
        ({ s with tru := { s.tru with config := r.1 } }, r.2)
  else
    let r := applySiteItem final s.tru.config i.setting v
    ({ s with tru := { s.tru with config := r.1 } }, r.2)

/-- The items are applied in order, each against what the items before it left (R141). -/
def State.configureItems (final : Nat) : List ConfigItem → State → State × List OutcomeCode
  | [], s => (s, [])
  | i :: is, s =>
    let r := s.configureItem final i
    let rs := State.configureItems final is r.1
    (rs.1, r.2 :: rs.2)

/-- Raised E_floor raises E when it is below (R119). -/
def State.raiseToFloor (s : State) : State := if s.sde.e < s.tru.config.eFloor then s.setE s.tru.config.eFloor else s

/-- OUT3's settings differ between two configurations (R157). -/
def out3Changed (a b : SiteConfig) : Bool :=
  a.out3Interval != b.out3Interval || a.out3Width != b.out3Width || a.out3Offset != b.out3Offset

/-- OUT3's pending record is formed from the configuration (R157). -/
def State.formOut3 (s : State) : State :=
  { s with pou := { s.pou with o3 := { s.pou.o3 with pending := some (.common s.tru.config) } } }

/-- CONFIGURE executes (R151). E is compared with E_floor once, as all items leave it: where an item raises E_floor above E and a
later one of the same action lowers it again, R119, R141 and Table 7-7 do not say whether the floor between them raised E, and the
model does not raise it, DESIGN CHOICE (log 35). -/
def State.configure (items : List ConfigItem) (s : State) : State × List OutcomeCode :=
  let r := s.configureItems (finalInterval s.tru.config.out3Interval items) items
  let s1 := r.1.raiseToFloor
  let s2 := if out3Changed s.tru.config s1.tru.config then s1.formOut3 else s1
  (s2.requestWrite, r.2)

/-! ## The other kinds -/

/-- CLEAR_LEARNING executes (R105). -/
def State.clearLearning (s : State) : State :=
  State.requestWrite
    { s with
      ols :=
        { s.ols with
          bins := emptyBins, ring := [], aging := 0, agingEst := false, dayLocked := 0, dayCorr := 0, dayTemp := 0 } }

/-- The SDE and the TSG at the execution of RESTART_CLOCK, with E at its cap (R69, R84, R119). -/
def Sde.restarted (d : Sde) : Sde :=
  { d with
    selected := none, lastSelected := none, clock := .freerun
    lockCount := 0, lockLoss := 0, bridgeRemaining := 0, labelMismatch := 0
    decisionPending := false, stepDecisionPending := false, stepNow := false
    assisted := false, lfRestart := true, e := eCap }

/-- RESTART_CLOCK executes (R152, R69, R45). -/
def State.restartClock (s : State) : State :=
  let s1 : State :=
    { s with
      tsg := { s.tsg with timeValid := false }
      rmu := { s.rmu with slots := s.rmu.slots.mapIdx fun _ sl => sl.restart }
      sde := s.sde.restarted }
  let s2 := if s.sde.clock = .freerun then s1 else s1.postAll s1.clockReport
  let s3 := if s.sde.selected.isSome then s2.postAll (.selection none) else s2
  s3.watchLatches.judgeAll

/-- STEP_NOW executes: in ACQUIRE step-now pending becomes yes (R63, R151). -/
def State.setStepNow (s : State) : State := { s with sde := { s.sde with stepNow := true } }

/-- The kind is carried out (R151, R152). -/
def State.carryOut (k : JointKind) (s : State) : State × List OutcomeCode :=
  match k with
  | .configure items => s.configure items
  | .clearLearning => (s.clearLearning, [.ok])
  | .stepNow => if s.sde.clock = .acquire then (s.setStepNow, [.ok]) else (s, [.notApplicable])
  | .restartClock => (s.restartClock, [.ok])

/-! ## The record (R143, R147, R150) -/

/-- The action leaves the pending place and becomes the last-ended record (R143). -/
def State.endJoint (r : JointRecord) (e : JointEnding) (s : State) : State :=
  { s with tru := { s.tru with joint := none, lastEnded := some ⟨r, e⟩ } }

/-- An action executes. JOINT_DONE goes to the required set, but not to the initiator of one that executes at its own
PROPOSE (R147). -/
def State.executeJoint (r : JointRecord) (atPropose : Bool) (s : State) : State × List OutcomeCode :=
  let d := s.carryOut r.kind
  let s' := d.1.endJoint r (.done d.2)
  (s'.post (fun t => r.required.get t && !(atPropose && t == r.initiator)) (.jointDone r.serial d.2), d.2)

/-- The pending action is cancelled (R150). -/
def State.cancelJoint (why : CancelReason) (s : State) : State :=
  match s.tru.joint with
  | none => s
  | some r => (s.endJoint r (.cancelled why)).post (fun t => r.required.get t) (.jointCancelled r.serial why)

/-- The set of attached tenants. -/
def State.attachedSet (s : State) : Three Bool := s.tru.tenants.mapIdx fun _ r => r.attached

/-- The action with a party gone from both sets (R149). -/
def JointRecord.without (t : Port) (r : JointRecord) : JointRecord :=
  { r with required := r.required.set t false, concurred := r.concurred.set t false }

/-- The pending action loses a detaching tenant (R149). -/
def State.leaveJoint (t : Port) (s : State) : State :=
  match s.tru.joint with
  | none => s
  | some r =>
    if r.initiator = t then s.cancelJoint .withdrawn
    else if r.required.get t = false then s
    else if (r.without t).required = (r.without t).concurred then (s.executeJoint (r.without t) false).1
    else { s with tru := { s.tru with joint := some (r.without t) } }

/-! ## The detach (R135) -/

/-- Replaces the record of tenant t. -/
def State.setTenant (t : Port) (r : Tenant) (s : State) : State :=
  { s with tru := { s.tru with tenants := s.tru.tenants.set t r } }

/-- Replaces the notice state of tenant t. -/
def State.setNotices (t : Port) (n : TenantNotices) (s : State) : State := { s with nu := s.nu.set t n }

/-- The record, the joint action and the resolution of a detach (R135). -/
def State.dropTenant (t : Port) (s : State) : State := ((s.setTenant t .detached).leaveJoint t).resolve

/-- Tenant t, attached, is detached (R135). -/
def State.detachTenant (t : Port) (s : State) : State :=
  ((s.dropTenant t).setNotices t .detached).setTol t false

end Sys2Proof.Machine
end

