-- ==== Sys2Proof/Config.lean ====
section
/-!
DEFINITION. The free values: what the spec leaves open and no statement may rest on. Each is an opaque constant. Two are applied
to the counter freeIndex of State, so every use is a fresh value; the third is applied to the value it stands in for.
-/

namespace Sys2Proof

/-- The line clock at a boundary that site time passed by itself, with nobody commanding it (log 7). -/
opaque Config.lineClockAt : Nat → LineClock

/-- Whether a write that a start interrupts had left the previous copy's integrity word alone (R102; log 8). -/
opaque Config.storeLeftIntact : Nat → Bool

/-- What a signed field of so many bytes carries for a value that does not fit it, which R210 does not say (log 34). -/
opaque Config.unfitField : Nat → Int → Nat

end Sys2Proof
end

