-- ==== Sys2Proof/Machine/Layout.lean ====
section
/-!
DEFINITION. The byte layouts of chapter 12: the frame that answers a read transaction, each response body, and the words of
the retained record (R98, R210, R211). What the chapter leaves undrawn follows R211, and log 12 names the choices.
-/

namespace Sys2Proof.Machine

/-! ## Fields (R210, Table 12-3) -/

/-- An unsigned field of n bytes, most significant byte first (R210). -/
def unsignedBytes : Nat → Nat → List Byte
  | 0, _ => []
  | n + 1, v => BitVec.ofNat 8 (v / 256 ^ n) :: unsignedBytes n v

/-- A value fits a signed field of n bytes: it has a two's complement there (R210). -/
def fitsSigned (n : Nat) (v : Int) : Bool := decide (-(256 ^ n : Nat) ≤ 2 * v) && decide (2 * v < (256 ^ n : Nat))

/-- A signed field of n bytes in two's complement, most significant byte first (R210). R26 and R83 bound the frequencies f, b and
Q of a line clock far off nominal by nothing that fits their fields, and the spec does not say what is sent for a value that does
not fit: it is a free value, DESIGN CHOICE (log 34). -/
def signedBytes (n : Nat) (v : Int) : List Byte :=
  unsignedBytes n (if fitsSigned n v then (v % (256 ^ n : Nat)).toNat else Config.unfitField n v)

/-- A byte whose bit i is the i-th flag; the bits not named are 0 (R210). -/
def flagByte (bits : List Bool) : Byte :=
  BitVec.ofNat 8 (bits.foldr (fun b acc => (if b then 1 else 0) + 2 * acc) 0)

/-- A yes/no or on/off value in a byte of its own (R211). -/
def boolByte (b : Bool) : Byte := if b then 1 else 0

/-- An optional field in an undrawn body: its own flags byte, then its bytes, 0 when absent (R210, R211). -/
def optionalBytes (width : Nat) (enc : Int → List Byte) (x : Option Int) : List Byte :=
  match x with
  | some v => flagByte [true] :: enc v
  | none => flagByte [false] :: List.replicate width 0

/-! ## Codes (section 12.3, Table 12-13) -/

/-- Outcome codes (Table 12-11). -/
def OutcomeCode.code : OutcomeCode → Byte
  | .ok => 0x00
  | .clamped => 0x01
  | .ignored => 0x02
  | .pending => 0x03
  | .busy => 0x04
  | .notAttached => 0x05
  | .notParty => 0x06
  | .noAction => 0x07
  | .late => 0x08
  | .early => 0x09
  | .full => 0x0A
  | .badValue => 0x0B
  | .badRequest => 0x0C
  | .notApplicable => 0x0D
  | .notReady => 0x0E

/-- Clock states (section 12.1). -/
def ClockState.code : ClockState → Byte
  | .freerun => 0
  | .acquire => 1
  | .locked => 2
  | .bridge => 3
  | .holdover => 4

/-- Slot states (section 12.1). -/
def SlotState.code : SlotState → Byte
  | .off => 0
  | .qualifying => 1
  | .usable => 2
  | .selected => 3
  | .disqualified => 4
  | .halting => 5

/-- Oven states (Table 12-13). -/
def OvenState.code : OvenState → Byte
  | .settled => 0
  | .warming => 1
  | .off => 2

/-- Output states (Table 12-13). -/
def OutputState.code : OutputState → Byte
  | .disabled => 0
  | .active => 1
  | .squelched => 2

/-- Start causes (Table 12-13). -/
def StartCause.code : StartCause → Byte
  | .powerOn => 0
  | .brownout => 1

/-- Retained outcomes (Table 12-13). -/
def RetainedOutcome.code : RetainedOutcome → Byte
  | .restored => 0
  | .defaults => 1

/-- Last write results (Table 12-13). -/
def WriteResult.code : WriteResult → Byte
  | .none => 0
  | .ok => 1
  | .failed => 2

/-- Cancellation reasons (Table 12-13). -/
def CancelReason.code : CancelReason → Byte
  | .declined => 0
  | .expired => 1
  | .withdrawn => 2

/-- Squelch modes (section 12.3). -/
def SquelchMode.code : SquelchMode → Byte
  | .none => 0
  | .invalid => 1
  | .tolerance => 2

/-- Dispositions (section 12.2). -/
def Disposition.code : Disposition → Byte
  | .entry => 0
  | .gate => 1
  | .label => 2
  | .quality => 3

/-- Joint kinds (Table 12-9). -/
def JointKind.code : JointKind → Byte
  | .configure _ => 1
  | .clearLearning => 2
  | .stepNow => 3
  | .restartClock => 4

/-- The items of an action: those of CONFIGURE (R143). -/
def JointKind.items : JointKind → List ConfigItem
  | .configure items => items
  | .clearLearning => []
  | .stepNow => []
  | .restartClock => []

/-- A port number. Neither Table 12-3 nor R211 gives a single port number a form: the model's choice is one byte that holds 0 to
2 (log 12). -/
def portByte (t : Port) : Byte := BitVec.ofNat 8 t.val

/-- A slot number. -/
def slotByte (n : SlotId) : Byte := BitVec.ofNat 8 n.val

/-- A selected slot in a drawn body whose presence bit stands elsewhere: 0 when absent (R210). -/
def selectedByte : Option SlotId → Byte
  | some n => slotByte n
  | none => 0

/-- A set of slots (R211). -/
def slotSetByte (s : Six Bool) : Byte := flagByte [s.s0, s.s1, s.s2, s.s3, s.s4, s.s5]

/-- A set of tenants (R211). -/
def tenantSetByte (s : Three Bool) : Byte := flagByte [s.t0, s.t1, s.t2]

/-- A list of results: a count byte and one outcome byte each (R211). -/
def resultBytes (rs : List OutcomeCode) : List Byte := BitVec.ofNat 8 rs.length :: rs.map (·.code)

/-- An optional list of results: its flags byte, then the list, of no entries when absent (R211; log 12). -/
def optionalResults : Option (List OutcomeCode) → List Byte
  | some rs => flagByte [true] :: resultBytes rs
  | none => flagByte [false] :: resultBytes []

/-! ## Pieces of bodies -/

/-- The twelve bytes of the resolved policy and generation, in the order of READ_TIME offsets 29 to 40 with bits 5 and 6 of
the flags byte only (Table 12-6). -/
def policyBytes (p : Policy) (generation : Word16) : List Byte :=
  [flagByte [false, false, false, false, false, p.stepsPermitted, p.squelch], 0] ++ signedBytes 4 p.sRes ++
    signedBytes 4 p.lCom ++ unsignedBytes 2 generation.toNat

/-- READ_TIME (Table 12-5). -/
def TimeReading.bytes (r : TimeReading) : List Byte :=
  unsignedBytes 6 r.seconds.toNat ++ signedBytes 6 r.phase ++ signedBytes 4 r.fApp ++ signedBytes 6 r.e ++
    [r.clock.code,
      flagByte
        [r.timeValid, r.assisted, r.inTolerance, r.noticesWaiting, r.selected.isSome, r.policy.stepsPermitted,
          r.policy.squelch],
      selectedByte r.selected] ++
    signedBytes 4 r.policy.sRes ++ signedBytes 4 r.policy.lCom ++ unsignedBytes 2 r.generation.toNat

/-- The latches (Table 12-14, offset 6). -/
def Latches.byte (l : Latches) : Byte :=
  flagByte [l.timeValid, l.inTolerance, l.locked, l.ovenSettled, l.refFault, l.stepped]

/-- READ_STATUS (Table 12-14). -/
def StatusReading.bytes (r : StatusReading) : List Byte :=
  let head := [r.latches.byte, r.startCause.code, r.outcome.code, r.oven.code]
  match r.summary with
  | some k =>
    head ++ flagByte [r.ovenFault, true, k.beganAtStart, k.ovenFaultSeen, k.ended] :: unsignedBytes 2 r.soak ++
      unsignedBytes 6 k.entrySeconds.toNat ++ unsignedBytes 4 k.boundaries ++ unsignedBytes 4 k.coldBoundaries ++
      unsignedBytes 1 k.coldEntries
  | none => head ++ flagByte [r.ovenFault] :: unsignedBytes 2 r.soak ++ List.replicate 15 0

/-- The kind of a slot: 0 pulse, 1 frequency, 2 report (Table 12-7). -/
def slotKindByte (n : SlotId) : Byte := if n = lfSlot then 1 else if n.val < 2 then 0 else 2

/-- A set of fault kinds (Table 12-7, offset 31). -/
def FaultSet.byte (f : FaultSet) : Byte := flagByte [f.gate, f.label, f.quality, f.extra, f.stale]

/-- READ_REFERENCE (Table 12-7). -/
def ReferenceReading.bytes (r : ReferenceReading) : List Byte :=
  let calibrated : Bool := (r.lf.map (·.calibrated)).getD false
  [slotKindByte r.slot, r.state.code] ++ unsignedBytes 1 r.faultCount ++ unsignedBytes 2 r.qualifyCount ++
    unsignedBytes 2 r.emptyRun ++ unsignedBytes 2 r.holdOff ++ unsignedBytes 1 r.streak ++ unsignedBytes 2 r.usableRun ++
    [flagByte [r.lastValue.isSome, r.lastLabel.isSome, r.haltMark, calibrated]] ++
    signedBytes 6 (r.lastValue.getD 0) ++ unsignedBytes 6 (r.lastLabel.getD 0).toNat ++ [r.lastFaults.byte] ++
    unsignedBytes 1 r.olderEntries ++ unsignedBytes 1 r.currentEntries ++
    match r.lf with
    | some lf => signedBytes 4 lf.bias ++ signedBytes 4 lf.wander ++ unsignedBytes 2 lf.count
    | none => List.replicate 10 0

/-- A bin record (Table 12-8). -/
def BinRecord.bytes (r : BinRecord) : List Byte :=
  unsignedBytes 2 r.count ++ signedBytes 4 r.mean ++ signedBytes 4 r.spread

/-- A day record (Table 12-8). -/
def DayRecord.bytes (r : DayRecord) : List Byte :=
  unsignedBytes 4 r.day ++ signedBytes 4 r.meanCorr ++ signedBytes 2 r.meanTemp ++ unsignedBytes 4 r.locked

/-- READ_LEARNING (section 12.2, R106): the records, then the other values in the order of R106. -/
def LearningReading.bytes (r : LearningReading) : List Byte :=
  BitVec.ofNat 8 r.records.length :: r.records.flatMap BinRecord.bytes ++
    optionalBytes 2 (signedBytes 2) r.theta ++ optionalBytes 2 (signedBytes 2) r.lastSample ++
    optionalBytes 1 (signedBytes 1) (r.currentBin.map fun b => (b.val : Int)) ++ unsignedBytes 2 r.failures ++
    [boolByte r.sensorFault, boolByte r.learning, boolByte r.writing, boolByte r.rewritePending, r.lastWrite.code]

/-- READ_AGING (section 12.2, R107). -/
def AgingReading.bytes (r : AgingReading) : List Byte :=
  BitVec.ofNat 8 r.ring.length :: r.ring.flatMap DayRecord.bytes ++ signedBytes 4 r.aging ++ [boolByte r.established] ++
    unsignedBytes 4 r.locked

/-- An output record in the order of the SET_OUTPUT body (section 12.3). -/
def OutputRecord.bytes (r : OutputRecord) : List Byte :=
  [boolByte r.enable] ++ unsignedBytes 2 r.interval ++ unsignedBytes 4 r.width ++ signedBytes 4 r.offset ++ [r.mode.code]

/-- A slot's settings in READ_CONFIG (Table 12-15). -/
def SlotConfig.bytes (phaseSlot : Bool) (c : SlotConfig) : List Byte :=
  [boolByte c.enable] ++ unsignedBytes 1 c.settings.priority ++ signedBytes 4 c.settings.gate ++
    signedBytes 4 (if phaseSlot then c.settings.comp else 0) ++ unsignedBytes 2 c.settings.qualify ++
    unsignedBytes 1 c.settings.freshness

/-- The six slots of READ_CONFIG (Table 12-15). -/
def slotConfigBytes (s : Six SlotConfig) : List Byte :=
  s.s0.bytes true ++ s.s1.bytes true ++ s.s2.bytes false ++ s.s3.bytes true ++ s.s4.bytes true ++ s.s5.bytes true

/-- READ_CONFIG (Table 12-15). -/
def ConfigReading.bytes (r : ConfigReading) : List Byte :=
  let c := r.config
  slotConfigBytes c.slots ++ unsignedBytes 4 c.lfNominal ++ unsignedBytes 1 c.bandwidth ++ signedBytes 4 c.lockThreshold ++
    signedBytes 4 c.stepThreshold ++ unsignedBytes 2 c.bridgeTime ++ [boolByte c.revertive] ++
    unsignedBytes 2 c.waitToRestore ++ signedBytes 4 c.sigmaFloor ++ signedBytes 4 c.eFloor ++
    unsignedBytes 2 c.out3Interval ++ unsignedBytes 4 c.out3Width ++ signedBytes 4 c.out3Offset ++
    policyBytes r.policy r.generation ++ r.out3.bytes ++ [r.out3State.code]

/-- A proposal item (Table 12-9). -/
def ConfigItem.bytes (i : ConfigItem) : List Byte := [i.setting, i.slot] ++ unsignedBytes 4 i.value.toNat

/-- The fields of a joint action record up to the age, in the order of R153. For a kind other than CONFIGURE, which has no items,
neither R153 nor R211 says whether an item count stands there: the model sends a count of 0, DESIGN CHOICE (log 12). -/
def JointRecord.bytes (r : JointRecord) : List Byte :=
  [r.serial, r.kind.code] ++ BitVec.ofNat 8 r.kind.items.length :: r.kind.items.flatMap ConfigItem.bytes ++
    [portByte r.initiator, tenantSetByte r.required, tenantSetByte r.concurred] ++ unsignedBytes 2 r.age

/-- An ending with its results or its reason (R153, R211). The spec says only "its results or reason": the model's choice is that
they follow the ending byte bare, the one or the other, without a flags byte of their own (log 12). -/
def JointEnding.bytes : JointEnding → List Byte
  | .done rs => 0 :: resultBytes rs
  | .cancelled why => [1, why.code]

/-- The records of READ_JOINT (R153, Table 12-13). Table 12-13 codes the record returned, and neither it nor R153 or R211 says where
that code stands in the body: the model sends it first, before the record, DESIGN CHOICE (log 12). -/
def jointBytes (pending : Option JointRecord) (ended : Option EndedRecord) : List Byte :=
  match pending, ended with
  | some r, _ => 0 :: r.bytes
  | none, some e => 1 :: e.record.bytes ++ e.ending.bytes
  | none, none => [2]

/-- The states of the outputs in a set, in output order (R211). -/
def outputStateBytes (o : Four (Option OutputState)) : List Byte :=
  ([o.o0, o.o1, o.o2, o.o3].filterMap id).map (·.code)

/-- The fields of a report in the order of Table 11-2 (R211). -/
def Report.bytes : Report → List Byte
  | .tolLost e => signedBytes 6 e
  | .tolRegained e => signedBytes 6 e
  | .clockState c assisted valid => [c.code, boolByte assisted, boolByte valid]
  | .selection n => [flagByte [n.isSome], selectedByte n]
  | .refDisqualified s => [slotSetByte s]
  | .refHalted s => [slotSetByte s]
  | .phaseStep d => signedBytes 6 d
  | .secondsSet v => unsignedBytes 6 v.toNat
  | .resolved g => unsignedBytes 2 g.toNat
  | .jointAsked serial kind initiator => [serial, kind.code, portByte initiator]
  | .jointDone serial rs => serial :: resultBytes rs
  | .jointCancelled serial why => [serial, why.code]
  | .oven o fault => [o.code, boolByte fault]
  | .sensorFault fault => [boolByte fault]
  | .retainedFault retry => [boolByte retry]
  | .outputSquelch o => flagByte [o.o0.isSome, o.o1.isSome, o.o2.isSome, o.o3.isSome] :: outputStateBytes o

/-- A notice: its kind, its posting count and its report (R211). -/
def Notice.bytes (n : Notice) : List Byte := [BitVec.ofNat 8 n.kind, BitVec.ofNat 8 n.count] ++ n.report.bytes

/-- A response body (chapter 12). -/
def Body.bytes : Body → List Byte
  | .empty => []
  | .advertised l s p g => flagByte [l, s] :: policyBytes p g
  | .time r => r.bytes
  | .status r => r.bytes
  | .report d => [(d.map (·.code)).getD 0]
  | .reference r => r.bytes
  | .learning r => r.bytes
  | .aging r => r.bytes
  | .config r => r.bytes
  | .output results pending current state =>
    resultBytes results ++
      (match pending with
        | some r => flagByte [true] :: r.bytes
        | none => flagByte [false] :: List.replicate 12 0) ++
      current.bytes ++ [state.code]
  | .proposed serial results unread =>
    [flagByte [serial.isSome], serial.getD 0] ++ optionalResults results ++ [boolByte unread]
  | .concurred results unread => optionalResults results ++ [boolByte unread]
  | .declined unread => [boolByte unread]
  | .joint pending ended unread => jointBytes pending ended ++ [boolByte unread]
  | .notices set => BitVec.ofNat 8 set.length :: set.flatMap Notice.bytes
  | .nextNotice (some n) => n.bytes
  | .nextNotice none => [0xFF]

/-! ## Frames (Table 12-2) -/

/-- The fill byte (Table 12-1). -/
def fillByte : Byte := 0xFF

/-- The direction byte of a request transaction (Table 12-1). -/
def requestDirection : Byte := 0x01

/-- The direction byte of a read transaction (Table 12-1). -/
def readDirection : Byte := 0x02

/-- A frame with the response header (Table 12-2). -/
def frameBytes (code : Byte) (tag : Word16) (outcome : OutcomeCode) (flags : Byte) (body : List Byte) : List Byte :=
  [BitVec.ofNat 8 (6 + body.length), code] ++ unsignedBytes 2 tag.toNat ++ [outcome.code, flags] ++ body

/-- The bytes of a held response. -/
def Response.bytes (r : Response) : List Byte :=
  frameBytes r.code r.tag r.outcome (flagByte [r.overrun]) r.body.bytes

/-- The NOT_READY frame (R186). -/
def notReadyBytes (overrun working closed : Bool) : List Byte :=
  frameBytes 0 0 .notReady (flagByte [overrun, working, closed]) []

/-- The n bytes clocked out of a frame: bytes beyond its end are fill (R183). -/
def clockOut (n : Nat) (frame : List Byte) : List Byte :=
  frame.take n ++ List.replicate (n - frame.length) fillByte

/-! ## The retained record (R98; the order and widths of its words are log 9) -/

/-- An unsigned value in so many words, most significant first. -/
def unsignedWords : Nat → Nat → List Word16
  | 0, _ => []
  | n + 1, v => BitVec.ofNat 16 (v / 65536 ^ n) :: unsignedWords n v

/-- A signed value in so many words. -/
def signedWords (n : Nat) (v : Int) : List Word16 := unsignedWords n (v % (65536 ^ n : Nat)).toNat

/-- An on/off value in a word. -/
def boolWord (b : Bool) : Word16 := if b then 1 else 0

/-- The words of a slot's settings. -/
def SlotConfig.words (c : SlotConfig) : List Word16 :=
  [boolWord c.enable] ++ unsignedWords 1 c.settings.priority ++ signedWords 2 c.settings.gate ++
    signedWords 2 c.settings.comp ++ unsignedWords 1 c.settings.qualify ++ unsignedWords 1 c.settings.freshness

/-- The words of the configuration. -/
def SiteConfig.words (c : SiteConfig) : List Word16 :=
  c.slots.s0.words ++ c.slots.s1.words ++ c.slots.s2.words ++ c.slots.s3.words ++ c.slots.s4.words ++ c.slots.s5.words ++
    unsignedWords 2 c.lfNominal ++ unsignedWords 1 c.bandwidth ++ signedWords 2 c.lockThreshold ++
    signedWords 2 c.stepThreshold ++ unsignedWords 1 c.bridgeTime ++ [boolWord c.revertive] ++
    unsignedWords 1 c.waitToRestore ++ signedWords 2 c.sigmaFloor ++ signedWords 2 c.eFloor ++
    unsignedWords 1 c.out3Interval ++ unsignedWords 2 c.out3Width ++ signedWords 2 c.out3Offset

/-- The words of a bin record. -/
def BinRecord.words (r : BinRecord) : List Word16 :=
  unsignedWords 1 r.count ++ signedWords 2 r.mean ++ signedWords 2 r.spread

/-- The words of a day record. -/
def DayRecord.words (r : DayRecord) : List Word16 :=
  unsignedWords 2 r.day ++ signedWords 2 r.meanCorr ++ signedWords 1 r.meanTemp ++ unsignedWords 2 r.locked

/-- The format word's fixed value (R98). -/
def formatWord : Word16 := 0x5A34

/-- The stored form of an optional anchor bin (R98). -/
def anchorBinWord : Option BinId → Word16
  | some b => BitVec.ofNat 16 b.val
  | none => 0xFFFF

/-- The content words of the retained record (Table 5-7). -/
def RetainedContent.words (c : RetainedContent) : List Word16 :=
  c.config.words ++ c.bins.toList.flatMap BinRecord.words ++ unsignedWords 1 c.ring.length ++
    c.ring.flatMap DayRecord.words ++ signedWords 1 c.aging ++ signedWords 2 c.anchor ++ [anchorBinWord c.anchorBin]

/-- The sum, modulo 65,536, of words (R98). -/
def wordSum (ws : List Word16) : Word16 := ws.foldl (· + ·) 0

/-- The valid record of a content: the format word and the integrity word that makes the sum 65,535 (R98). -/
def RetainedContent.record (c : RetainedContent) : StoredRecord :=
  { format := formatWord, content := c, integrity := some (0xFFFF - wordSum (formatWord :: c.words)) }

/-- The restore's check (R103). -/
def StoredRecord.valid (r : StoredRecord) : Bool :=
  match r.integrity with
  | some w => r.format == formatWord && wordSum (r.format :: r.content.words) + w == 0xFFFF
  | none => false

/-- The record with an integrity word that cannot satisfy the check (R99). -/
def StoredRecord.invalidated (r : StoredRecord) : StoredRecord := { r with integrity := none }

end Sys2Proof.Machine
end

