-- ==== Sys2Proof/Machine/PortOps.lean ====
section
/-!
DEFINITION. The tenant ports' shared operations (chapter 10): the take of a request frame (R184, R185, R187, R188), the
request codes (Table 12-10), and the return of a port to IDLE (R189).
-/

namespace Sys2Proof.Machine

/-- What a request is answered with: its outcome and its body (R185). -/
structure Answer where
  outcome : OutcomeCode
  body : Body
deriving DecidableEq, Repr

/-- Replaces the state of port t. -/
def State.setPort (t : Port) (p : TenantPort) (s : State) : State := { s with tpi := s.tpi.set t p }

/-- A response is begun: the port is WORKING on it, and has clocked out fill through the request transaction (R183 to
R185). -/
def State.beginResponse (t : Port) (code : Byte) (tag : Word16) (a : Answer) (s : State) : State :=
  s.setPort t
    { s.tpi.get t with
      state := .working { code := code, tag := tag, outcome := a.outcome, overrun := false, body := a.body }
      clocked := .fill }

/-- A frame taken while WORKING is discarded and sets the overrun flag, in a request transaction like any other (R183 to
R185). -/
def State.overrun (t : Port) (s : State) : State := s.setPort t { s.tpi.get t with overrun := true, clocked := .fill }

/-- A request transaction is ignored: fill is clocked out and nothing else comes of it (R183, R178, R189). -/
def State.ignoreRequest (t : Port) (s : State) : State := s.setPort t { s.tpi.get t with clocked := .fill }

/-- The port is WORKING. -/
def PortState.isWorking : PortState → Bool
  | .working _ => true
  | .idle => false
  | .ready _ => false

/-- A well-formed request is answered by its owner, or refused NOT_ATTACHED when the port is detached and the request is not
one that a detached port may send (R188). The spec states no body for that refusal; the model's choice is the body given:
the disposition byte of REPORT_PHASE, and none for every other request (log 11). -/
def State.dispatch (detachedMay : Bool) (t : Port) (refusal : Body) (act : State → State × Answer) (s : State) :
    State × Answer :=
  if s.attached t || detachedMay then act s else (s, ⟨.notAttached, refusal⟩)

/-- A request frame is taken at port t. Out of service it is ignored (R178, R189); in WORKING it is discarded (R184); else
the request acts and its response is begun (R184, R185). -/
def State.takeRequest (detachedMay : Bool) (t : Port) (code : Byte) (tag : Word16) (refusal : Body)
    (act : State → State × Answer) (s : State) : State :=
  if !s.inService then s.ignoreRequest t
  else if (s.tpi.get t).state.isWorking then s.overrun t
  else
    let r := s.dispatch detachedMay t refusal act
    r.1.beginResponse t code tag r.2

/-- A malformed frame is dispatched to no block and is answered BAD_REQUEST (R187). The spec does not say whether a body follows:
the model's choice is none, for the code of REPORT_PHASE too (log 11). -/
def State.takeMalformed (t : Port) (code : Byte) (tag : Word16) (s : State) : State :=
  s.takeRequest true t code tag .empty fun s' => (s', ⟨.badRequest, .empty⟩)

/-- The port returns to IDLE, its response discarded and its overrun flag cleared (R189). -/
def State.closePort (t : Port) (s : State) : State :=
  s.setPort t { s.tpi.get t with state := .idle, overrun := false }

/-! ## Request codes (Table 12-10) -/

/-- Table 12-10. -/
def codeAttach : Byte := 0x10
/-- Table 12-10. -/
def codeAdvertise : Byte := 0x11
/-- Table 12-10. -/
def codeDetach : Byte := 0x12
/-- Table 12-10. -/
def codeReadTime : Byte := 0x13
/-- Table 12-10. -/
def codeReadStatus : Byte := 0x14
/-- Table 12-10. -/
def codeReportPhase : Byte := 0x15
/-- Table 12-10. -/
def codeReadReference : Byte := 0x16
/-- Table 12-10. -/
def codeReadLearning : Byte := 0x17
/-- Table 12-10. -/
def codeReadAging : Byte := 0x18
/-- Table 12-10. -/
def codeReadConfig : Byte := 0x19
/-- Table 12-10. -/
def codeSetOutput : Byte := 0x1A
/-- Table 12-10. -/
def codePropose : Byte := 0x20
/-- Table 12-10. -/
def codeConcur : Byte := 0x21
/-- Table 12-10. -/
def codeDecline : Byte := 0x22
/-- Table 12-10. -/
def codeReadJoint : Byte := 0x23
/-- Table 12-10. -/
def codeReadNotices : Byte := 0x30
/-- Table 12-10. -/
def codeNextNotice : Byte := 0x31
/-- Table 12-10. -/
def codeClearNotices : Byte := 0x32
/-- Table 12-10. -/
def codeNoticesDone : Byte := 0x33
/-- Table 12-10. -/
def codeSetNoticeMask : Byte := 0x34

end Sys2Proof.Machine
end

