-- ==== Sys2Proof/Decode.lean ====
section
/-!
DEFINITION. The reading of words and of transactions. No row of spec/opcode_table.json gives bits, so no word spells a
command (log 26). The requests do have a spelling, the bytes of an SPI transaction (chapters 10 and 12): decodeTransaction
reads one (R183, R187, R210) and encodeTransaction writes one.
-/

namespace Sys2Proof

open Sys2Proof.Machine

/-- The command a word spells by the table's bits: none (log 26). -/
def decodeTableWord (_nbits _w : Nat) : Option Instr := none

namespace Wire

/-- An unsigned field read most significant byte first (R210). -/
def number (bs : List Byte) : Nat := bs.foldl (fun n b => 256 * n + b.toNat) 0

/-- A field of n bytes at an offset of a frame, a byte that is not there counting as 0. -/
def field (frame : List Byte) (offset n : Nat) : List Byte :=
  ((frame ++ List.replicate (offset + n) 0).drop offset).take n

/-- One byte at an offset. -/
def byteAt (frame : List Byte) (offset : Nat) : Byte := BitVec.ofNat 8 (number (field frame offset 1))

/-- Two bytes at an offset. -/
def word16At (frame : List Byte) (offset : Nat) : Word16 := BitVec.ofNat 16 (number (field frame offset 2))

/-- Four bytes at an offset. -/
def word32At (frame : List Byte) (offset : Nat) : BitVec 32 := BitVec.ofNat 32 (number (field frame offset 4))

/-- Six bytes at an offset. -/
def word48At (frame : List Byte) (offset : Nat) : BitVec 48 := BitVec.ofNat 48 (number (field frame offset 6))

/-- An advertisement (Table 12-6). -/
def advertisementAt (frame : List Byte) : AdvertisementFields :=
  { limit := word32At frame 4, permission := byteAt frame 8, slew := word32At frame 9, squelch := byteAt frame 13 }

/-- A report (Table 12-4), its label present by the frame's length. -/
def reportAt (frame : List Byte) (labelled : Bool) : ReportFields :=
  { stamp := word48At frame 4, phase := word48At frame 10, quality := byteAt frame 16
    label := if labelled then some (word48At frame 17) else none }

/-- A SET_OUTPUT body (section 12.3). -/
def outputAt (frame : List Byte) : OutputFields :=
  { enable := byteAt frame 4, interval := word16At frame 5, width := word32At frame 7, offset := word32At frame 11
    mode := byteAt frame 15 }

/-- The item at an offset (Table 12-9). -/
def itemAt (frame : List Byte) (offset : Nat) : ConfigItem :=
  { setting := byteAt frame offset, slot := byteAt frame (offset + 1), value := word32At frame (offset + 2) }

/-- So many items from an offset on (Table 12-9). -/
def itemsAt (frame : List Byte) : Nat → Nat → List ConfigItem
  | 0, _ => []
  | n + 1, offset => itemAt frame offset :: itemsAt frame n (offset + 6)

/-- The request in a frame whose bytes are all there, when its code and length allow one (R187, Table 12-10). -/
def request (t : Port) (frame : List Byte) : Option Instr :=
  let tag := word16At frame 2
  match (byteAt frame 1).toNat, frame.length with
  | 0x10, 14 => some (.attach t tag (advertisementAt frame))
  | 0x11, 14 => some (.advertise t tag (advertisementAt frame))
  | 0x12, 4 => some (.detach t tag)
  | 0x13, 4 => some (.readTime t tag)
  | 0x14, 4 => some (.readStatus t tag)
  | 0x15, 17 => some (.reportPhase t tag (reportAt frame false))
  | 0x15, 23 => some (.reportPhase t tag (reportAt frame true))
  | 0x16, 5 => some (.readReference t tag (byteAt frame 4))
  | 0x17, 6 => some (.readLearning t tag (byteAt frame 4) (byteAt frame 5))
  | 0x18, 4 => some (.readAging t tag)
  | 0x19, 4 => some (.readConfig t tag)
  | 0x1A, 16 => some (.setOutput t tag (outputAt frame))
  | 0x20, n =>
    let count := (byteAt frame 5).toNat
    if n = 6 + 6 * count ∧ count ≤ 8 then some (.propose t tag (byteAt frame 4) (itemsAt frame count 6)) else none
  | 0x21, 5 => some (.concur t tag (byteAt frame 4))
  | 0x22, 5 => some (.decline t tag (byteAt frame 4))
  | 0x23, 4 => some (.readJoint t tag)
  | 0x30, 4 => some (.readNotices t tag)
  | 0x31, 4 => some (.nextNotice t tag)
  | 0x32, n => if 5 ≤ n ∧ n ≤ 20 then some (.clearNotices t tag (frame.drop 4)) else none
  | 0x33, 4 => some (.noticesDone t tag)
  | 0x34, 6 => some (.setNoticeMask t tag (word16At frame 4))
  | _, _ => none

/-- The frame that a port takes from the bytes after the direction byte: malformed when its length byte lies outside 4 to
64, when the transaction ended before the length was complete, or when it is no request (R183, R187). -/
def takeFrame (t : Port) (bytes : List Byte) : Instr :=
  let n := (byteAt bytes 0).toNat
  let malformed := Instr.malformedFrame t (byteAt bytes 1) (word16At bytes 2)
  if n < 4 ∨ 64 < n ∨ bytes.length < n then malformed else (request t (bytes.take n)).getD malformed

end Wire

/-- The command that a whole SPI transaction at port t is: its first byte is the direction byte; a transaction of neither
direction, one that ends before a first byte, and a request transaction with no frame are ignored (R183). -/
def decodeTransaction (t : Port) : List Byte → Option Instr
  | [] => none
  | d :: bytes =>
    if d = requestDirection then (if bytes.isEmpty then none else some (Wire.takeFrame t bytes))
    else if d = readDirection then some (.readTransaction t bytes.length)
    else none

namespace Wire

/-- A request frame (Table 12-2). -/
def requestFrame (code : Byte) (tag : Word16) (body : List Byte) : List Byte :=
  [BitVec.ofNat 8 (4 + body.length), code] ++ unsignedBytes 2 tag.toNat ++ body

/-- The body of ATTACH and ADVERTISE (Table 12-6). -/
def advertisementBytes (f : AdvertisementFields) : List Byte :=
  unsignedBytes 4 f.limit.toNat ++ [f.permission] ++ unsignedBytes 4 f.slew.toNat ++ [f.squelch]

/-- The body of REPORT_PHASE (Table 12-4). -/
def reportBytes (f : ReportFields) : List Byte :=
  unsignedBytes 6 f.stamp.toNat ++ unsignedBytes 6 f.phase.toNat ++ [f.quality] ++
    match f.label with
    | some l => unsignedBytes 6 l.toNat
    | none => []

/-- The body of SET_OUTPUT (section 12.3). -/
def outputBytes (f : OutputFields) : List Byte :=
  [f.enable] ++ unsignedBytes 2 f.interval.toNat ++ unsignedBytes 4 f.width.toNat ++ unsignedBytes 4 f.offset.toNat ++
    [f.mode]

/-- The body of PROPOSE (Table 12-9). -/
def proposeBytes (kind : Byte) (items : List ConfigItem) : List Byte :=
  [kind, BitVec.ofNat 8 items.length] ++ items.flatMap ConfigItem.bytes

/-- The port and the frame of a request command; none for a command that is no request (Table 12-10). -/
def requestOf : Instr → Option (Port × List Byte)
  | .attach t tag f => some (t, requestFrame codeAttach tag (advertisementBytes f))
  | .advertise t tag f => some (t, requestFrame codeAdvertise tag (advertisementBytes f))
  | .detach t tag => some (t, requestFrame codeDetach tag [])
  | .readTime t tag => some (t, requestFrame codeReadTime tag [])
  | .readStatus t tag => some (t, requestFrame codeReadStatus tag [])
  | .reportPhase t tag f => some (t, requestFrame codeReportPhase tag (reportBytes f))
  | .readReference t tag slot => some (t, requestFrame codeReadReference tag [slot])
  | .readLearning t tag first n => some (t, requestFrame codeReadLearning tag [first, n])
  | .readAging t tag => some (t, requestFrame codeReadAging tag [])
  | .readConfig t tag => some (t, requestFrame codeReadConfig tag [])
  | .setOutput t tag f => some (t, requestFrame codeSetOutput tag (outputBytes f))
  | .propose t tag kind items => some (t, requestFrame codePropose tag (proposeBytes kind items))
  | .concur t tag serial => some (t, requestFrame codeConcur tag [serial])
  | .decline t tag serial => some (t, requestFrame codeDecline tag [serial])
  | .readJoint t tag => some (t, requestFrame codeReadJoint tag [])
  | .readNotices t tag => some (t, requestFrame codeReadNotices tag [])
  | .nextNotice t tag => some (t, requestFrame codeNextNotice tag [])
  | .clearNotices t tag kinds => some (t, requestFrame codeClearNotices tag kinds)
  | .noticesDone t tag => some (t, requestFrame codeNoticesDone tag [])
  | .setNoticeMask t tag mask => some (t, requestFrame codeSetNoticeMask tag (unsignedBytes 2 mask.toNat))
  | .powerOn | .resetNFalls | .brownOut | .startSequence _ | .epochBoundary _ | .holdOffExpiry _
  | .bridgeExpiry | .jointExpiry | .ovenFault | .soakEnd | .sensorReadDone _ | .epochClose
  | .writeCompletion _ | .pulse _ _ | .labelMessage _ _ | .pulseInstant _ | .pulseWidthEnd _
  | .mainsGoodFalls | .mainsGoodRises | .battLowRises | .battLowFalls | .ovenOkRises | .ovenOkFalls
  | .presentLineFalls _ | .presentLineRises _ | .readTransaction _ _ | .responseCompleted _
  | .malformedFrame _ _ _ => none

end Wire

/-- The transaction that carries a request: the direction byte and the frame (Table 12-1); none for another command. -/
def encodeTransaction (i : Instr) : Option (Port × List Byte) :=
  (Wire.requestOf i).map fun p => (p.1, requestDirection :: p.2)

end Sys2Proof
end

