-- ==== Sys2Proof/Machine/Inputs.lean ====
section
/-!
DEFINITION. The reference inputs, the sensor and the store: PULSE (R24), LABEL_MESSAGE (R25), SENSOR_READ_DONE (R87) and
WRITE_COMPLETION (R99, R101).
-/

namespace Sys2Proof.Machine

/-- PULSE: after so many OSC_IN cycles a rising edge is captured, and taken in RUN (R24; log 3). During a start nothing
happens. -/
def execPulse (p : PulseInput) (cycles : Nat) (s : State) : Host.Outcome State Fault Refusal :=
  if s.inStart then .next s
  else
    let s' := s.advanceCycles cycles
    if s'.inService then .next { s' with rmu := s'.rmu.takePulse p s'.tsg.seconds s'.tsg.phase } else .next s'

/-- LABEL_MESSAGE: one received whole is taken by the slot of its link in RUN (R25). -/
def execLabelMessage (p : PulseInput) (m : LinkMessage) (s : State) : Host.Outcome State Fault Refusal :=
  match m with
  | .damaged => .next s
  | .whole label fixValid =>
    if s.inService then .next { s with rmu := s.rmu.takeLabel p label fixValid s.tsg.timeValid } else .next s

/-- SENSOR_READ_DONE: the read in progress ends (R87). -/
def execSensorReadDone (r : SensorResult) (s : State) : Host.Outcome State Fault Refusal :=
  if !s.inStart && s.ols.reading then
    .next (State.endRead r { s with ols := { s.ols with reading := false } })
  else .next s

/-- A write completes with result OK: the stored copy is valid and holds its content (R99). -/
def State.writeOk (c : RetainedContent) (s : State) : State :=
  { s with ols := { s.ols with store := some c.record, lastWrite := .ok } }

/-- A write ends with result FAILED: the stored copy is invalid, with the content it holds by then, and RETAINED_FAULT is posted
(R99; log 8). -/
def State.writeFailed (s : State) : State :=
  State.postAll (.retainedFault s.ols.retryDue)
    { s with ols := { s.ols with store := s.ols.store.map (·.invalidated), lastWrite := .failed } }

/-- The writer's next action after a completed write (Table 5-8). -/
def State.afterWrite (failed : Bool) (s : State) : State :=
  if s.ols.rewritePending then
    State.startWrite { s with ols := { s.ols with rewritePending := false, retryDue := false } }
  else if failed && !s.ols.retryDue then State.startWrite { s with ols := { s.ols with retryDue := true } }
  else { s with ols := { s.ols with writing := none, retryDue := false } }

/-- The phase being written has been written (R99): from the end of the first the stored copy is invalid, from the end of the
second it holds the content of the write, still invalid, and the end of the third completes the write. -/
def State.endWritePhase (w : RetainedWrite) (s : State) : State :=
  match w.phase with
  | .invalidate =>
    { s with
      ols := { s.ols with store := s.ols.store.map (·.invalidated), writing := some { w with phase := .content } } }
  | .content =>
    { s with
      ols := { s.ols with store := some w.content.record.invalidated, writing := some { w with phase := .integrity } } }
  | .integrity => State.afterWrite false (s.writeOk w.content)

/-- What the store's report does to a write in progress (R99, R101). -/
def State.storeReports (w : RetainedWrite) (r : StoreResult) (s : State) : State :=
  match r with
  | .phaseWritten => s.endWritePhase w
  | .ok => State.afterWrite false (s.writeOk w.content)
  | .failed => State.afterWrite true s.writeFailed

/-- WRITE_COMPLETION: the write in progress completes, or goes from one phase to the next (R99, R101; log 8). -/
def execWriteCompletion (r : StoreResult) (s : State) : Host.Outcome State Fault Refusal :=
  match s.inStart, s.ols.writing with
  | false, some w => .next (s.storeReports w r)
  | _, _ => .next s

end Sys2Proof.Machine
end

