-- ==== Sys2Proof/Machine/JointRequests.lean ====
section
/-!
DEFINITION. PROPOSE (R144), CONCUR (R145), DECLINE (R146), READ_JOINT (R153) and JOINT_EXPIRY (R148).
-/

namespace Sys2Proof.Machine

/-- The kind proposed: one of the four, and a CONFIGURE with items (R144). -/
def proposedKind (kind : Byte) (items : List ConfigItem) : Option JointKind :=
  match kind.toNat with
  | 1 => if items.isEmpty then none else some (.configure items)
  | 2 => some .clearLearning
  | 3 => some .stepNow
  | 4 => some .restartClock
  | _ => none

/-- The record of a proposal taken: the next serial, the attached tenants required, the initiator alone concurred (R144). -/
def State.proposalRecord (t : Port) (k : JointKind) (s : State) : JointRecord :=
  { serial := s.tru.serial + 1
    kind := k
    initiator := t
    required := s.attachedSet
    concurred := (Three.fill false).set t true
    age := 0 }

/-- A proposal that awaits others: the record stands pending and JOINT_ASKED goes to the other parties (R144). -/
def State.askParties (r : JointRecord) (s : State) : State :=
  State.post (fun u => r.required.get u && u != r.initiator) (.jointAsked r.serial r.kind r.initiator)
    { s with tru := { s.tru with serial := r.serial, joint := some r } }

/-- What PROPOSE does (R144). -/
def State.actPropose (t : Port) (kind : Byte) (items : List ConfigItem) (s : State) : State × Answer :=
  match proposedKind kind items with
  | none => (s, ⟨.badValue, .proposed none none (s.policyUnread t)⟩)
  | some k =>
    if s.tru.joint.isSome then (s, ⟨.busy, .proposed none none (s.policyUnread t)⟩)
    else
      let r := s.proposalRecord t k
      if r.required = r.concurred then
        let d := State.executeJoint r true { s with tru := { s.tru with serial := r.serial } }
        (d.1, ⟨.ok, .proposed (some r.serial) (some d.2) (d.1.policyUnread t)⟩)
      else
        let s' := s.askParties r
        (s', ⟨.pending, .proposed (some r.serial) none (s'.policyUnread t)⟩)

/-- PROPOSE (R144); more items than a frame can hold make it malformed (R187; log 19). The refusal of a detached port carries no
body, policy-unread included (log 11). -/
def execPropose (t : Port) (tag : Word16) (kind : Byte) (items : List ConfigItem) (s : State) :
    Host.Outcome State Fault Refusal :=
  if items.length ≤ 8 then
    .next (s.takeRequest false t codePropose tag .empty (State.actPropose t kind items))
  else .next (s.takeMalformed t codePropose tag)

/-- The pending action when its serial is the one given (R145). -/
def State.pendingSerial (serial : Byte) (s : State) : Option JointRecord :=
  s.tru.joint.bind fun r => if r.serial = serial then some r else none

/-- The action with tenant t concurred (R145). -/
def JointRecord.joinedBy (t : Port) (r : JointRecord) : JointRecord := { r with concurred := r.concurred.set t true }

/-- What CONCUR does (R145). -/
def State.actConcur (t : Port) (serial : Byte) (s : State) : State × Answer :=
  match s.pendingSerial serial with
  | none => (s, ⟨.noAction, .concurred none (s.policyUnread t)⟩)
  | some r =>
    if r.required.get t = false then (s, ⟨.notParty, .concurred none (s.policyUnread t)⟩)
    else if r.concurred.get t then (s, ⟨.ok, .concurred none (s.policyUnread t)⟩)
    else if (r.joinedBy t).required = (r.joinedBy t).concurred then
      let d := s.executeJoint (r.joinedBy t) false
      (d.1, ⟨.ok, .concurred (some d.2) (d.1.policyUnread t)⟩)
    else
      let s' : State := { s with tru := { s.tru with joint := some (r.joinedBy t) } }
      (s', ⟨.ok, .concurred none (s'.policyUnread t)⟩)

/-- CONCUR (R145). The refusal of a detached port carries no body (log 11). -/
def execConcur (t : Port) (tag : Word16) (serial : Byte) (s : State) : Host.Outcome State Fault Refusal :=
  .next (s.takeRequest false t codeConcur tag .empty (State.actConcur t serial))

/-- What DECLINE does (R146). -/
def State.actDecline (t : Port) (serial : Byte) (s : State) : State × Answer :=
  match s.pendingSerial serial with
  | none => (s, ⟨.noAction, .declined (s.policyUnread t)⟩)
  | some r =>
    if r.required.get t = false then (s, ⟨.notParty, .declined (s.policyUnread t)⟩)
    else (s.cancelJoint .declined, ⟨.ok, .declined (s.policyUnread t)⟩)

/-- DECLINE (R146). The refusal of a detached port carries no body (log 11). -/
def execDecline (t : Port) (tag : Word16) (serial : Byte) (s : State) : Host.Outcome State Fault Refusal :=
  .next (s.takeRequest false t codeDecline tag .empty (State.actDecline t serial))

/-- READ_JOINT (R153). The refusal of a detached port carries no body (log 11). -/
def execReadJoint (t : Port) (tag : Word16) (s : State) : Host.Outcome State Fault Refusal :=
  .next
    (s.takeRequest false t codeReadJoint tag .empty fun s' =>
      (s', ⟨.ok, .joint s'.tru.joint s'.tru.lastEnded (s'.policyUnread t)⟩))

/-- A pending action has reached its age of 30 (R148). -/
def State.jointDue (s : State) : Bool := (s.tru.joint.map fun r => decide (30 ≤ r.age)).getD false

/-- JOINT_EXPIRY: the pending action is cancelled with reason EXPIRED (R148). -/
def execJointExpiry (s : State) : Host.Outcome State Fault Refusal :=
  .next (if !s.inStart && s.jointDue then s.cancelJoint .expired else s)

end Sys2Proof.Machine
end

