-- ==== Sys2Proof/Machine/Notices.lean ====
section
/-!
DEFINITION. The notice requests: READ_NOTICES and NEXT_NOTICE (R202), CLEAR_NOTICES (R203), NOTICES_DONE (R204),
SET_NOTICE_MASK (R205).
-/

namespace Sys2Proof.Machine

/-- READ_NOTICES: the set is returned, and frozen (R202). -/
def execReadNotices (t : Port) (tag : Word16) (s : State) : Host.Outcome State Fault Refusal :=
  .next
    (s.takeRequest false t codeReadNotices tag .empty fun s' =>
      (s'.setNotices t { s'.nu.get t with frozen := true }, ⟨.ok, .notices (s'.nu.get t).notices⟩))

/-- NEXT_NOTICE: the notice of the lowest kind is returned and removed; the set is frozen even when empty (R202). -/
def execNextNotice (t : Port) (tag : Word16) (s : State) : Host.Outcome State Fault Refusal :=
  .next
    (s.takeRequest false t codeNextNotice tag .empty fun s' =>
      (s'.setNotices t { s'.nu.get t with frozen := true, notices := (s'.nu.get t).notices.tail },
        ⟨.ok, .nextNotice (s'.nu.get t).notices.head?⟩))

/-- The notices whose kind a list does not name (R203). -/
def withoutKinds (kinds : List Byte) (set : List Notice) : List Notice :=
  set.filter fun n => !kinds.any fun k => k.toNat == n.kind

/-- What CLEAR_NOTICES does (R203). -/
def State.actClearNotices (t : Port) (kinds : List Byte) (s : State) : State × Answer :=
  if kinds.any fun k => 15 < k.toNat then (s, ⟨.badValue, .empty⟩)
  else
    (s.setNotices t { s.nu.get t with notices := withoutKinds kinds (s.nu.get t).notices }, ⟨.ok, .empty⟩)

/-- CLEAR_NOTICES (R203); a list of a length no frame can have makes it malformed (R187; log 19). -/
def execClearNotices (t : Port) (tag : Word16) (kinds : List Byte) (s : State) : Host.Outcome State Fault Refusal :=
  if 1 ≤ kinds.length ∧ kinds.length ≤ 16 then
    .next (s.takeRequest false t codeClearNotices tag .empty (State.actClearNotices t kinds))
  else .next (s.takeMalformed t codeClearNotices tag)

/-- The release of the pending set: each notice of an enabled kind joins the notice set, as the newer (R204). -/
def TenantNotices.release (n : TenantNotices) : TenantNotices :=
  { n with
    notices := (n.pending.filter fun p => kindEnabled n.mask p.kind).foldl (fun set p => fileNotice p set) n.notices
    pending := []
    frozen := false }

/-- NOTICES_DONE (R204). -/
def execNoticesDone (t : Port) (tag : Word16) (s : State) : Host.Outcome State Fault Refusal :=
  .next
    (s.takeRequest false t codeNoticesDone tag .empty fun s' =>
      (s'.setNotices t (s'.nu.get t).release, ⟨.ok, .empty⟩))

/-- SET_NOTICE_MASK (R205). -/
def execSetNoticeMask (t : Port) (tag : Word16) (mask : Word16) (s : State) : Host.Outcome State Fault Refusal :=
  .next
    (s.takeRequest false t codeSetNoticeMask tag .empty fun s' =>
      (s'.setNotices t { s'.nu.get t with mask := mask }, ⟨.ok, .empty⟩))

end Sys2Proof.Machine
end

