-- ==== Sys2Proof/Machine/Outputs.lean ====
section
/-!
DEFINITION. The pulse outputs (chapter 8): SET_OUTPUT (R156), PULSE_INSTANT (R160, R162) and PULSE_WIDTH_END (R161).
-/

namespace Sys2Proof.Machine

/-- Replaces output o. -/
def State.setOut (o : OutId) (x : Output) (s : State) : State := { s with pou := s.pou.set o x }

/-! ## SET_OUTPUT (R156) -/

/-- A squelch mode code (section 12.3). -/
def squelchModeOf (b : Byte) : Option SquelchMode :=
  match b.toNat with
  | 0 => some .none
  | 1 => some .invalid
  | 2 => some .tolerance
  | _ => Option.none

/-- An unsigned numeric field: taken in range, else the nearer end (Table 8-2). -/
def clampCount (lo hi v : Nat) : Nat × OutcomeCode := if lo ≤ v ∧ v ≤ hi then (v, .ok) else (max lo (min hi v), .clamped)

/-- The pending record a request forms, and the result of each field in the order of the body (Table 8-2). -/
def takeOutput (base : OutputRecord) (mode : SquelchMode) (f : OutputFields) : OutputRecord × List OutcomeCode :=
  let listed := supportedIntervals.contains f.interval.toNat
  let interval := if listed then f.interval.toNat else base.interval
  let width := clampCount 1 (halfInterval interval) f.width.toNat
  let offset := clampItem (-1000000000) 1000000000 (signed f.offset)
  ({ enable := f.enable != 0, interval := interval, width := width.1, offset := offset.1, mode := mode },
    [.ok, if listed then .ok else .ignored, width.2, offset.2, .ok])

/-- The overall outcome of the fields' results (R156). -/
def outputOutcome (rs : List OutcomeCode) : OutcomeCode :=
  if rs.contains .ignored then .ignored else if rs.contains .clamped then .clamped else .ok

/-- The body of a SET_OUTPUT response (R156). -/
def outputBody (rs : List OutcomeCode) (o : Output) : Body := .output rs o.pending o.current o.state

/-- What SET_OUTPUT does (R156). -/
def State.actSetOutput (t : Port) (f : OutputFields) (s : State) : State × Answer :=
  let o := s.pou.get (tenantOut t)
  match squelchModeOf f.mode with
  | none => (s, ⟨.badValue, outputBody [] o⟩)
  | some mode =>
    let r := takeOutput (o.pending.getD o.current) mode f
    let o' : Output := { o with pending := some r.1 }
    (s.setOut (tenantOut t) o', ⟨outputOutcome r.2, outputBody r.2 o'⟩)

/-- SET_OUTPUT (R156). The refusal of a detached port carries no body, the records included (log 11). -/
def execSetOutput (t : Port) (tag : Word16) (f : OutputFields) (s : State) : Host.Outcome State Fault Refusal :=
  .next (s.takeRequest false t codeSetOutput tag .empty (State.actSetOutput t f))

/-! ## Pulse instants (R159, R160) -/

/-- The output acts at its pulse instants: in RUN, resume-wait clear, enable on (R160, R162). -/
def State.actsAtInstants (o : OutId) (s : State) : Bool :=
  s.inService && !(s.pou.get o).resumeWait && (s.pou.get o).current.enable

/-- OUT3's squelch condition (R164). -/
def State.out3Squelched (s : State) : Bool :=
  !s.tsg.timeValid || (s.tru.policy.squelch && decide (s.tru.policy.lCom < s.sde.e))

/-- The squelch condition of a tenant output (R163). -/
def State.tenantSquelched (t : Port) (mode : SquelchMode) (s : State) : Bool :=
  match mode with
  | .none => false
  | .invalid => !s.tsg.timeValid
  | .tolerance => !s.sde.tol.get t

/-- The owner of an output; none for OUT3 (R155). -/
def ownerOf : OutId → Option Port
  | 0 => some 0
  | 1 => some 1
  | 2 => some 2
  | 3 => none

/-- The squelch condition of an output as it stands (R163, R164). -/
def State.squelched (o : OutId) (s : State) : Bool :=
  match ownerOf o with
  | some t => s.tenantSquelched t (s.pou.get o).current.mode
  | none => s.out3Squelched

/-- The width a pulse drives: the held width, or half the interval when that is smaller, in units (R157, R161). -/
def pulseUnits (r : OutputRecord) : Nat := min r.width (halfInterval r.interval) * 100000 * unitsPerPs

/-- The report of one output's new state (R165). -/
def squelchReport (o : OutId) (st : OutputState) : Report :=
  .outputSquelch (Four.set ⟨none, none, none, none⟩ o (some st))

/-- OUTPUT_SQUELCH goes to the owner, and for OUT3 to all attached (R165). -/
def State.postSquelch (o : OutId) (st : OutputState) (s : State) : State :=
  match ownerOf o with
  | some t => s.postTo t (squelchReport o st)
  | none => s.postAll (squelchReport o st)

/-- A change of the output state that posts OUTPUT_SQUELCH (Table 8-4). -/
def squelchPosts (old new : OutputState) : Bool := old != new && !(old == .disabled && new == .active)

/-- The state an output takes at a pulse instant (R162). -/
def State.stateAtInstant (o : OutId) (s : State) : OutputState := if s.squelched o then .squelched else .active

/-- Output o after the instant: an ACTIVE one drives a pulse, whose width counts from the instant (R161). -/
def State.outputAtInstant (o : OutId) (past : Nat) (s : State) : Output :=
  let x := s.pou.get o
  { x with
    state := s.stateAtInstant o
    pulseLeft := if s.squelched o then x.pulseLeft else some (pulseUnits x.current - past)
    passed := none }

/-- A pulse instant, passed by so many units, is evaluated (R161, R162, R165). -/
def State.evaluateOut (o : OutId) (past : Nat) (s : State) : State :=
  let s' := s.setOut o (s.outputAtInstant o past)
  if squelchPosts (s.pou.get o).state (s.stateAtInstant o) then s'.postSquelch o (s.stateAtInstant o) else s'

/-- The instant of output o that the latest cycle passed, where the output acts on it (R160, R162). -/
def State.dueInstant (o : OutId) (s : State) : Option Nat :=
  if s.actsAtInstants o then (s.pou.get o).passed else none

/-- Cycles to the next pulse instant of a record. -/
def cyclesToInstant (t : Tsg) (r : OutputRecord) : Nat :=
  ceilDiv (intervalUnits r.interval - pastInstant t r) t.cycleAdvance

/-- Site time can advance so many cycles without passing the end of the second. -/
def fitsInSecond (t : Tsg) (n : Nat) : Bool := t.position + n * t.cycleAdvance < unitsPerSecond

/-- Site time advances to the next pulse instant of output o, and it is evaluated there. -/
def State.advanceToInstant (o : OutId) (s : State) : State :=
  let s' := s.advanceCycles (cyclesToInstant s.tsg (s.pou.get o).current)
  s'.evaluateOut o (pastInstant s'.tsg (s.pou.get o).current)

/-- PULSE_INSTANT: site time passes the output's pulse instant by advance, and it is evaluated (R160, R162): the instant that
the latest cycle passed where one is not yet acted on, else the next instant of this second, to which site time first
advances (log 3). -/
def execPulseInstant (o : OutId) (s : State) : Host.Outcome State Fault Refusal :=
  match s.dueInstant o with
  | some past => .next (s.evaluateOut o past)
  | none =>
    if s.actsAtInstants o && fitsInSecond s.tsg (cyclesToInstant s.tsg (s.pou.get o).current) then
      .next (s.advanceToInstant o)
    else .next s

/-- The pulse of output o ends: the pin goes low (R161). -/
def State.endPulse (o : OutId) (s : State) : State := s.setOut o { s.pou.get o with pulseLeft := none }

/-- PULSE_WIDTH_END: the width of the pulse in progress has passed, counted in site time (R161). -/
def execPulseWidthEnd (o : OutId) (s : State) : Host.Outcome State Fault Refusal :=
  match (s.pou.get o).pulseLeft with
  | none => .next s
  | some u =>
    if fitsInSecond s.tsg (ceilDiv u s.tsg.cycleAdvance) then
      .next ((s.advanceCycles (ceilDiv u s.tsg.cycleAdvance)).endPulse o)
    else .next s

end Sys2Proof.Machine
end

