-- ==== Sys2Proof/Machine/Ports.lean ====
section
/-!
DEFINITION. The port transactions and the present lines: READ_TRANSACTION (R184, R186), RESPONSE_COMPLETED (R185),
MALFORMED_FRAME (R187), PRESENT_LINE_FALLS and PRESENT_LINE_RISES (R135, R189).
-/

namespace Sys2Proof.Machine

/-- The NOT_READY frame that port t answers with (R186). -/
def State.notReadyFrame (t : Port) (s : State) : List Byte :=
  notReadyBytes (s.tpi.get t).overrun (s.tpi.get t).state.isWorking (s.spm.power != .run)

/-- The bytes that port t clocks out have been clocked; the port is left in the state given (log 27). -/
def State.clocked (t : Port) (ps : PortState) (bytes : List Byte) (s : State) : State :=
  s.setPort t { s.tpi.get t with state := ps, clocked := .bytes bytes }

/-- READ_TRANSACTION: the held response is clocked out and the holder emptied; with none to return, or out of RUN, a
NOT_READY frame is clocked out; during a start, fill bytes alone (R184, R186). -/
def execReadTransaction (t : Port) (bytes : Nat) (s : State) : Host.Outcome State Fault Refusal :=
  if s.inStart then .next (s.clocked t (s.tpi.get t).state (clockOut bytes []))
  else
    match s.spm.power, (s.tpi.get t).state with
    | .run, .ready r => .next (s.clocked t .idle (clockOut bytes r.bytes))
    | _, ps => .next (s.clocked t ps (clockOut bytes (s.notReadyFrame t)))

/-- RESPONSE_COMPLETED: the response enters the holder, with the overrun indication when the flag is set, and the flag is
cleared (R184, R185). -/
def execResponseCompleted (t : Port) (s : State) : Host.Outcome State Fault Refusal :=
  match (s.tpi.get t).state with
  | .working r =>
    .next
      (s.setPort t
        { s.tpi.get t with state := .ready { r with overrun := (s.tpi.get t).overrun }, overrun := false })
  | .idle => .next s
  | .ready _ => .next s

/-- MALFORMED_FRAME: answered BAD_REQUEST with the code and tag as received (R187). -/
def execMalformedFrame (t : Port) (code : Byte) (tag : Word16) (s : State) : Host.Outcome State Fault Refusal :=
  .next (s.takeMalformed t code tag)

/-- The level of present line t. -/
def State.setPresent (t : Port) (level : Bool) (s : State) : State :=
  { s with pins := { s.pins with present := s.pins.present.set t level } }

/-- PRESENT_LINE_FALLS: the port returns to IDLE, and an attached tenant is detached (R135, R189). During a start the level
alone changes (log 18). -/
def execPresentLineFalls (t : Port) (s : State) : Host.Outcome State Fault Refusal :=
  let s1 := s.setPresent t false
  if s.inStart then .next s1
  else
    let s2 := s1.closePort t
    .next (if s2.attached t then s2.detachTenant t else s2)

/-- PRESENT_LINE_RISES: nothing changes but the level, which ATTACH reads (R189). -/
def execPresentLineRises (t : Port) (s : State) : Host.Outcome State Fault Refusal := .next (s.setPresent t true)

end Sys2Proof.Machine
end

