-- ==== Sys2Proof/Machine/Discipline.lean ====
section
/-!
DEFINITION. The Selection and Discipline Engine taking an epoch summary: the drive stage (R47, R53 to R59, R62 to R67), the
loop update and the locked averages (chapter 4), assistance (R115, R116), and the select and follow stages (R48 to R60).
-/

namespace Sys2Proof.Machine

/-! ## The step decision (section 3.4) -/

/-- The SDE orders a phase step of e: PHASE_STEP is posted with the limited Δ, the STEPPED latches record it, and both lock
counts become 0 (R62 to R64). -/
def State.orderStep (e : Int) (s : State) : State :=
  (State.postAll (.phaseStep (limitStep e)) { s with sde := { s.sde with lockCount := 0, lockLoss := 0 } }).latchStepped

/-- A pending regular decision orders a step at |e| (R62). -/
def State.decidesStep (s : State) (e : Int) : Bool :=
  s.sde.stepDecisionPending && decide (s.tru.config.stepThreshold < mag e) &&
    (s.tru.policy.stepsPermitted || !s.tsg.timeValid)

/-- A pending STEP_NOW orders a step at e (R63). -/
def State.stepsNow (s : State) (e : Int) : Bool := s.sde.stepNow && e != 0

/-- The step decision at a GOOD epoch of an ACQUIRE clock: the state after it, and whether a step of e is ordered (R62,
R63). -/
def State.stepDecision (e : Int) (s : State) : State × Bool :=
  let s' : State := { s with sde := { s.sde with stepDecisionPending := false, stepNow := false } }
  if s.stepsNow e || s.decidesStep e then (s'.orderStep e, true) else (s', false)

/-! ## Counting and clock transitions of the drive stage (section 3.3) -/

/-- |e| is within the lock threshold (section 3.3). -/
def State.withinLock (s : State) (e : Int) : Bool := decide (mag e ≤ s.tru.config.lockThreshold)

/-- The clock enters LOCKED: the lock-loss count becomes 0, decision pending and bridge remaining are cleared, time becomes
valid and the locked-since-start flag is set when they were not (R53, R57, R59). -/
def State.enterLocked (s : State) : State :=
  let s' : State :=
    { s with
      tsg := { s.tsg with timeValid := true }
      sde :=
        { s.sde with
          lockLoss := 0, decisionPending := false, bridgeRemaining := 0, lockedSinceStart := true } }
  (State.enterClock .locked s').judgeAll

/-- The clock enters ACQUIRE in the drive stage: the lock count becomes 0 and the step decision is made at this same epoch
(R55, R57, R59). -/
def State.enterAcquireDeciding (e : Int) (s : State) : State × Bool :=
  let s' := State.enterClock .acquire { s with sde := { s.sde with decisionPending := false, bridgeRemaining := 0 } }
  State.stepDecision e { s' with sde := { s'.sde with lockCount := 0, stepDecisionPending := true } }

/-- A GOOD driving item in an ACQUIRE clock (R53, R62, R63). -/
def State.goodAcquire (e : Int) (s : State) : State × Bool :=
  let d := s.stepDecision e
  if d.2 then d
  else if s.withinLock e then
    let s' : State := { d.1 with sde := { d.1.sde with lockCount := satAdd 16 d.1.sde.lockCount 1 } }
    (if 16 ≤ s'.sde.lockCount then s'.enterLocked else s', false)
  else ({ d.1 with sde := { d.1.sde with lockCount := 0 } }, false)

/-- A GOOD driving item in a LOCKED clock (R55, R57). -/
def State.goodLocked (e : Int) (s : State) : State × Bool :=
  if s.withinLock e then ({ s with sde := { s.sde with decisionPending := false, lockLoss := 0 } }, false)
  else if s.sde.decisionPending then s.enterAcquireDeciding e
  else
    let s' : State := { s with sde := { s.sde with lockLoss := satAdd 4 s.sde.lockLoss 1 } }
    if 4 ≤ s'.sde.lockLoss then s'.enterAcquireDeciding e else (s', false)

/-- A GOOD driving item in a BRIDGE clock (R59). -/
def State.goodBridge (e : Int) (s : State) : State × Bool :=
  if s.withinLock e then (s.enterLocked, false) else s.enterAcquireDeciding e

/-- The counting and transitions a GOOD driving item causes, and whether a step is ordered. -/
def State.goodEpoch (e : Int) (s : State) : State × Bool :=
  match s.sde.clock with
  | .acquire => s.goodAcquire e
  | .locked => s.goodLocked e
  | .bridge => s.goodBridge e
  | .freerun => (s, false)
  | .holdover => (s, false)

/-- A FAULTY driving item makes an ACQUIRE clock's lock count 0 (R53). -/
def State.faultyEpoch (s : State) : State :=
  if s.sde.clock = .acquire then { s with sde := { s.sde with lockCount := 0 } } else s

/-! ## Averages kept while locked (sections 4.4 and 4.5) -/

/-- A locked result is filed in its bin (R93) and the day accumulators (R94). -/
def Ols.fileResult (o : Ols) (fInt θ : Int) : Ols :=
  let b := binOf θ
  let r := o.bins.get b
  let n := satAdd 65535 r.count 1
  let w := min n 64
  let d := fInt - r.mean
  let r' : BinRecord :=
    { count := n
      mean := r.mean + roundDiv d w
      spread := if r.count = 0 then 0 else r.spread + roundDiv (mag d - r.spread) w }
  let o' : Ols := { o with bins := o.bins.set b r' }
  if o.dayLocked < 86400 then
    { o' with dayLocked := o.dayLocked + 1, dayCorr := o.dayCorr + fInt, dayTemp := o.dayTemp + θ }
  else o'

/-- The learning store takes a locked result, and files it when learning is enabled (R92). -/
def State.takeResult (s : State) : State :=
  match s.ols.theta with
  | some θ => if s.learningEnabled then { s with ols := s.ols.fileResult s.sde.fInt θ } else s
  | none => s

/-- The residual and the smoothed integral with its bin; a first LOCKED update after a start seeds F_avg (R80, R81). -/
def State.lockedAverages (e : Int) (first : Bool) (s : State) : State :=
  { s with
    sde :=
      { s.sde with
        residual := s.sde.residual + roundDiv (mag e - s.sde.residual) 16
        fAvg := if first then s.sde.fInt else s.sde.fAvg + roundDiv (s.sde.fInt - s.sde.fAvg) 64
        fAvgBin := s.currentBin } }

/-- LF tracking with the LF frequency f, formed under the adopted nominal frequency: afresh, or one step of the averages
(R83, R84). -/
def State.trackLf (f : Int) (s : State) : State :=
  if s.sde.lfRestart || s.sde.lfBasis != s.rmu.lfNominal then
    { s with
      sde := { s.sde with bias := f, wander := 0, lfCount := 1, lfBasis := s.rmu.lfNominal, lfRestart := false } }
  else
    let b := s.sde.bias + roundDiv (f - s.sde.bias) 64
    { s with
      sde :=
        { s.sde with
          bias := b
          wander := s.sde.wander + roundDiv (mag (f - b) - s.sde.wander) 64
          lfCount := satAdd 600 s.sde.lfCount 1 } }

/-- LF tracking with the LF item of the summary (R83). -/
def State.trackItem (lf : SlotItem) (s : State) : State :=
  match lf.outcome with
  | .good f _ => if lf.state = .off then s else s.trackLf f
  | .empty => s
  | .faulty _ => s
  | .none => s

/-! ## The loop update (sections 4.1 and 4.2) -/

/-- The proportional term (R72, R74). -/
def State.proportional (s : State) (e : Int) : Int :=
  clampAbs s.tru.policy.sRes (roundDiv e (2 ^ (s.tru.config.bandwidth + 3)))

/-- The integral formed from e (R72, R75). -/
def State.integral (s : State) (e : Int) : Int :=
  clampCorr (s.sde.fInt + roundDiv e (2 ^ (2 * s.tru.config.bandwidth + 7)))

/-- The seconds-set rules at a GOOD item of epoch k: the mismatch count, and the label a set is ordered from (R65, R66). -/
def State.labelRule (k : Seconds) (label : Option Seconds) (s : State) : State × Option Seconds :=
  match label with
  | none => (s, none)
  | some l =>
    if !s.tsg.timeValid then (s, if l = k then none else some l)
    else if l = k then ({ s with sde := { s.sde with labelMismatch := 0 } }, none)
    else if 3 ≤ s.sde.labelMismatch + 1 then ({ s with sde := { s.sde with labelMismatch := 0 } }, some l)
    else ({ s with sde := { s.sde with labelMismatch := s.sde.labelMismatch + 1 } }, none)

/-- A seconds set ordered at the close of epoch k from label λ: v is λ + (c − k), with c the count after any step (R67). -/
def State.setFromLabel (k l : Seconds) (s : State) : State :=
  let v := l + (s.tsg.seconds - k)
  ((s.applySet v).postAll (.secondsSet v)).latchStepped

/-- The full update with the epoch value e of a GOOD driving item of epoch k (R73 to R76, R80 to R84, R120), and at its
end the step and the seconds set it ordered (R13). -/
def State.fullUpdate (k : Seconds) (e : Int) (label : Option Seconds) (stepped first : Bool) (lf : SlotItem)
    (s : State) : State :=
  let used := if stepped then 0 else e
  let p := s.proportional used
  let s1 : State := { s with sde := { s.sde with fInt := s.integral used } }
  let s2 := if s1.sde.clock = .locked then ((s1.lockedAverages used first).takeResult).trackItem lf else s1
  let s3 := s2.setE (s2.tru.config.eFloor + mag e)
  let s4 := s3.orderFApp (s3.sde.fInt + p)
  let s5 := if stepped then s4.applyStep e else s4
  match s5.labelRule k label with
  | (s6, some l) => s6.setFromLabel k l
  | (s6, none) => s6

/-- The hold update of an EMPTY or FAULTY driving item from slot n (R77, R120). -/
def State.holdUpdate (n : SlotId) (s : State) : State :=
  let last : Int := ((s.rmu.slots.get n).lastValue.map mag).getD 0
  (s.orderFApp s.sde.fInt).setE (s.tru.config.eFloor + last)

/-- The loop runs in ACQUIRE and LOCKED (R71). -/
def State.loops (s : State) : Bool := s.sde.clock == .acquire || s.sde.clock == .locked

/-- The drive stage with the driving item of slot n (R47, R71). -/
def State.driveItem (k : Seconds) (n : SlotId) (item lf : SlotItem) (s : State) : State :=
  match item.outcome with
  | .good e label =>
    let d := s.goodEpoch e
    if d.1.loops then d.1.fullUpdate k e label d.2 (!s.sde.lockedSinceStart && d.1.sde.lockedSinceStart) lf else d.1
  | .faulty _ => if s.loops then s.faultyEpoch.holdUpdate n else s
  | .empty => if s.loops then s.holdUpdate n else s
  | .none => s

/-! ## Assistance (section 6.3) -/

/-- Assistance holds at a summary with this LF item: the LF frequency to steer by (R115). -/
def State.assistance (lf : SlotItem) (s : State) : Option Int :=
  match lf.outcome with
  | .good f _ =>
    if s.sde.lfCount = 600 ∧ lf.priority ≠ 0 ∧ lf.state ≠ .off ∧ s.spm.power = .run ∧ s.spm.oven = .settled then some f
    else none
  | .empty => none
  | .faulty _ => none
  | .none => none

/-- The assisted flag changes, and CLOCK_STATE carries it (R116). -/
def State.setAssisted (b : Bool) (s : State) : State :=
  let s' : State := { s with sde := { s.sde with assisted := b } }
  s'.postAll s'.clockReport

/-- Assistance ends while the clock stays in HOLDOVER: the anchor is taken from F_app as it stands (R110, R116). -/
def State.endAssistance (s : State) : State := (s.takeAnchor s.tsg.fApp).setAssisted false

/-- The judgement of assistance in HOLDOVER (R115, Table 6-5). -/
def State.judgeAssistance (lf : SlotItem) (s : State) : State :=
  match s.assistance lf with
  | some f =>
    let s' := s.orderFApp (s.tsg.fApp - roundDiv (f - s.sde.bias) 4)
    if s.sde.assisted then s' else s'.setAssisted true
  | none => if s.sde.assisted then s.endAssistance else s

/-- The drive stage (R47). -/
def State.driveStage (k : Seconds) (items : Six SlotItem) (s : State) : State :=
  if s.sde.clock = .holdover then s.judgeAssistance (items.get lfSlot)
  else
    match s.sde.selected with
    | none => s
    | some n => s.driveItem k n (items.get n) (items.get lfSlot)

/-! ## The select stage (section 3.2) -/

/-- A candidate for selection: phase-capable, USABLE in the summary, of non-zero priority (R49). -/
def isCandidate (items : Six SlotItem) (n : SlotId) : Bool :=
  phaseCapable n && (items.get n).state == .usable && (items.get n).priority != 0

/-- The phase-capable slots in slot order (R49). -/
def phaseSlots : List SlotId := [0, 1, 3, 4, 5]

/-- The better of two candidates: the lowest priority number, and among equals the lower slot, which comes first (R49). -/
def betterOf (items : Six SlotItem) (best : Option SlotId) (n : SlotId) : Option SlotId :=
  match best with
  | none => some n
  | some b => if (items.get n).priority < (items.get b).priority then some n else some b

/-- The best of the slots that meet a test (R49). -/
def bestSlot (items : Six SlotItem) (test : SlotId → Bool) : Option SlotId :=
  (phaseSlots.filter test).foldl (betterOf items) none

/-- A slot that may take the selection from slot m by restoration (R50). -/
def restores (items : Six SlotItem) (c : SiteConfig) (m n : SlotId) : Bool :=
  isCandidate items n && decide (c.waitToRestore ≤ (items.get n).usableRun) &&
    ((items.get m).priority == 0 || decide ((items.get n).priority < (items.get m).priority))

/-- The selected slot after the select stage (R48 to R50). -/
def chooseSlot (items : Six SlotItem) (c : SiteConfig) (now : Option SlotId) : Option SlotId :=
  match now with
  | some m =>
    if (items.get m).state = .selected then
      if c.revertive then (bestSlot items (restores items c m)).or (some m) else some m
    else bestSlot items (isCandidate items)
  | none => bestSlot items (isCandidate items)

/-- The RMU's marks when the selection moves: the old slot, if still SELECTED, returns to USABLE, and the new one becomes
SELECTED (R49, R50). -/
def markSelection (old new : Option SlotId) (n : SlotId) (sl : Slot) : Slot :=
  if new = some n then { sl with state := .selected }
  else if old = some n ∧ sl.state = .selected then { sl with state := .usable }
  else sl

/-- The selected slot changes: SELECTION is posted and the state of R51 is set. -/
def State.changeSelection (new : Option SlotId) (s : State) : State :=
  State.postAll (.selection new)
    { s with
      rmu := { s.rmu with slots := s.rmu.slots.mapIdx (markSelection s.sde.selected new) }
      sde :=
        { s.sde with
          selected := new
          lastSelected := new.or s.sde.lastSelected
          labelMismatch := 0
          stepNow := false
          lockCount := 0 } }

/-! ## The follow stage (section 3.3) -/

/-- The clock enters ACQUIRE in the follow stage: the lock count becomes 0 and step decision pending becomes yes (R52,
R60). -/
def State.enterAcquireFollowing (s : State) : State :=
  let s' := State.enterClock .acquire s
  { s' with sde := { s'.sde with lockCount := 0, stepDecisionPending := true } }

/-- The transitions caused by the selection being what it was before the select stage, and what it is after (R52, R54, R56,
R57, R59, R60). -/
def State.followStage (old : Option SlotId) (s : State) : State :=
  let new := s.sde.selected
  match s.sde.clock with
  | .freerun => if old.isNone && new.isSome then s.enterAcquireFollowing else s
  | .acquire =>
    if new = old then s
    else if new.isSome then { s with sde := { s.sde with lockCount := 0, stepDecisionPending := true } }
    else if s.tsg.timeValid then s.enterHoldover
    else s.enterFreerun
  | .locked =>
    if new = old then s
    else if new.isSome then { s with sde := { s.sde with decisionPending := true } }
    else
      let s' : State := { s with sde := { s.sde with lockLoss := 0 } }
      if 0 < s.tru.config.bridgeTime then s'.enterBridge else s'.enterHoldover
  | .bridge => if new = old then s else { s with sde := { s.sde with decisionPending := new.isSome } }
  | .holdover =>
    if new.isSome then State.enterAcquireFollowing { s with sde := { s.sde with fInt := s.tsg.fApp } } else s

/-- The select stage and the follow stage (R47). -/
def State.selectAndFollow (items : Six SlotItem) (s : State) : State :=
  let old := s.sde.selected
  let new := chooseSlot items s.tru.config old
  State.followStage old (if new = old then s else s.changeSelection new)

/-- A summary whose LF item shows the state OFF, or at which a halt of LF ends, sets LF restart (R41, R84). It is set after the
drive stage, whose tracking the last epoch before the halt still feeds: the next GOOD LF epoch restarts (log 32). -/
def State.noteLfHalt (lf : SlotItem) (s : State) : State :=
  if lf.state = .off ∨ lf.haltEnded = true then { s with sde := { s.sde with lfRestart := true } } else s

/-- The SDE takes the summary of epoch k (R47). -/
def State.takeSummary (k : Seconds) (items : Six SlotItem) (s : State) : State :=
  ((s.driveStage k items).noteLfHalt (items.get lfSlot)).selectAndFollow items

/-! ## The epoch close (R34) -/

/-- An epoch close is due: in RUN, and the epoch before the current second lies after the last-closed one (R34). -/
def State.closeDue (s : State) : Bool := s.inService && s.rmu.isOpen (s.tsg.seconds - 1)

/-- The label target of a pulse slot becomes none when the slot is disqualified or ends a halt (R19). -/
def keptTarget (c : SlotClose) (x : Option LabelTarget) : Option LabelTarget :=
  if c.disqualified || c.halted then none else x

/-- The RMU after the close of epoch k, every slot closed (R34). -/
def Rmu.closed (r : Rmu) (k : Seconds) (closes : Six SlotClose) : Rmu :=
  { r with
    slots := closes.mapIdx fun _ c => c.slot
    targetA := keptTarget closes.s0 r.targetA
    targetB := keptTarget closes.s1 r.targetB
    lastClosed := k }

/-- The notices of a slot's close (R38, R41, R42). -/
def State.postClose (closes : Six SlotClose) (n : SlotId) (s : State) : State :=
  let s' := if (closes.get n).disqualified then s.postDisqualified n else s
  if (closes.get n).halted then s'.postHalted n else s'

/-- What the close of epoch k leaves of every slot. -/
def State.slotCloses (s : State) (k : Seconds) : Six SlotClose :=
  s.rmu.slots.mapIdx fun n sl => sl.close (s.tru.config.slots.get n).enable k

/-- Epoch k closes: the slots are closed, their notices posted, the summary is handed to the SDE, and the settings are
adopted (R22, R34, R42, R47). -/
def State.closeEpoch (k : Seconds) (s : State) : State :=
  let closes := s.slotCloses k
  let s1 : State := { s with rmu := s.rmu.closed k closes }
  let s2 := s1.forSlots (State.postClose closes)
  let s3 := s2.takeSummary k (closes.mapIdx fun _ c => c.item)
  { s3 with rmu := s3.rmu.adopt s3.tru.config }

end Sys2Proof.Machine
end

