-- ==== Sys2Proof/Machine/Boundary.lean ====
section
/-!
DEFINITION. What an epoch boundary does in each block (R6), in the order of log 13: the RMU's mark and hold-offs, the SDE's
prediction and growth (chapter 6), the OLS's day and sensor read (R87, R95), the joint age (R148), the outputs' adoption
(R158) and the SPM's counts (R173, R175, R176).
-/

namespace Sys2Proof.Machine

/-! ## The RMU -/

/-- The RMU at a raised boundary that ends epoch k: the LF mark while references are followed (R26, R43), and the hold-offs
in every power state (R39). -/
def State.rmuBoundary (k : Seconds) (line : LineClock) (s : State) : State :=
  let r := if s.spm.power = .run then s.rmu.takeLineClock k line else s.rmu
  { s with rmu := { r with slots := r.slots.mapIdx fun _ sl => sl.countHoldOff } }

/-! ## The SDE (chapter 6) -/

/-- Whole hours since the anchor, at a boundary with the new seconds count n (R112). -/
def hoursSince (sa n : Seconds) : Nat := ((n - sa).toNat - 1) / 3600

/-- The hours are formed at a boundary in HOLDOVER (R112). -/
def State.formHours (s : State) : State :=
  if s.sde.clock = .holdover then
    { s with sde := { s.sde with hours := hoursSince s.sde.anchorSeconds s.tsg.seconds } }
  else s

/-- The aging term (R114); A counts as 0 while aging is not established. -/
def State.agingTerm (s : State) : Int :=
  roundDiv ((if s.ols.agingEst then s.ols.aging else 0) * s.sde.hours) 24

/-- F_pred (R114). -/
def State.predicted (s : State) : Int :=
  s.sde.anchorCorr + (s.tempTerm s.sde.anchorBin).getD 0 + s.agingTerm

/-- The boundary prediction step: F_app moves toward F_pred by at most 1,000 ppt (R114). -/
def State.predictionStep (s : State) : State :=
  if s.sde.clock = .holdover ∧ s.sde.assisted = false ∧ s.spm.oven = .settled then
    s.orderFApp (s.tsg.fApp + clampAbs 1000 (s.predicted - s.tsg.fApp))
  else s

/-- The temperature penalty Pt (R122). -/
def State.tempPenalty (s : State) : Int :=
  if (s.tempTerm s.sde.anchorBin).isSome then
    match s.currentBin with
    | some b => (s.ols.bins.get b).spread
    | none => 200
  else if s.currentBin.isSome ∧ s.currentBin = s.sde.anchorBin ∧ s.ols.sensorFault = false then 0
  else 200

/-- The aging uncertainty U_A (R122). -/
def State.agingUncertainty (s : State) : Int :=
  if s.ols.agingEst then max (roundDiv (mag s.ols.aging) 4) 1 else 50

/-- The hours as the growth reads them: 0 in BRIDGE (R112). -/
def State.growthHours (s : State) : Nat := if s.sde.clock = .holdover then s.sde.hours else 0

/-- The growth g (Table 6-7). -/
def State.growth (s : State) : Int :=
  let floor := s.tru.config.sigmaFloor
  if s.cold then 5000
  else if s.sde.clock = .holdover ∧ s.sde.assisted then max s.sde.wander floor
  else max s.sde.residual floor + s.tempPenalty + roundDiv (s.agingUncertainty * s.growthHours) 24

/-- E grows in BRIDGE and HOLDOVER (R122). -/
def State.growE (s : State) : State :=
  if s.sde.clock = .bridge ∨ s.sde.clock = .holdover then s.setE (s.sde.e + s.growth) else s

/-- Bridge remaining falls by 1 in BRIDGE (R58). -/
def State.countBridge (s : State) : State :=
  if s.sde.clock = .bridge then { s with sde := { s.sde with bridgeRemaining := s.sde.bridgeRemaining - 1 } } else s

/-- The SDE at a raised boundary. -/
def State.sdeBoundary (s : State) : State := s.formHours.predictionStep.growE.countBridge

/-! ## The OLS (chapter 5) -/

/-- The day record of the day in progress, ended as day D (R95). -/
def Ols.dayRecord (o : Ols) (day : Nat) : DayRecord :=
  { day := day, meanCorr := roundDiv o.dayCorr o.dayLocked, meanTemp := roundDiv o.dayTemp o.dayLocked
    locked := o.dayLocked }

/-- The record of day D is appended: enough locked results, and a day after the newest (R95). -/
def Ols.appends (o : Ols) (day : Nat) : Bool :=
  72000 ≤ o.dayLocked && ((o.ring.getLast?.map fun r => decide (r.day < day)).getD true)

/-- The ring with a record appended, the oldest of 8 removed first (R95). -/
def appendDay (ring : List DayRecord) (r : DayRecord) : List DayRecord :=
  (if 8 ≤ ring.length then ring.drop (ring.length - 7) else ring) ++ [r]

/-- The day boundary that ends day D, without its retained write (R95). -/
def Ols.endDay (o : Ols) (day : Nat) : Ols :=
  let o' : Ols :=
    if o.appends day then
      let ring := appendDay o.ring (o.dayRecord day)
      { o with ring := ring, aging := (agingOf ring).1, agingEst := (agingOf ring).2 }
    else o
  { o' with dayLocked := 0, dayCorr := 0, dayTemp := 0 }

/-- The day boundary, when the new seconds value is a multiple of 86,400 (R95). -/
def State.dayBoundary (s : State) : State :=
  if s.tsg.seconds.toNat % 86400 = 0 then
    State.requestWrite { s with ols := s.ols.endDay (dayOf (s.tsg.seconds - 1)) }
  else s

/-- A sensor read starts; one still in progress is abandoned as failed (R87). -/
def State.startRead (s : State) : State :=
  let s' := if s.ols.reading then s.failedSample else s
  { s' with ols := { s'.ols with reading := true } }

/-! ## The TRU, the POU and the SPM -/

/-- The age of a pending action rises by 1 (R148). -/
def State.ageJoint (s : State) : State :=
  { s with tru := { s.tru with joint := s.tru.joint.map fun j => { j with age := satAdd 30 j.age 1 } } }

/-- An output at a raised boundary: the pending record is adopted and the resume-wait flag cleared (R158, R167). The flag may still
be set when keep-alive is entered again: R167 clears it at the next raised boundary, Table 8-5 has it kept in KEEPALIVE and
COLDKEEP, and the model clears it at a raised boundary of every power state, DESIGN CHOICE (log 36). -/
def Output.adopt (o : Output) : Output :=
  match o.pending with
  | none => { o with resumeWait := false }
  | some r =>
    { o with current := r, pending := none, resumeWait := false, state := if r.enable then o.state else .disabled }

/-- The outputs at a raised boundary (R158). -/
def State.adoptOutputs (s : State) : State := { s with pou := s.pou.mapIdx fun _ o => o.adopt }

/-- The keep-alive summary counts a raised boundary (R173). -/
def KeepAliveSummary.countBoundary (cold : Bool) (k : KeepAliveSummary) : KeepAliveSummary :=
  { k with
    boundaries := satAdd 4294967295 k.boundaries 1
    coldBoundaries := if cold then satAdd 4294967295 k.coldBoundaries 1 else k.coldBoundaries }

/-- The SPM at a raised boundary: the warm-up and the soak count (R175, R176), and the keep-alive summary (R173). -/
def Spm.boundary (p : Spm) : Spm :=
  { p with
    warmUp := if p.oven = .warming then satAdd 1800 p.warmUp 1 else p.warmUp
    soak := if p.oven = .settled then p.soak - 1 else p.soak
    summary := if p.power = .run then p.summary else p.summary.map (·.countBoundary (p.power == .coldkeep)) }

/-- The SPM's share of a raised boundary. -/
def State.spmBoundary (s : State) : State := { s with spm := s.spm.boundary }

/-! ## The whole boundary -/

/-- The work of a raised boundary in every block, in the order of log 13. -/
def State.raiseBoundary (line : LineClock) (s : State) : State :=
  (((((s.rmuBoundary (s.tsg.seconds - 1) line).sdeBoundary).dayBoundary).startRead).ageJoint).adoptOutputs.spmBoundary

/-- The instant of output o that the cycle crossing the end of the second passed before that end, by the record still in
force: site time, past the end now, stands less than that cycle's advance beyond it (R158, R160; log 3). -/
def State.crossInstant (o : OutId) (s : State) : Option Nat :=
  if s.actsAtInstants o && decide (s.tsg.position < pastInstant s.tsg (s.pou.get o).current) then
    (s.pou.get o).passing s.tsg s.tsg.cycleAdvance
  else none

/-- The instant of output o before the end of the second is acted on. -/
def State.crossOutput (o : OutId) (s : State) : State :=
  match s.crossInstant o with
  | some past => s.evaluateOut o past
  | none => s

/-- Site time has crossed the end of a second: the second passes, and the outputs act on the instants that the crossing cycle
passed before the end (R6, R160). -/
def State.crossSecond (s : State) : State := s.passSecond.forOutputs State.crossOutput

/-- The instants that the crossing cycle passed at or after the end of the second, by the records now in force, are marked
(R158, R160; log 3). -/
def Output.markPassed (t : Tsg) (o : Output) : Output :=
  { o with passed := if pastInstant t o.current ≤ t.position then some (pastInstant t o.current) else none }

/-- `Output.markPassed` for every output. -/
def State.markPassed (s : State) : State := { s with pou := s.pou.mapIdx fun _ o => o.markPassed s.tsg }

/-- Site time passes the end of a second: a set re-run flag is cleared and nothing is raised, else the boundary is raised
(R6, R10). An instant of an output at the boundary itself is evaluated after all work of the boundary, the growth of E among it:
section 8.8 lets either come first, and the order is the model's, DESIGN CHOICE (log 37). -/
def State.boundary (line : LineClock) (s : State) : State :=
  let s' := s.crossSecond
  State.markPassed
    (if s'.tsg.reRun then { s' with tsg := { s'.tsg with reRun := false } } else s'.raiseBoundary line)

end Sys2Proof.Machine
end

