-- ==== Sys2Proof/Machine/Power.lean ====
section
/-!
DEFINITION. Power states and start-up (chapter 9): the mains, battery and oven lines (R169 to R177), and the starts (R178 to
R180) with the restore (R103).
-/

namespace Sys2Proof.Machine

/-! ## Entry to keep-alive (R170) -/

/-- Tenant t, when attached, is detached (R136). -/
def State.detachIfAttached (t : Port) (s : State) : State := if s.attached t then s.detachTenant t else s

/-- The pending action is cancelled WITHDRAWN and every attached tenant is detached (R136). -/
def State.detachAll (s : State) : State := (s.cancelJoint .withdrawn).forPorts State.detachIfAttached

/-- The SDE's counters and pendings at entry to keep-alive (R68). -/
def Sde.keepAliveCleared (d : Sde) : Sde :=
  { d with
    selected := none
    lockCount := 0, lockLoss := 0, bridgeRemaining := 0, labelMismatch := 0
    decisionPending := false, stepDecisionPending := false, stepNow := false }

/-- The clock at entry to keep-alive (R68): HOLDOVER, or FREERUN where time is not valid; assistance ends (R116). -/
def State.keepAliveClock (s : State) : State :=
  match s.sde.clock with
  | .locked | .bridge => s.enterHoldover
  | .acquire => if s.tsg.timeValid then s.enterHoldover else s.enterFreerun
  | .holdover => if s.sde.assisted then s.endAssistance else s
  | .freerun => s

/-- The SDE at entry to keep-alive: the selection ends and the clock moves, reading the last epoch phases as they stand
(R68, R121). -/
def State.sdeKeepAlive (s : State) : State :=
  let s' : State := if s.sde.selected.isSome then s.postAll (.selection none) else s
  let s'' := s'.keepAliveClock
  { s'' with sde := s''.sde.keepAliveCleared }

/-- The halts that entry to keep-alive ends post REF_HALTED (R43). -/
def State.postEndedHalts (n : SlotId) (s : State) : State :=
  if (s.rmu.slots.get n).state = .halting then s.postHalted n else s

/-- The RMU's state after entry to keep-alive (R43). -/
def Rmu.keepAlive (r : Rmu) (c : SiteConfig) : Rmu :=
  { r with
    slots := r.slots.mapIdx fun n sl => sl.keepAlive (c.slots.get n).enable
    targetA := none, targetB := none, lfMark := none }

/-- The RMU at entry to keep-alive (R43). -/
def State.rmuKeepAlive (s : State) : State :=
  let s' := s.forSlots State.postEndedHalts
  { s' with rmu := s'.rmu.keepAlive s'.tru.config }

/-- Every output drives its pin low (R167). -/
def State.dropPulses (s : State) : State := { s with pou := s.pou.mapIdx fun _ o => { o with pulseLeft := none } }

/-- The keep-alive summary opened at an entry from RUN (R173). -/
def State.openSummary (s : State) : KeepAliveSummary :=
  { beganAtStart := false, entrySeconds := s.tsg.seconds, boundaries := 0, coldBoundaries := 0, coldEntries := 0
    ovenFaultSeen := s.spm.ovenFault, ended := false }

/-- The SPM enters KEEPALIVE from RUN with a new summary (R170, R173). -/
def State.spmKeepAlive (s : State) : State :=
  { s with spm := { s.spm with power := .keepalive, summary := some s.openSummary } }

/-- Entry to KEEPALIVE from RUN, one change across the blocks (R170). -/
def State.enterKeepAlive (s : State) : State :=
  ((((s.detachAll.forPorts State.closePort).sdeKeepAlive).rmuKeepAlive).dropPulses.requestWrite).spmKeepAlive

/-- The summary counts an entry to COLDKEEP (R173). -/
def KeepAliveSummary.enterCold (k : KeepAliveSummary) : KeepAliveSummary :=
  { k with coldEntries := satAdd 255 k.coldEntries 1 }

/-- Entry to COLDKEEP from KEEPALIVE: the oven is switched off (R171, R174). -/
def State.enterColdKeep (s : State) : State :=
  State.ovenOff { s with spm := { s.spm with power := .coldkeep, summary := s.spm.summary.map (·.enterCold) } }

/-- Entry to KEEPALIVE from COLDKEEP: the oven is switched on (R171, R174). -/
def State.leaveColdKeep (s : State) : State := State.ovenOn { s with spm := { s.spm with power := .keepalive } }

/-! ## The return to RUN (R172) -/

/-- The RMU, the outputs and the summary at the return to RUN (R44, R167, R173). -/
def State.resumeRun (s : State) : State :=
  { s with
    rmu := { s.rmu with lastClosed := s.tsg.seconds }
    pou := s.pou.mapIdx fun _ o => { o with resumeWait := true }
    spm := { s.spm with power := .run, summary := s.spm.summary.map fun k => { k with ended := true } } }

/-- The return to RUN: an oven that is OFF is switched on (R172). -/
def State.returnToRun (s : State) : State :=
  let s' := s.resumeRun
  if s.spm.oven = .off then s'.ovenOn else s'

/-! ## The lines -/

/-- MAINS_GOOD_FALLS (R170, R171): in RUN, KEEPALIVE is entered, and COLDKEEP in the same change while BATT_LOW is high. -/
def execMainsGoodFalls (s : State) : Host.Outcome State Fault Refusal :=
  let s1 : State := { s with pins := { s.pins with mainsGood := false } }
  if s1.inService then
    let s2 := s1.enterKeepAlive
    .next (if s2.pins.battLow then s2.enterColdKeep else s2)
  else .next s1

/-- MAINS_GOOD_RISES (R172). -/
def execMainsGoodRises (s : State) : Host.Outcome State Fault Refusal :=
  let s1 : State := { s with pins := { s.pins with mainsGood := true } }
  if !s.inStart && s.spm.power != .run then .next s1.returnToRun else .next s1

/-- BATT_LOW_RISES (R171): in KEEPALIVE the part enters COLDKEEP. -/
def execBattLowRises (s : State) : Host.Outcome State Fault Refusal :=
  let s1 : State := { s with pins := { s.pins with battLow := true } }
  if !s.inStart && s.spm.power == .keepalive then .next s1.enterColdKeep else .next s1

/-- BATT_LOW_FALLS (R171): in COLDKEEP the part enters KEEPALIVE. -/
def execBattLowFalls (s : State) : Host.Outcome State Fault Refusal :=
  let s1 : State := { s with pins := { s.pins with battLow := false } }
  if !s.inStart && s.spm.power == .coldkeep then .next s1.leaveColdKeep else .next s1

/-- OVEN_OK_RISES (R174): a WARMING oven becomes SETTLED. -/
def execOvenOkRises (s : State) : Host.Outcome State Fault Refusal :=
  let s1 : State := { s with pins := { s.pins with ovenOk := true } }
  if !s.inStart && s.spm.oven == .warming then .next s1.ovenSettles else .next s1

/-- The oven loses regulation: WARMING, with no warm-up and no soak behind it (R174). -/
def State.ovenLoses (s : State) : State :=
  State.postOven (State.watchLatches { s with spm := { s.spm with oven := .warming, warmUp := 0, soak := 0 } })

/-- OVEN_OK_FALLS (R174): a SETTLED oven becomes WARMING. -/
def execOvenOkFalls (s : State) : Host.Outcome State Fault Refusal :=
  let s1 : State := { s with pins := { s.pins with ovenOk := false } }
  if !s.inStart && s.spm.oven == .settled then .next s1.ovenLoses else .next s1

/-! ## Starts (R178, R179) -/

/-- A write stands in its first phase (R99). -/
def Ols.inFirstPhase (o : Ols) : Bool := (o.writing.map fun w => decide (w.phase = .invalidate)).getD false

/-- The store after a start: a write interrupted in its first phase leaves the previous copy or an invalid one, according to
whether its integrity word had been overwritten, which a free value says (log 8); in the later phases the copy is invalid
already (R99, R102). -/
def Ols.interruptedStore (intact : Bool) (o : Ols) : Option StoredRecord :=
  if o.inFirstPhase && !intact then o.store.map (·.invalidated) else o.store

/-- Every block takes its start values (R179 stage 1), with the configuration given; the lines, the store, the start cause,
the counter of free values and the queue are kept, and the start pending cause is the one given (R178). Table 9-3 gives the power
state and the oven state from stage 4 on: until then the model holds RUN and OFF, DESIGN CHOICE (log 18). OVEN_EN is high all the
same, by inStart (R178). -/
def State.startValues (pendingCause : Option StartCause) (c : SiteConfig) (store : Option StoredRecord) (s : State) : State :=
  { s with
    tsg := .atStart
    rmu := .atStart c
    sde := .atStart c
    ols := .atStart store
    tru := .atStart c
    nu := Three.fill .detached
    pou := pouAtStart c
    spm :=
      { power := .run, oven := .off, warmUp := 0, ovenFault := false, soak := 0
        startCause := s.spm.startCause, startPending := pendingCause, summary := none }
    tpi := s.tpi.mapIdx fun _ p => { p with state := .idle, overrun := false } }

/-- A start begins, or begins again from its first stage (R178); an operation in progress ends uncompleted, a write as R102
states (log 18). -/
def State.beginStart (cause : StartCause) (s : State) : State :=
  let s' := s.startValues (some cause) .factory (s.ols.interruptedStore (Config.storeLeftIntact s.freeIndex))
  if s.ols.inFirstPhase then { s' with freeIndex := s.freeIndex + 1 } else s'

/-- POWER_ON (R178): the pending cause becomes POWER_ON. -/
def execPowerOn (s : State) : Host.Outcome State Fault Refusal := .next (s.beginStart .powerOn)

/-- RESET_N_FALLS (R178): the pending cause becomes POWER_ON. -/
def execResetNFalls (s : State) : Host.Outcome State Fault Refusal :=
  .next (State.beginStart .powerOn { s with pins := { s.pins with resetN := false } })

/-- The pending cause at a brown-out: BROWNOUT when none stands (R178). -/
def brownOutCause (now : Option StartCause) : StartCause := now.getD .brownout

/-- BROWN_OUT (R178). -/
def execBrownOut (s : State) : Host.Outcome State Fault Refusal :=
  .next (State.beginStart (brownOutCause s.spm.startPending) { s with pins := { s.pins with vddOk := false } })

/-! ## The start sequence -/

/-- A restored bin record: one whose count is 0 takes mean 0 and spread 0 (R103). -/
def BinRecord.restored (r : BinRecord) : BinRecord := if r.count = 0 then .empty else r

/-- The configuration the restore hands to the TRU (R103, R140). -/
def restoredConfig (store : Option StoredRecord) : SiteConfig :=
  match store with
  | some r => if r.valid then r.content.config else .factory
  | none => .factory

/-- The OLS after the restore (Table 5-10). -/
def Ols.restore (o : Ols) : Ols :=
  match o.store with
  | some r =>
    if r.valid then
      { o with
        bins := r.content.bins.map (·.restored)
        ring := r.content.ring
        aging := r.content.aging
        agingEst := (agingOf r.content.ring).2
        retainedAnchor := r.content.anchor
        retainedBin := r.content.anchorBin
        outcome := .restored }
    else o
  | none => o

/-- The retained prediction (R111). -/
def State.retainedPrediction (s : State) : Int :=
  clampCorr (s.ols.retainedAnchor + (s.tempTerm s.ols.retainedBin).getD 0)

/-- Stage 3: the retained prediction is given to F_int and ordered as F_app (R5, R78, R179). -/
def State.startCorrection (s : State) : State :=
  State.orderFApp s.retainedPrediction { s with sde := { s.sde with fInt := s.retainedPrediction } }

/-- The power state that the lines give (R169). -/
def powerOf (p : Pins) : PowerState := if p.mainsGood then .run else if p.battLow then .coldkeep else .keepalive

/-- The keep-alive summary opened at a start that takes a keep-alive state (R180). -/
def startSummary (p : PowerState) : Option KeepAliveSummary :=
  let opened (cold : Nat) : KeepAliveSummary :=
    { beganAtStart := true, entrySeconds := 0, boundaries := 0, coldBoundaries := 0, coldEntries := cold
      ovenFaultSeen := false, ended := false }
  match p with
  | .run => none
  | .keepalive => some (opened 0)
  | .coldkeep => some (opened 1)

/-- Stages 4 and 5: the power state is taken from the lines, the oven is switched on unless that is COLDKEEP, and the start
ends with the cause gathered (R178, R179, R180). -/
def State.endStart (cause : StartCause) (s : State) : State :=
  let p := powerOf s.pins
  let s' : State :=
    { s with spm := { s.spm with power := p, startCause := cause, startPending := none, summary := startSummary p } }
  if p = .coldkeep then s' else s'.ovenOn

/-- The start sequence with the result of the start read (R179). -/
def State.runStart (cause : StartCause) (read : SensorResult) (s : State) : State :=
  let s1 := s.startValues (some cause) (restoredConfig s.ols.store) s.ols.store
  let s2 := s1.endRead read
  let s3 : State := { s2 with ols := s2.ols.restore }
  s3.startCorrection.endStart cause

/-- START_SEQUENCE (R179): RESET_N is high and VDD_CORE above its threshold (log 21). -/
def execStartSequence (read : SensorResult) (s : State) : Host.Outcome State Fault Refusal :=
  match s.spm.startPending with
  | some cause => .next (State.runStart cause read { s with pins := { s.pins with resetN := true, vddOk := true } })
  | none => .next s

end Sys2Proof.Machine
end

