-- ==== Sys2Proof/Machine/Reads.lean ====
section
/-!
DEFINITION. The reading requests and the phase report: READ_TIME (R190), READ_STATUS (R191), REPORT_PHASE (R192),
READ_REFERENCE (R193), READ_LEARNING (R106), READ_AGING (R107), READ_CONFIG (R194).
-/

namespace Sys2Proof.Machine

/-- The reading of READ_TIME (R190). -/
def State.timeReading (t : Port) (s : State) : TimeReading :=
  { seconds := s.tsg.seconds
    phase := s.tsg.phase
    timeValid := s.tsg.timeValid
    fApp := s.tsg.fApp
    clock := s.sde.clock
    assisted := s.sde.assisted
    selected := s.sde.selected
    e := s.sde.e
    inTolerance := s.sde.tol.get t
    policy := s.tru.policy
    generation := s.tru.generation
    noticesWaiting := s.attached t && !(s.nu.get t).notices.isEmpty }

/-- READ_TIME (R190): the capture, and the policy given to an attached tenant (R138). -/
def execReadTime (t : Port) (tag : Word16) (s : State) : Host.Outcome State Fault Refusal :=
  .next
    (s.takeRequest true t codeReadTime tag .empty fun s' => (s'.acknowledge t, ⟨.ok, .time (s'.timeReading t)⟩))

/-- The reading of READ_STATUS (R191). -/
def State.statusReading (t : Port) (s : State) : StatusReading :=
  { latches := (s.nu.get t).latches
    startCause := s.spm.startCause
    outcome := s.ols.outcome
    oven := s.spm.oven
    ovenFault := s.spm.ovenFault
    soak := s.spm.soak
    summary := s.spm.summary }

/-- READ_STATUS (R191): the latches are returned and then armed (R209). -/
def execReadStatus (t : Port) (tag : Word16) (s : State) : Host.Outcome State Fault Refusal :=
  .next
    (s.takeRequest false t codeReadStatus tag .empty fun s' =>
      (s'.armLatches t, ⟨.ok, .status (s'.statusReading t)⟩))

/-- The answer to a judged report: its refusal, or OK with its disposition (R28, R29). -/
def ReportJudgement.answer : ReportJudgement → Answer
  | .refused o => ⟨o, .report none⟩
  | .judged d => ⟨.ok, .report (some d)⟩

/-- A report is judged for the tenant's report slot and taken (R192). -/
def State.actReport (t : Port) (f : ReportFields) (s : State) : State × Answer :=
  let n := reportSlot t
  let j := s.rmu.judgeReport n s.tsg.seconds s.tsg.timeValid f
  ({ s with rmu := s.rmu.setSlot n ((s.rmu.slots.get n).takeReport f j) }, j.answer)

/-- REPORT_PHASE (R192). -/
def execReportPhase (t : Port) (tag : Word16) (f : ReportFields) (s : State) : Host.Outcome State Fault Refusal :=
  .next (s.takeRequest false t codeReportPhase tag (.report none) (State.actReport t f))

/-- The reading of READ_REFERENCE for slot n (R193). -/
def State.referenceReading (n : SlotId) (s : State) : ReferenceReading :=
  let sl := s.rmu.slots.get n
  { slot := n
    state := sl.state
    faultCount := sl.faultCount
    qualifyCount := sl.qualifyCount
    emptyRun := sl.emptyRun
    holdOff := sl.holdOff
    streak := sl.streak
    usableRun := sl.usableRun
    lastValue := sl.lastValue
    lastLabel := sl.lastLabel
    lastFaults := sl.lastFaults
    olderEntries := (entriesStamped (s.tsg.seconds - 1) sl.queue).length
    currentEntries := (entriesStamped s.tsg.seconds sl.queue).length
    haltMark := sl.queue.contains .haltMark
    lf :=
      if n = lfSlot then some ⟨s.sde.bias, s.sde.wander, s.sde.lfCount, s.sde.lfCount == 600⟩ else none }

/-- The answer to READ_REFERENCE: a slot number above 5 is BAD_VALUE (R193). -/
def State.answerReference (slot : Byte) (s : State) : Answer :=
  match slotOf slot with
  | none => ⟨.badValue, .empty⟩
  | some n => ⟨.ok, .reference (s.referenceReading n)⟩

/-- READ_REFERENCE (R193). -/
def execReadReference (t : Port) (tag : Word16) (slot : Byte) (s : State) : Host.Outcome State Fault Refusal :=
  .next (s.takeRequest true t codeReadReference tag .empty fun s' => (s', s'.answerReference slot))

/-- The bin records asked for, up to bin 31 (R106). -/
def binsAsked (bins : Vector BinRecord 32) (first number : Nat) : List BinRecord :=
  (bins.toList.drop first).take number

/-- A first bin of 0 to 31 and a number of 1 to 8 (Table 5-11). -/
def learningAsked (first number : Nat) : Bool := first ≤ 31 && 1 ≤ number && number ≤ 8

/-- The reading of READ_LEARNING: with a bad first bin or number, no records (R106). -/
def State.learningReading (first number : Nat) (s : State) : LearningReading :=
  { records := if learningAsked first number then binsAsked s.ols.bins first number else []
    theta := s.ols.theta
    lastSample := s.ols.lastSample
    currentBin := s.currentBin
    failures := s.ols.failures
    sensorFault := s.ols.sensorFault
    learning := s.learningEnabled
    writing := s.ols.writing.isSome
    rewritePending := s.ols.rewritePending
    lastWrite := s.ols.lastWrite }

/-- READ_LEARNING (R106). The refusal of a detached port carries no body (log 11). -/
def execReadLearning (t : Port) (tag : Word16) (first number : Byte) (s : State) : Host.Outcome State Fault Refusal :=
  .next
    (s.takeRequest false t codeReadLearning tag .empty fun s' =>
      (s', ⟨if learningAsked first.toNat number.toNat then .ok else .badValue,
        .learning (s'.learningReading first.toNat number.toNat)⟩))

/-- The reading of READ_AGING (R107). -/
def State.agingReading (s : State) : AgingReading :=
  { ring := s.ols.ring, aging := s.ols.aging, established := s.ols.agingEst, locked := s.ols.dayLocked }

/-- READ_AGING (R107). -/
def execReadAging (t : Port) (tag : Word16) (s : State) : Host.Outcome State Fault Refusal :=
  .next (s.takeRequest false t codeReadAging tag .empty fun s' => (s', ⟨.ok, .aging s'.agingReading⟩))

/-- OUT3's record with its squelch mode as R164 gives it. -/
def State.out3Record (s : State) : OutputRecord :=
  { s.pou.o3.current with mode := if s.tru.policy.squelch then .tolerance else .invalid }

/-- The reading of READ_CONFIG (R194). -/
def State.configReading (s : State) : ConfigReading :=
  { config := s.tru.config, policy := s.tru.policy, generation := s.tru.generation
    out3 := s.out3Record, out3State := s.pou.o3.state }

/-- READ_CONFIG (R194). -/
def execReadConfig (t : Port) (tag : Word16) (s : State) : Host.Outcome State Fault Refusal :=
  .next
    (s.takeRequest true t codeReadConfig tag .empty fun s' => (s'.acknowledge t, ⟨.ok, .config s'.configReading⟩))

end Sys2Proof.Machine
end

