-- ==== Sys2Proof/Machine/SiteTime.lean ====
section
/-!
DEFINITION. The events of site time: EPOCH_BOUNDARY (R6), EPOCH_CLOSE (R34), and the expiries that boundaries bring about:
HOLD_OFF_EXPIRY (R39), BRIDGE_EXPIRY (R58), OVEN_FAULT (R175), SOAK_END (R176). Last, what site time does by itself while no
command waits (log 2).
-/

namespace Sys2Proof.Machine

/-- EPOCH_BOUNDARY (R6). During a start site time stands still. -/
def execEpochBoundary (line : LineClock) (s : State) : Host.Outcome State Fault Refusal :=
  if s.inStart then .next s else .next (s.boundary line)

/-- EPOCH_CLOSE: site time passes phase 250 ms, and the epoch before the current second, not yet closed, closes (R34). A
passing in a second whose previous epoch is closed does nothing. -/
def execEpochClose (s : State) : Host.Outcome State Fault Refusal :=
  .next (if s.closeDue then (s.advanceToPhase closePhase).closeEpoch (s.tsg.seconds - 1) else s)

/-- The hold-off of slot n has reached 0 (R39). -/
def State.holdOffDue (n : SlotId) (s : State) : Bool :=
  (s.rmu.slots.get n).state == .disqualified && (s.rmu.slots.get n).holdOff == 0

/-- The hold-off of slot n ends (R39). -/
def State.endHoldOff (n : SlotId) (s : State) : State :=
  { s with rmu := s.rmu.setSlot n (s.rmu.slots.get n).endHoldOff }

/-- HOLD_OFF_EXPIRY: the slot becomes QUALIFYING (R39). -/
def execHoldOffExpiry (n : SlotId) (s : State) : Host.Outcome State Fault Refusal :=
  .next (if !s.inStart && s.holdOffDue n then s.endHoldOff n else s)

/-- Bridge remaining has reached 0 (R58). -/
def State.bridgeDue (s : State) : Bool := s.sde.clock == .bridge && s.sde.bridgeRemaining == 0

/-- BRIDGE_EXPIRY: the clock enters HOLDOVER (R58). -/
def execBridgeExpiry (s : State) : Host.Outcome State Fault Refusal :=
  .next (if !s.inStart && s.bridgeDue then s.enterHoldover else s)

/-- The oven has been WARMING for 1,800 s with the fault flag still clear (R175). -/
def State.ovenFaultDue (s : State) : Bool := s.spm.oven == .warming && s.spm.warmUp == 1800 && !s.spm.ovenFault

/-- The summary of a keep-alive period in progress has seen an oven fault (R173). -/
def KeepAliveSummary.seeFault (k : KeepAliveSummary) : KeepAliveSummary := if k.ended then k else { k with ovenFaultSeen := true }

/-- The oven fault flag is set and OVEN is posted (R175). -/
def State.setOvenFault (s : State) : State :=
  State.postOven { s with spm := { s.spm with ovenFault := true, summary := s.spm.summary.map (·.seeFault) } }

/-- OVEN_FAULT (R175). -/
def execOvenFault (s : State) : Host.Outcome State Fault Refusal :=
  .next (if !s.inStart && s.ovenFaultDue then s.setOvenFault else s)

/-- SOAK_END: soak remaining has come to 0 at a boundary; the end of the soak is that value, and changes nothing more
(R176, R177). -/
def execSoakEnd (s : State) : Host.Outcome State Fault Refusal := .next s

/-! ## Site time with no command waiting (log 2) -/

/-- The slots in order (R19). -/
def allSlots : List SlotId := [0, 1, 2, 3, 4, 5]

/-- The outputs in order. -/
def allOutputs : List OutId := [0, 1, 2, 3]

/-- A slot whose hold-off has reached 0. -/
def State.dueSlot (s : State) : Option SlotId := allSlots.find? fun n => s.holdOffDue n

/-- An output whose pulse has had its whole width. -/
def State.duePulse (s : State) : Option OutId := allOutputs.find? fun o => (s.pou.get o).pulseLeft == some 0

/-- An output whose pulse instant the latest cycle passed, and how far past it site time stands. -/
def State.duePassed (s : State) : Option (OutId × Nat) := allOutputs.findSome? fun o => (s.dueInstant o).map fun u => (o, u)

/-- The close instant of this second has been passed with its epoch not yet closed (R34). -/
def State.closePassed (s : State) : Bool := s.closeDue && decide (closePhase ≤ s.tsg.phase)

/-- The first event that is due without any advance of site time, taken. A pulse instant comes before the end of a pulse that the
same cycle brought, so that the pin stays high where the instant counts the width afresh (R161; log 2, 25). -/
def State.settleDue (s : State) : Option State :=
  match s.dueSlot, s.duePassed, s.duePulse with
  | some n, _, _ => some (s.endHoldOff n)
  | none, some (o, past), _ => some (s.evaluateOut o past)
  | none, none, some o => some (s.endPulse o)
  | none, none, none =>
    if s.bridgeDue then some s.enterHoldover
    else if s.jointDue then some (s.cancelJoint .expired)
    else if s.ovenFaultDue then some s.setOvenFault
    else if s.closePassed then some (s.closeEpoch (s.tsg.seconds - 1))
    else none

/-- One OSC_IN cycle: site time advances by R3, through a boundary when the cycle passes the end of the second, with the
line clock a free value there (log 7). -/
def State.cycle (s : State) : State :=
  if fitsInSecond s.tsg 1 then s.advanceCycles 1
  else State.boundary (Config.lineClockAt s.freeIndex) { s with freeIndex := s.freeIndex + 1 }

/-- What the block does while no command waits: nothing during a start; else an event that is due, a pulse instant that the
latest cycle passed among them; else one OSC_IN cycle (log 2). -/
def State.idle (s : State) : State :=
  if s.inStart then s
  else
    match s.settleDue with
    | some s' => s'
    | none => s.cycle

end Sys2Proof.Machine
end

