-- ==== Sys2Proof/Machine/Tenants.lean ====
section
/-!
DEFINITION. ATTACH (R133), ADVERTISE (R134) and DETACH (R135).
-/

namespace Sys2Proof.Machine

/-- An advertisement as it enters the record, with the clamped fields (R132). -/
structure TakenAdvertisement where
  adv : Advertisement
  limitClamped : Bool
  slewClamped : Bool
deriving DecidableEq, Repr

/-- The smallest and the largest limit, ps (Table 7-2). -/
def limitRange : Int × Int := (100000, 50000000)

/-- The smallest and the largest slew limit, ppt (Table 7-2). -/
def slewRange : Int × Int := (1000, 10000000)

/-- An advertisement taken field by field; a step permission code that is neither ALLOW nor FORBID refuses it (R132). -/
def takeAdvertisement (f : AdvertisementFields) : Option TakenAdvertisement :=
  if f.permission = 0 ∨ f.permission = 1 then
    let l := clampTo limitRange.1 limitRange.2 (signed f.limit)
    let w := clampTo slewRange.1 slewRange.2 (signed f.slew)
    some
      { adv := { limit := l, allow := f.permission == 0, slew := w, squelch := f.squelch != 0 }
        limitClamped := l != signed f.limit
        slewClamped := w != signed f.slew }
  else none

/-- The answer to an advertisement taken: its outcome, the clamped fields, and the policy after the resolution (R132). -/
def State.advertised (a : TakenAdvertisement) (s : State) : Answer :=
  { outcome := if a.limitClamped || a.slewClamped then .clamped else .ok
    body := .advertised a.limitClamped a.slewClamped s.tru.policy s.tru.generation }

/-- A detached tenant attaches: its record, its notice state with armed latches, its tolerance without a notice, then the
resolution, whose generation it is given (R133, R125, R207). That the tolerance is judged before the latches are armed is the
model's choice of order (log 33). -/
def State.attachTenant (t : Port) (adv : Advertisement) (s : State) : State :=
  let s1 := (s.setTenant t { attached := true, adv := adv, ackGen := 0 }).setNotices t .detached
  let s2 := (s1.setTol t (s1.toleranceOf t)).armLatches t
  s2.resolve.acknowledge t

/-- An attached tenant's advertisement is replaced; a new limit is judged at once (R134). -/
def State.replaceAdvertisement (t : Port) (adv : Advertisement) (s : State) : State :=
  let old := s.tru.tenants.get t
  let s' := ((s.setTenant t { old with adv := adv }).resolve).acknowledge t
  if old.adv.limit = adv.limit then s' else s'.judgeTenant t

/-- What ADVERTISE does for an attached tenant (R134). -/
def State.actAdvertise (t : Port) (f : AdvertisementFields) (s : State) : State × Answer :=
  match takeAdvertisement f with
  | none => (s, ⟨.badValue, .empty⟩)
  | some a =>
    let s' := s.replaceAdvertisement t a.adv
    (s', s'.advertised a)

/-- What ATTACH does (Table 7-4): the present line is tested before the step permission code (log 10). -/
def State.actAttach (t : Port) (f : AdvertisementFields) (s : State) : State × Answer :=
  if s.attached t then s.actAdvertise t f
  else if s.pins.present.get t = false then (s, ⟨.notApplicable, .empty⟩)
  else
    match takeAdvertisement f with
    | none => (s, ⟨.badValue, .empty⟩)
    | some a =>
      let s' := s.attachTenant t a.adv
      (s', s'.advertised a)

/-- ATTACH (R133). -/
def execAttach (t : Port) (tag : Word16) (f : AdvertisementFields) (s : State) : Host.Outcome State Fault Refusal :=
  .next (s.takeRequest true t codeAttach tag .empty (State.actAttach t f))

/-- ADVERTISE (R134). -/
def execAdvertise (t : Port) (tag : Word16) (f : AdvertisementFields) (s : State) : Host.Outcome State Fault Refusal :=
  .next (s.takeRequest false t codeAdvertise tag .empty (State.actAdvertise t f))

/-- DETACH (R135). -/
def execDetach (t : Port) (tag : Word16) (s : State) : Host.Outcome State Fault Refusal :=
  .next (s.takeRequest false t codeDetach tag .empty fun s' => (s'.detachTenant t, ⟨.ok, .empty⟩))

end Sys2Proof.Machine
end

