-- ==== Sys2Proof/Machine/Dispatch.lean ====
section
/-!
DEFINITION. The meaning of each command: one arm per row of spec/opcode_table.json, each a call of its own definition.
-/

namespace Sys2Proof.Machine

def exec (i : Instr) (s : State) : Host.Outcome State Fault Refusal :=
  match i with
  | .powerOn => Sys2Proof.Machine.execPowerOn s
  | .resetNFalls => Sys2Proof.Machine.execResetNFalls s
  | .brownOut => Sys2Proof.Machine.execBrownOut s
  | .startSequence read => Sys2Proof.Machine.execStartSequence read s
  | .epochBoundary line => Sys2Proof.Machine.execEpochBoundary line s
  | .holdOffExpiry slot => Sys2Proof.Machine.execHoldOffExpiry slot s
  | .bridgeExpiry => Sys2Proof.Machine.execBridgeExpiry s
  | .jointExpiry => Sys2Proof.Machine.execJointExpiry s
  | .ovenFault => Sys2Proof.Machine.execOvenFault s
  | .soakEnd => Sys2Proof.Machine.execSoakEnd s
  | .sensorReadDone read => Sys2Proof.Machine.execSensorReadDone read s
  | .epochClose => Sys2Proof.Machine.execEpochClose s
  | .writeCompletion result => Sys2Proof.Machine.execWriteCompletion result s
  | .pulse input cycles => Sys2Proof.Machine.execPulse input cycles s
  | .labelMessage link message => Sys2Proof.Machine.execLabelMessage link message s
  | .pulseInstant out => Sys2Proof.Machine.execPulseInstant out s
  | .pulseWidthEnd out => Sys2Proof.Machine.execPulseWidthEnd out s
  | .mainsGoodFalls => Sys2Proof.Machine.execMainsGoodFalls s
  | .mainsGoodRises => Sys2Proof.Machine.execMainsGoodRises s
  | .battLowRises => Sys2Proof.Machine.execBattLowRises s
  | .battLowFalls => Sys2Proof.Machine.execBattLowFalls s
  | .ovenOkRises => Sys2Proof.Machine.execOvenOkRises s
  | .ovenOkFalls => Sys2Proof.Machine.execOvenOkFalls s
  | .presentLineFalls t => Sys2Proof.Machine.execPresentLineFalls t s
  | .presentLineRises t => Sys2Proof.Machine.execPresentLineRises t s
  | .readTransaction t bytes => Sys2Proof.Machine.execReadTransaction t bytes s
  | .responseCompleted t => Sys2Proof.Machine.execResponseCompleted t s
  | .malformedFrame t code tag => Sys2Proof.Machine.execMalformedFrame t code tag s
  | .attach t tag adv => Sys2Proof.Machine.execAttach t tag adv s
  | .advertise t tag adv => Sys2Proof.Machine.execAdvertise t tag adv s
  | .detach t tag => Sys2Proof.Machine.execDetach t tag s
  | .readTime t tag => Sys2Proof.Machine.execReadTime t tag s
  | .readStatus t tag => Sys2Proof.Machine.execReadStatus t tag s
  | .reportPhase t tag report => Sys2Proof.Machine.execReportPhase t tag report s
  | .readReference t tag slot => Sys2Proof.Machine.execReadReference t tag slot s
  | .readLearning t tag first number => Sys2Proof.Machine.execReadLearning t tag first number s
  | .readAging t tag => Sys2Proof.Machine.execReadAging t tag s
  | .readConfig t tag => Sys2Proof.Machine.execReadConfig t tag s
  | .setOutput t tag fields => Sys2Proof.Machine.execSetOutput t tag fields s
  | .propose t tag kind items => Sys2Proof.Machine.execPropose t tag kind items s
  | .concur t tag serial => Sys2Proof.Machine.execConcur t tag serial s
  | .decline t tag serial => Sys2Proof.Machine.execDecline t tag serial s
  | .readJoint t tag => Sys2Proof.Machine.execReadJoint t tag s
  | .readNotices t tag => Sys2Proof.Machine.execReadNotices t tag s
  | .nextNotice t tag => Sys2Proof.Machine.execNextNotice t tag s
  | .clearNotices t tag kinds => Sys2Proof.Machine.execClearNotices t tag kinds s
  | .noticesDone t tag => Sys2Proof.Machine.execNoticesDone t tag s
  | .setNoticeMask t tag mask => Sys2Proof.Machine.execSetNoticeMask t tag mask s

end Sys2Proof.Machine
end

