-- ==== Sys2Proof/Machine/Step.lean ====
section
/-!
DEFINITION. A step takes the command at the front of the queue; on an empty queue site time passes by itself (log 2).
-/

namespace Sys2Proof.Machine

/-- One step: the command at the front of the queue acts on the state with the queue's rest; with no command waiting, one
step of site time (log 2). -/
def step (s : State) : Host.Outcome State Fault Refusal :=
  match s.pending with
  | c :: rest => exec c { s with pending := rest }
  | [] => .next s.idle

/-- The state with the command a word spells put at the front of its queue; no word spells one (log 26, log 30). -/
def State.withFetchWord (s : State) (nbits w : Nat) : State :=
  match decodeTableWord nbits w with
  | some c => { s with pending := c :: s.pending }
  | none => s

end Sys2Proof.Machine
end

