-- ==== Sys2Proof/Safety.lean ====
section
/-!
DEFINITION. What it means that a state of the part is as the spec says a state can be: the invariants that the statements
rest on, block by block, and what it means that a command answers.
-/

namespace Sys2Proof.Machine

/-- The command is answered with a next state. -/
def Answers (c : Instr) (s : State) : Prop := ∃ t, exec c s = .next t

/-- Port t takes a frame: the part is in service and the port is not WORKING (R184, R189). -/
def State.takes (s : State) (t : Port) : Prop := s.inService = true ∧ (s.tpi.get t).state.isWorking = false

/-- Port t takes a frame from its attached tenant (R188). -/
def State.takesAttached (s : State) (t : Port) : Prop := s.takes t ∧ s.attached t = true

/-- A boundary that EPOCH_BOUNDARY raises: no start in progress and no re-run (R6). -/
def State.raises (s : State) : Prop := s.inStart = false ∧ s.tsg.reRun = false

/-- The values slot n has queued for the epoch that a due close closes (R36). -/
def State.closingValues (s : State) (n : SlotId) : List Int :=
  (entriesStamped (s.tsg.seconds - 1) (s.rmu.slots.get n).queue).map (·.value)

/-- The tally that slot n holds for the epoch that a due close closes carries the fault mark (R31). -/
abbrev State.closingMarked (s : State) (n : SlotId) : Prop :=
  (tallyOf (s.tsg.seconds - 1) (s.rmu.slots.get n).tallies).faults.marked = true

/-- The empty run of slot n after an epoch that brought nothing (R35). -/
def State.runAfterSilence (s : State) (n : SlotId) : Nat := min 65535 ((s.rmu.slots.get n).emptyRun + 1)

/-- The epoch that a due close closes is GOOD for slot n, where the slot takes an outcome (R35). -/
abbrev State.closesGood (s : State) (n : SlotId) : Prop := ¬s.closingMarked n ∧ s.closingValues n ≠ []

/-- The epoch that a due close closes is EMPTY for slot n, within its freshness (R35). -/
abbrev State.closesEmpty (s : State) (n : SlotId) : Prop :=
  ¬s.closingMarked n ∧ s.closingValues n = [] ∧ s.runAfterSilence n ≤ (s.rmu.slots.get n).settings.freshness

/-- The epoch that a due close closes is FAULTY for slot n, from its tally or by STALE (R35). -/
abbrev State.closesFaulty (s : State) (n : SlotId) : Prop :=
  s.closingMarked n ∨ s.closingValues n = [] ∧ (s.rmu.slots.get n).settings.freshness < s.runAfterSilence n

/-- Slot n drives the close that is due: it is the SDE's selected slot, SELECTED, or HALTING with its last epoch open (R41, R47). -/
def State.drivenBy (s : State) (n : SlotId) : Prop :=
  s.closeDue = true ∧ s.sde.selected = some n ∧
  ((s.rmu.slots.get n).state = .selected ∨ (s.rmu.slots.get n).state = .halting)

/-- The close that is due ends the selection of the slot n that drives it: by the end of its halt, or by its third fault (R48). -/
abbrev State.losesAt (s : State) (n : SlotId) : Prop :=
  (s.rmu.slots.get n).state = .halting ∨ s.closesFaulty n ∧ (s.rmu.slots.get n).faultCount = 2

/-- The step decision is made at a driving GOOD epoch of value e: the clock is ACQUIRE, or the epoch takes it there (R55, R57, R59,
R62). -/
abbrev State.decidesAt (s : State) (e : Int) : Prop :=
  s.sde.clock = .acquire ∨
  s.tru.config.lockThreshold < mag e ∧
    (s.sde.clock = .locked ∧ (s.sde.decisionPending = true ∨ 3 ≤ s.sde.lockLoss) ∨ s.sde.clock = .bridge)

/-- A driving GOOD epoch of value e orders a phase step: a STEP_NOW is pending and e is not 0, or the step decision is and finds |e|
beyond the step threshold with steps permitted or time not valid (R62, R63). -/
abbrev State.stepsAt (s : State) (e : Int) : Prop :=
  s.decidesAt e ∧
  (s.sde.stepNow = true ∧ e ≠ 0 ∨
    (s.sde.stepDecisionPending = true ∨ s.sde.clock ≠ .acquire) ∧ s.tru.config.stepThreshold < mag e ∧
      (s.tru.policy.stepsPermitted = true ∨ s.tsg.timeValid = false))

/-- At a driving GOOD epoch of value e the clock enters LOCKED: at the sixteenth in a row within the lock threshold in ACQUIRE, or
within it in BRIDGE (R53, R59). -/
abbrev State.locksAt (s : State) (e : Int) : Prop :=
  mag e ≤ s.tru.config.lockThreshold ∧
  (s.sde.clock = .acquire ∧ 15 ≤ s.sde.lockCount ∧ ¬s.stepsAt e ∨ s.sde.clock = .bridge)

/-- The loop update of a driving GOOD epoch of value e is that of a LOCKED clock (R71). -/
abbrev State.updatesLockedAt (s : State) (e : Int) : Prop := s.locksAt e ∨ s.sde.clock = .locked ∧ ¬s.decidesAt e

/-- The label from which the close of a GOOD epoch k of slot n, the epoch before the current second, orders a seconds set: the
epoch's label where it differs from k, at once while time is not valid, else as the third mismatch (R36, R65, R66). Whether time is
valid is as the drive stage's transitions leave it (log 15). -/
def State.settingLabel (s : State) (n : SlotId) (valid : Bool) : Option Seconds :=
  let k := s.tsg.seconds - 1
  match ((entriesStamped k (s.rmu.slots.get n).queue).filterMap (·.label)).getLast? with
  | none => none
  | some l => if l = k ∨ valid = true ∧ s.sde.labelMismatch < 2 then none else some l

/-- Each slot's last epoch value and queue after a due close: as the close of the slot leaves them, the phases moved by a phase step
of d, the stamps by a seconds set, both before the settings are adopted (R22, R32, R33, R36). -/
def State.heldMoved (s t : State) (d : Int) : Prop :=
  let k := s.tsg.seconds - 1
  let moved := t.rmu.lastClosed - k
  ∀ m : SlotId,
    let closed := ((s.slotCloses k).get m).slot
    let by' : Int := if m = 2 then 0 else (s.tru.config.slots.get m).settings.comp - closed.settings.comp - d
    (t.rmu.slots.get m).queue =
      mapEntries (fun x => { x with value := x.value + by', stamp := x.stamp + moved }) closed.queue ∧
    (t.rmu.slots.get m).lastValue =
      if m = 2 ∧ s.tru.config.lfNominal ≠ s.rmu.lfNominal then none else closed.lastValue.map fun v => v + by'

/-- On the way from s to t tenant p, attached, has been told a fitting report of a kind: a notice with one stands in its pending set
while it is frozen, else in its notice set when its mask enables the kind (R199 to R201). -/
def State.toldThat (s t : State) (p : Port) (kind : Nat) (fits : Report → Prop) : Prop :=
  t.attached p = true →
    ((s.nu.get p).frozen = true → ∃ x ∈ (t.nu.get p).pending, fits x.report) ∧
    ((s.nu.get p).frozen = false → (s.nu.get p).mask.getLsbD kind = true →
      ∃ x ∈ (t.nu.get p).notices, fits x.report)

/-- On the way from s to t tenant p has been told the report r. -/
def State.told (s t : State) (p : Port) (r : Report) : Prop := s.toldThat t p r.kind fun x => x = r

/-- The attached tenants are judged by E and the time-valid flag as t holds them, and each whose flag differs from the one it had
has been told on the way from s to t (R124). -/
def State.judgedFrom (s t : State) (had : Port → Bool) : Prop :=
  ∀ p : Port, t.attached p = true →
    let flag := t.tsg.timeValid && decide (t.sde.e ≤ (s.tru.tenants.get p).adv.limit)
    t.sde.tol.get p = flag ∧
    (flag ≠ had p → s.told t p (if flag then .tolRegained t.sde.e else .tolLost t.sde.e))

/-- The attached tenants are judged once on the way from s to t (R124). -/
def State.judgedIn (s t : State) : Prop := s.judgedFrom t fun p => s.sde.tol.get p

/-- The attached tenants are judged at the change of the time-valid flag to yes, with the E of s, and then at the new E (R14, R124). -/
def State.judgedTwiceIn (s t : State) : Prop :=
  let mid := fun p : Port => decide (s.sde.e ≤ (s.tru.tenants.get p).adv.limit)
  s.judgedFrom t mid ∧
  ∀ p : Port, t.attached p = true → mid p ≠ s.sde.tol.get p →
    s.told t p (if mid p then .tolRegained s.sde.e else .tolLost s.sde.e)

/-- A retained write of the content c has been requested on the way from s to t: it has started, or a rewrite is pending (R100). -/
def State.requestedWrite (s t : State) (c : RetainedContent) : Prop :=
  (s.ols.writing = none → t.ols.writing = some ⟨c, .invalidate⟩ ∧ t.ols.rewritePending = s.ols.rewritePending) ∧
  (s.ols.writing ≠ none → t.ols.writing = s.ols.writing ∧ t.ols.rewritePending = true)

/-- What the items of a CONFIGURE, carried out on s, leave in t (R151, R141, R119, R157, R100). -/
def State.configuredBy (s t : State) (items : List ConfigItem) (rs : List OutcomeCode) : Prop :=
  let done := s.configureItems (finalInterval s.tru.config.out3Interval items) items
  let c := s.tru.config
  let c' := t.tru.config
  rs = done.2 ∧ rs.length = items.length ∧ c' = done.1.tru.config ∧ t.rmu = done.1.rmu ∧ t.tsg = s.tsg ∧
  t.sde =
    { s.sde with e := if s.sde.e < c'.eFloor then min c'.eFloor 999999999999 else s.sde.e, tol := t.sde.tol } ∧
  (s.sde.e < c'.eFloor → s.judgedIn t) ∧
  (c'.eFloor ≤ s.sde.e → ∀ q : Port, t.attached q = true → t.sde.tol.get q = s.sde.tol.get q) ∧
  (∀ o : OutId, o ≠ 3 → t.pou.get o = s.pou.get o) ∧
  ((c'.out3Interval, c'.out3Width, c'.out3Offset) = (c.out3Interval, c.out3Width, c.out3Offset) →
    t.pou.get 3 = s.pou.get 3) ∧
  ((c'.out3Interval, c'.out3Width, c'.out3Offset) ≠ (c.out3Interval, c.out3Width, c.out3Offset) → ∃ r,
    t.pou.get 3 = { s.pou.get 3 with pending := some r } ∧
    r = { enable := true, interval := c'.out3Interval, width := c'.out3Width, offset := c'.out3Offset, mode := r.mode }) ∧
  t.ols = { s.ols with writing := t.ols.writing, rewritePending := t.ols.rewritePending } ∧
  s.requestedWrite t { s.retainedContent with config := c' }

/-- What CLEAR_LEARNING, carried out on s, leaves in t (R105). -/
def State.clearedIn (s t : State) : Prop :=
  t.tsg = s.tsg ∧ t.rmu = s.rmu ∧ t.pou = s.pou ∧ t.tru.config = s.tru.config ∧
  t.sde = { s.sde with tol := t.sde.tol } ∧
  (∀ q : Port, t.attached q = true → t.sde.tol.get q = s.sde.tol.get q) ∧
  t.ols =
    { s.ols with
      bins := emptyBins, ring := [], aging := 0, agingEst := false, dayLocked := 0, dayCorr := 0, dayTemp := 0
      writing := t.ols.writing, rewritePending := t.ols.rewritePending } ∧
  s.requestedWrite t { s.retainedContent with bins := emptyBins, ring := [], aging := 0 }

/-- What STEP_NOW, carried out on s, leaves in t (R63, R151). -/
def State.stepAskedIn (s t : State) (rs : List OutcomeCode) : Prop :=
  t.tsg = s.tsg ∧ t.rmu = s.rmu ∧ t.pou = s.pou ∧ t.ols = s.ols ∧ t.tru.config = s.tru.config ∧
  t.sde = { s.sde with stepNow := s.sde.stepNow || s.sde.clock == .acquire, tol := t.sde.tol } ∧
  (∀ q : Port, t.attached q = true → t.sde.tol.get q = s.sde.tol.get q) ∧
  rs = [if s.sde.clock = .acquire then .ok else .notApplicable]

/-- What RESTART_CLOCK, carried out on s, leaves in t: the clock, the selection and the slots restarted, E at its cap, and
CLOCK_STATE, SELECTION and TOL_LOST told where they apply (R152, R69, R45, R84, R125). -/
def State.restartedIn (s t : State) : Prop :=
  t.tsg = { s.tsg with timeValid := false } ∧ t.ols = s.ols ∧ t.pou = s.pou ∧ t.tru.config = s.tru.config ∧
  t.sde =
    { s.sde with
      selected := none, lastSelected := none, clock := .freerun, lockCount := 0, lockLoss := 0, bridgeRemaining := 0
      labelMismatch := 0, decisionPending := false, stepDecisionPending := false, stepNow := false, assisted := false
      lfRestart := true, e := 999999999999, tol := t.sde.tol } ∧
  t.rmu = { s.rmu with slots := t.rmu.slots } ∧
  (∀ n : SlotId,
    let sl := s.rmu.slots.get n
    t.rmu.slots.get n =
      if sl.state = .off ∨ sl.state = .halting then sl
      else
        { sl with
          state := .qualifying, faultCount := 0, qualifyCount := 0, emptyRun := 0, usableRun := 0, holdOff := 0 }) ∧
  ∀ q : Port, t.attached q = true →
    t.sde.tol.get q = false ∧
    (s.sde.clock ≠ .freerun → s.told t q (.clockState .freerun false false)) ∧
    (s.sde.selected ≠ none → s.told t q (.selection none)) ∧
    (s.sde.tol.get q = true → s.told t q (.tolLost 999999999999))

/-- What a joint action of kind k, carried out on s, leaves in t with the results rs; who is attached, the policy and the action
record stand aside (R147, R151, R152). -/
def State.carriedOut (s t : State) (k : JointKind) (rs : List OutcomeCode) : Prop :=
  t.spm = s.spm ∧ t.freeIndex = s.freeIndex ∧ t.pending = s.pending ∧
  match k with
  | .configure items => s.configuredBy t items rs
  | .clearLearning => s.clearedIn t ∧ rs = [.ok]
  | .stepNow => s.stepAskedIn t rs
  | .restartClock => s.restartedIn t ∧ rs = [.ok]

/-- A start as its three events begin it: ports IDLE, nobody attached, pins low, the oven held on (R178). -/
def State.startedFrom (s t : State) : Prop :=
  (∀ p : Port, (t.tpi.get p).state = .idle ∧ (t.tpi.get p).overrun = false ∧ t.attached p = false ∧
    t.noticeLine p = false) ∧
  (∀ o : OutId, (t.pou.get o).pulseLeft = none ∧ (t.pou.get o).state = .disabled) ∧
  t.ovenEnable = true ∧ t.spm.startCause = s.spm.startCause ∧ t.tru.joint = none ∧ t.ols.writing = none ∧
  t.pending = s.pending ∧
  (t.ols.store = s.ols.store ∨
    s.ols.inFirstPhase = true ∧ t.ols.store = s.ols.store.map StoredRecord.invalidated)

/-- Site time and F_app lie in their ranges (R2, R4). -/
def State.timeInRange (s : State) : Prop :=
  s.tsg.phase < psPerSecond ∧ s.tsg.frac < unitsPerPs ∧ -corrLimit ≤ s.tsg.fApp ∧ s.tsg.fApp ≤ corrLimit

/-- The settings of slot n lie in the ranges of Table 7-5. -/
abbrev SlotSettings.inRange (n : SlotId) (x : SlotSettings) : Prop :=
  x.priority ≤ 15 ∧ 1000 ≤ x.gate ∧ x.gate ≤ (if n = 2 then 10000000 else 100000000) ∧
  -1000000 ≤ x.comp ∧ x.comp ≤ 1000000 ∧ 1 ≤ x.qualify ∧ x.qualify ≤ 600 ∧ 1 ≤ x.freshness ∧ x.freshness ≤ 60

/-- A frequency in the range of the LF nominal frequency (Table 7-5). -/
abbrev nominalInRange (hz : Nat) : Prop := 8000 ≤ hz ∧ hz ≤ 25000000

/-- Every value of a site configuration lies in the range of Table 7-5 (R140); the OUT3 width in that of the longest interval, since
a width held is not clamped again when the interval is shortened (R141). -/
abbrev SiteConfig.inRange (c : SiteConfig) : Prop :=
  (∀ n : SlotId, (c.slots.get n).settings.inRange n) ∧ nominalInRange c.lfNominal ∧ c.bandwidth ≤ 7 ∧
  10000 ≤ c.lockThreshold ∧ c.lockThreshold ≤ 10000000 ∧ 100000 ≤ c.stepThreshold ∧ c.stepThreshold ≤ 100000000 ∧
  c.bridgeTime ≤ 600 ∧ 1 ≤ c.waitToRestore ∧ c.waitToRestore ≤ 600 ∧ 1 ≤ c.sigmaFloor ∧ c.sigmaFloor ≤ 10000 ∧
  0 ≤ c.eFloor ∧ c.eFloor ≤ 1000000 ∧ c.out3Interval ∈ supportedIntervals ∧ 1 ≤ c.out3Width ∧ c.out3Width ≤ 5000000 ∧
  -1000000000 ≤ c.out3Offset ∧ c.out3Offset ≤ 1000000000

/-- The site configuration, that of a write in progress and that of the stored copy, the settings that the slots have adopted, and
the two nominal frequencies formed from it lie in their ranges (R140, R22, R98, Table 4-1). -/
def State.configsInRange (s : State) : Prop :=
  s.tru.config.inRange ∧ (∀ w ∈ s.ols.writing, w.content.config.inRange) ∧
  (∀ r ∈ s.ols.store, r.content.config.inRange) ∧ (∀ n : SlotId, (s.rmu.slots.get n).settings.inRange n) ∧
  nominalInRange s.rmu.lfNominal ∧ nominalInRange s.sde.lfBasis

/-- Each slot's counters lie in the ranges of Table 2-1, and a fault count of 3 stands only in DISQUALIFIED and in the OFF that
follows it (R38). The qualify count is below the setting while it counts, in QUALIFYING (R37, R22); elsewhere it stands as the
setting of its time left it, so at most the largest, 600. -/
def State.slotsInRange (s : State) : Prop :=
  ∀ n : SlotId,
    let sl := s.rmu.slots.get n
    sl.faultCount ≤ 3 ∧ sl.emptyRun ≤ 65535 ∧ sl.holdOff ≤ 960 ∧ sl.streak ≤ 4 ∧ sl.usableRun ≤ 3600 ∧
    sl.qualifyCount ≤ 600 ∧ (sl.state = .qualifying → sl.qualifyCount < sl.settings.qualify) ∧
    (sl.faultCount = 3 → sl.state = .disqualified ∨ sl.state = .off)

/-- The values of the loop, its counts, the advertisements, the policy and the counts of the sensor, the day and the oven lie in
their ranges (Tables 3-1, 4-1, 5-1, 7-2, 9-1), and so do site time, the configurations and the slots' counters. The residual is
bounded from below alone: R80 has its upper end from |e| ≤ 500,000,000,000 ps at each update, and GoodEpochUpdates states it so. -/
def State.valuesInRange (s : State) : Prop :=
  s.timeInRange ∧ s.configsInRange ∧ s.slotsInRange ∧
  -corrLimit ≤ s.sde.fInt ∧ s.sde.fInt ≤ corrLimit ∧ -corrLimit ≤ s.sde.fAvg ∧ s.sde.fAvg ≤ corrLimit ∧
  0 ≤ s.sde.residual ∧ 0 ≤ s.sde.wander ∧ s.sde.lfCount ≤ 600 ∧
  s.sde.lockCount ≤ 16 ∧ s.sde.lockLoss ≤ 4 ∧ s.sde.labelMismatch ≤ 3 ∧ s.sde.bridgeRemaining ≤ 600 ∧
  (∀ p : Port,
    let a := (s.tru.tenants.get p).adv
    100000 ≤ a.limit ∧ a.limit ≤ 50000000 ∧ 1000 ≤ a.slew ∧ a.slew ≤ 10000000) ∧
  100000 ≤ s.tru.policy.lCom ∧ s.tru.policy.lCom ≤ 50000000 ∧
  1000 ≤ s.tru.policy.sRes ∧ s.tru.policy.sRes ≤ 10000000 ∧
  s.ols.failures ≤ 10 ∧ s.ols.dayLocked ≤ 86400 ∧ s.spm.warmUp ≤ 1800 ∧ s.spm.soak ≤ 1800

/-- A detached tenant holds the DETACHED record, a cleared notice state and a tolerance flag that is out, and a tenant is
attached only in RUN outside a start (R125, R131, R133, R207). -/
def State.tenantsConsistent (s : State) : Prop :=
  ∀ t : Port,
    (s.attached t = false →
      s.tru.tenants.get t = .detached ∧ s.nu.get t = .detached ∧ s.sde.tol.get t = false) ∧
    (s.attached t = true → s.inService = true)

/-- In FREERUN time is not valid and E is at its cap; in LOCKED, BRIDGE and HOLDOVER time is valid; E is never above the cap
(R14, R119). -/
def State.clockConsistent (s : State) : Prop :=
  (s.sde.clock = .freerun → s.tsg.timeValid = false ∧ s.sde.e = eCap) ∧
  (s.sde.clock = .locked ∨ s.sde.clock = .bridge ∨ s.sde.clock = .holdover → s.tsg.timeValid = true) ∧
  s.sde.e ≤ eCap

/-- A set of notices holds each kind at most once, in kind order, with counts of 1 to 255 (R200). -/
def noticeSetOk (ns : List Notice) : Prop :=
  ns.Pairwise (fun a b => a.kind < b.kind) ∧ ∀ n ∈ ns, 1 ≤ n.count ∧ n.count ≤ 255

/-- Every tenant's notice set and pending set is well formed, and notices are pending only while frozen (R200, R204). -/
def State.noticesConsistent (s : State) : Prop :=
  ∀ t : Port,
    noticeSetOk (s.nu.get t).notices ∧ noticeSetOk (s.nu.get t).pending ∧
    ((s.nu.get t).frozen = false → (s.nu.get t).pending = [])

/-- A pending action: the initiator has concurred, the concurred set lies in the required set and that in the attached set,
the sets differ, and the age is at most 30 (R143, R147, R148). -/
def State.jointConsistent (s : State) : Prop :=
  ∀ r, s.tru.joint = some r →
    r.concurred.get r.initiator = true ∧
    (∀ t : Port, r.concurred.get t = true → r.required.get t = true) ∧
    (∀ t : Port, r.required.get t = true → s.attached t = true) ∧
    r.required ≠ r.concurred ∧
    r.age ≤ 30

/-- Out of RUN and during a start every output pin is low and every port is IDLE with its overrun flag clear (R167, R178,
R189). -/
def State.quietOutOfService (s : State) : Prop :=
  s.inService = false →
    (∀ o : OutId, (s.pou.get o).pulseLeft = none) ∧
    ∀ t : Port, (s.tpi.get t).state = .idle ∧ (s.tpi.get t).overrun = false

/-- A day ring holds at most 8 records in strictly increasing day order (R95). -/
def dayRingOk (ring : List DayRecord) : Prop := ring.length ≤ 8 ∧ ring.Pairwise (fun a b => a.day < b.day)

/-- The day ring, the ring of the write in progress and the ring of the stored copy are well formed (R95, R98). -/
def State.daysConsistent (s : State) : Prop :=
  dayRingOk s.ols.ring ∧ (∀ w, s.ols.writing = some w → dayRingOk w.content.ring) ∧
  ∀ r, s.ols.store = some r → dayRingOk r.content.ring

/-- A slot is SELECTED only as the SDE's selected slot, and that slot is phase-capable and SELECTED, or HALTING while its
halt lasts (R20, R21, R49). -/
def State.selectionConsistent (s : State) : Prop :=
  (∀ n : SlotId, (s.rmu.slots.get n).state = .selected → s.sde.selected = some n) ∧
  ∀ n : SlotId, s.sde.selected = some n →
    phaseCapable n = true ∧
    ((s.rmu.slots.get n).state = .selected ∨ (s.rmu.slots.get n).state = .halting)

/-- A latch-low of an attached tenant that stands at 1 has its condition true (R208, R209). -/
def State.latchesConsistent (s : State) : Prop :=
  ∀ t : Port, s.attached t = true →
    ((s.nu.get t).latches.timeValid = true → s.tsg.timeValid = true) ∧
    ((s.nu.get t).latches.inTolerance = true → s.sde.tol.get t = true) ∧
    ((s.nu.get t).latches.locked = true → s.sde.clock = .locked) ∧
    ((s.nu.get t).latches.ovenSettled = true → s.spm.oven = .settled)

/-- Every invariant together. -/
def State.consistent (s : State) : Prop :=
  s.valuesInRange ∧ s.tenantsConsistent ∧ s.clockConsistent ∧ s.noticesConsistent ∧ s.jointConsistent ∧
  s.quietOutOfService ∧ s.daysConsistent ∧ s.selectionConsistent ∧ s.latchesConsistent

end Sys2Proof.Machine
end

