-- ==== Sys2Proof/WellFormed.lean ====
section
/-!
DEFINITION. Which commands a frame can carry (R187, Table 12-10): every field of a request has its wire width already,
so the checks are those on the two requests whose length varies.
-/

namespace Sys2Proof

/-- A PROPOSE frame holds 0 to 8 items (R187, Table 12-9). -/
def proposeLengthOk (items : List ConfigItem) : Bool := items.length ≤ 8

/-- A CLEAR_NOTICES frame of length 5 to 20 holds 1 to 16 kinds (Table 12-10). -/
def clearLengthOk (kinds : List Byte) : Bool := 1 ≤ kinds.length && kinds.length ≤ 16

/-- The check of a command. -/
def Instr.wellFormed : Instr → Bool
  | .propose _ _ _ items => proposeLengthOk items
  | .clearNotices _ _ kinds => clearLengthOk kinds
  | .powerOn | .resetNFalls | .brownOut | .startSequence _ | .epochBoundary _ | .holdOffExpiry _
  | .bridgeExpiry | .jointExpiry | .ovenFault | .soakEnd | .sensorReadDone _ | .epochClose
  | .writeCompletion _ | .pulse _ _ | .labelMessage _ _ | .pulseInstant _ | .pulseWidthEnd _
  | .mainsGoodFalls | .mainsGoodRises | .battLowRises | .battLowFalls | .ovenOkRises | .ovenOkFalls
  | .presentLineFalls _ | .presentLineRises _ | .readTransaction _ _ | .responseCompleted _
  | .malformedFrame _ _ _ | .attach _ _ _ | .advertise _ _ _ | .detach _ _ | .readTime _ _
  | .readStatus _ _ | .reportPhase _ _ _ | .readReference _ _ _ | .readLearning _ _ _ _
  | .readAging _ _ | .readConfig _ _ | .setOutput _ _ _ | .concur _ _ _ | .decline _ _ _
  | .readJoint _ _ | .readNotices _ _ | .nextNotice _ _ | .noticesDone _ _ | .setNoticeMask _ _ _ => true

end Sys2Proof
end

