-- ==== Sys2Proof/Certificates/Slice0/Obligations.lean ====
section
/-!
DEFINITION. The statements for the provers: what the part does at each command and what every step keeps, from the rules of
spec/. A free value (freeIndex and the opaque constants of Config) is never given a value here.
-/

section

open Sys2Proof Sys2Proof.Machine

/-! ## The step, the reset state and the invariants -/

/-- A step with a command waiting runs that command on the state with the queue's rest. -/
def Obligations.StepRunsFrontCommand : Prop :=
  ∀ (s : State) (c : Instr) (rest : List Instr),
    s.pending = c :: rest → step s = exec c { s with pending := rest }

/-- Every command is answered with a next state in every state, and so is every step (the step on an empty queue is log 2). -/
def Obligations.EveryCommandAnswers : Prop :=
  (∀ (c : Instr) (s : State), Answers c s) ∧ ∀ s : State, ∃ t, step s = .next t

/-- The state after reset holds the start values of Tables 1-5, 2-8, 3-9, 4-5, 5-12, 6-11, 7-12, 8-5, 9-3, 10-6 and 11-3 with
DEFAULTS: each field that a table gives, the slot settings of the factory configuration, the records of the outputs. The
lines, the store and the start read are the model's choice (log 1); the mode OUT3's record holds is log 28. -/
def Obligations.ResetHoldsStartValues : Prop :=
  let r := State.reset
  r.tsg = { seconds := 0, phase := 0, frac := 0, fApp := 0, timeValid := false, reRun := false } ∧
  r.rmu.lastClosed = 281474976710655 ∧ r.rmu.lfMark = none ∧ r.rmu.targetA = none ∧ r.rmu.targetB = none ∧
  r.rmu.lfNominal = SiteConfig.factory.lfNominal ∧
  (∀ n : SlotId,
    r.rmu.slots.get n =
      { state := .qualifying, faultCount := 0, qualifyCount := 0, emptyRun := 0, holdOff := 0, streak := 0
        usableRun := 0, lastValue := none, lastLabel := none
        lastFaults := { gate := false, label := false, quality := false, extra := false, stale := false }
        settings := (SiteConfig.factory.slots.get n).settings, queue := [], tallies := [] }) ∧
  r.sde.selected = none ∧ r.sde.lastSelected = none ∧ r.sde.clock = .freerun ∧ r.sde.lockCount = 0 ∧
  r.sde.lockLoss = 0 ∧ r.sde.bridgeRemaining = 0 ∧ r.sde.labelMismatch = 0 ∧ r.sde.decisionPending = false ∧
  r.sde.stepDecisionPending = false ∧ r.sde.stepNow = false ∧ r.sde.lockedSinceStart = false ∧
  r.sde.fInt = 0 ∧ r.sde.fAvg = 0 ∧ r.sde.fAvgBin = none ∧ r.sde.residual = 0 ∧ r.sde.bias = 0 ∧ r.sde.wander = 0 ∧
  r.sde.lfCount = 0 ∧ r.sde.lfRestart = true ∧ r.sde.lfBasis = SiteConfig.factory.lfNominal ∧
  r.sde.anchorCorr = 0 ∧ r.sde.anchorBin = none ∧ r.sde.anchorSeconds = 0 ∧ r.sde.hours = 0 ∧
  r.sde.assisted = false ∧ r.sde.e = 999999999999 ∧
  (∀ t : Port,
    r.sde.tol.get t = false ∧
    r.tru.tenants.get t =
      { attached := false, adv := { limit := 1100000, allow := true, slew := 100000, squelch := false }, ackGen := 0 } ∧
    r.nu.get t =
      { notices := [], pending := [], mask := 0xFFFF, frozen := false
        latches :=
          { timeValid := false, inTolerance := false, locked := false, ovenSettled := false, refFault := false
            stepped := false } } ∧
    r.noticeLine t = false ∧ (r.tpi.get t).state = .idle ∧ (r.tpi.get t).overrun = false) ∧
  r.tru.policy = { stepsPermitted := true, sRes := 10000000, lCom := 1100000, squelch := false } ∧
  r.tru.generation = 0 ∧ r.tru.serial = 0 ∧ r.tru.joint = none ∧ r.tru.lastEnded = none ∧
  r.tru.config = .factory ∧
  (∀ o : OutId,
    (r.pou.get o).current =
      (if o = 3 then
        { enable := true, interval := SiteConfig.factory.out3Interval, width := SiteConfig.factory.out3Width
          offset := SiteConfig.factory.out3Offset, mode := (r.pou.get 3).current.mode }
      else { enable := false, interval := 1000, width := 1000, offset := 0, mode := .invalid }) ∧
    (r.pou.get o).pending = none ∧ (r.pou.get o).state = .disabled ∧ (r.pou.get o).pulseLeft = none ∧
    (r.pou.get o).resumeWait = false) ∧
  r.ols.bins = emptyBins ∧ r.ols.ring = [] ∧ r.ols.aging = 0 ∧ r.ols.agingEst = false ∧
  r.ols.dayLocked = 0 ∧ r.ols.dayCorr = 0 ∧ r.ols.dayTemp = 0 ∧ r.ols.retainedAnchor = 0 ∧ r.ols.retainedBin = none ∧
  r.ols.outcome = .defaults ∧ r.ols.reading = false ∧ r.ols.sensorFault = false ∧ r.ols.writing = none ∧
  r.ols.rewritePending = false ∧ r.ols.retryDue = false ∧ r.ols.lastWrite = .none ∧
  r.spm.startPending = none ∧ r.spm.summary = none ∧ r.spm.warmUp = 0 ∧ r.spm.ovenFault = false ∧ r.pending = []

/-- The state after reset satisfies every invariant. -/
def Obligations.ResetIsConsistent : Prop := State.reset.consistent

/-- At every step site time, F_app, F_int and F_avg, the configuration and the slot settings, the counters of the slots and of the
loop, the advertisements, the policy, and the counts of the sensor, the day and the oven stay in the ranges their tables give, the
residual and the wander do not fall below 0, and a fault count of 3 goes with DISQUALIFIED, or the OFF that follows it. The
qualify count is below its setting in QUALIFYING and at most 600 elsewhere, and the OUT3 width in the range of the longest
interval (R141). The upper end of the residual rests on a bound of |e| and is in GoodEpochUpdates. The configuration in the store
and in a write stays in range with the one in force. -/
def Obligations.StepKeepsValuesInRange : Prop :=
  ∀ s s' : State, s.valuesInRange → step s = .next s' → s'.valuesInRange

/-- At every step a detached tenant keeps the DETACHED values, and tenants are attached only in RUN outside a start. -/
def Obligations.StepKeepsTenantsConsistent : Prop :=
  ∀ s s' : State, s.tenantsConsistent → step s = .next s' → s'.tenantsConsistent

/-- At every step FREERUN goes with invalid time and E at its cap, and LOCKED, BRIDGE and HOLDOVER with valid time. -/
def Obligations.StepKeepsClockConsistent : Prop :=
  ∀ s s' : State, s.clockConsistent → step s = .next s' → s'.clockConsistent

/-- At every step each notice set holds each kind at most once, in kind order, and is pending only while frozen. -/
def Obligations.StepKeepsNoticesConsistent : Prop :=
  ∀ s s' : State, s.noticesConsistent → step s = .next s' → s'.noticesConsistent

/-- At every step the concurred set of a pending action lies in its required set, and that among the attached tenants. -/
def Obligations.StepKeepsJointConsistent : Prop :=
  ∀ s s' : State, s.jointConsistent → step s = .next s' → s'.jointConsistent

/-- At every step outputs are low and ports IDLE while the part is out of RUN or in a start. -/
def Obligations.StepKeepsQuietOutOfService : Prop :=
  ∀ s s' : State, s.quietOutOfService → step s = .next s' → s'.quietOutOfService

/-- At every step the day ring holds at most 8 records in strictly increasing day order, in the store as in the OLS. -/
def Obligations.StepKeepsDaysConsistent : Prop :=
  ∀ s s' : State, s.daysConsistent → step s = .next s' → s'.daysConsistent

/-- At every step each latch-low of an attached tenant that stands at 1 has its condition true: it falls whenever its condition is
false. -/
def Obligations.StepKeepsLatchesConsistent : Prop :=
  ∀ s s' : State, s.latchesConsistent → step s = .next s' → s'.latchesConsistent

/-- At every step SELECTED marks exactly the SDE's selected slot, but for a selected slot that is HALTING. -/
def Obligations.StepKeepsSelectionConsistent : Prop :=
  ∀ s s' : State, s.selectionConsistent → step s = .next s' → s'.selectionConsistent

/-! ## Transactions -/

/-- The transaction written for a well-formed request is read back as that request, with every operand. -/
def Obligations.TransactionsRoundTrip : Prop :=
  ∀ (i : Instr) (t : Port) (bytes : List Byte),
    i.wellFormed = true → encodeTransaction i = some (t, bytes) → decodeTransaction t bytes = some i

/-! ## Starts -/

/-- POWER_ON, RESET_N_FALLS and BROWN_OUT begin a start with the pending cause of R178. A write in progress is lost: the store
keeps its copy, or, where the write was in its first phase, may hold one with an invalid integrity word (log 8, a free
value). The values the other blocks hold while the start lasts are log 18. -/
def Obligations.StartEventsBeginAStart : Prop :=
  ∀ s : State, ∃ a b c : State,
    exec .powerOn s = .next a ∧ exec .resetNFalls s = .next b ∧ exec .brownOut s = .next c ∧
    a.spm.startPending = some .powerOn ∧ b.spm.startPending = some .powerOn ∧
    c.spm.startPending = some (if s.spm.startPending = some .powerOn then .powerOn else .brownout) ∧
    s.startedFrom a ∧ s.startedFrom b ∧ s.startedFrom c

/-- START_SEQUENCE takes the start values of every block (Tables 2-8, 3-9, 4-5, 5-12, 6-11, 7-12, 8-5, 9-3, 10-6), with the slots,
the LF basis and OUT3's record from the configuration that the restore hands over, and the sensor's state from the start read; it
takes the power state from the lines and ends the start with the cause gathered. What is restored, F_int and F_app are
StartRestoresRetainedRecord. The mode OUT3's record holds is log 28, the lines of the supply and of RESET_N are log 21, and the
values of the model's own fields are log 29. With no start in progress it changes nothing (log 4). -/
def Obligations.StartSequenceEndsStart : Prop :=
  ∀ (s : State) (read : SensorResult),
    (s.spm.startPending = none → exec (.startSequence read) s = .next s) ∧
    ∀ cause : StartCause, s.spm.startPending = some cause → ∃ t : State,
      exec (.startSequence read) s = .next t ∧
      let c := t.tru.config
      t.spm.startCause = cause ∧ t.spm.startPending = none ∧ t.pending = s.pending ∧ t.freeIndex = s.freeIndex ∧
      t.pins = { s.pins with resetN := true, vddOk := true } ∧
      (∀ n : SlotId,
        t.rmu.slots.get n =
          { state := if (c.slots.get n).enable then .qualifying else .off
            faultCount := 0, qualifyCount := 0, emptyRun := 0, holdOff := 0, streak := 0, usableRun := 0
            lastValue := none, lastLabel := none
            lastFaults := { gate := false, label := false, quality := false, extra := false, stale := false }
            settings := (c.slots.get n).settings, queue := [], tallies := [] }) ∧
      t.rmu.targetA = none ∧ t.rmu.targetB = none ∧ t.rmu.lfMark = none ∧ t.rmu.lfVoid = false ∧
      t.rmu.lfNominal = c.lfNominal ∧
      t.sde =
        { selected := none, lastSelected := none, clock := .freerun, lockCount := 0, lockLoss := 0
          decisionPending := false, stepDecisionPending := false, stepNow := false, bridgeRemaining := 0
          labelMismatch := 0, lockedSinceStart := false, fInt := t.sde.fInt, fAvg := 0, fAvgBin := none, residual := 0
          bias := 0, wander := 0, lfCount := 0, lfRestart := true, lfBasis := c.lfNominal, anchorCorr := 0
          anchorBin := none, anchorSeconds := 0, hours := 0, assisted := false, e := 999999999999
          tol := ⟨false, false, false⟩ } ∧
      t.ols.reading = false ∧ t.ols.sensorFault = false ∧ t.ols.dayLocked = 0 ∧ t.ols.dayCorr = 0 ∧ t.ols.dayTemp = 0 ∧
      t.ols.writing = none ∧ t.ols.rewritePending = false ∧ t.ols.retryDue = false ∧ t.ols.lastWrite = .none ∧
      (∀ θ : Int, read = .value θ → -880 ≤ θ → θ ≤ 2000 →
        t.ols.theta = some θ ∧ t.ols.lastSample = some θ ∧ t.ols.failures = 0) ∧
      ((read = .noAnswer ∨ ∃ θ : Int, read = .value θ ∧ (θ < -880 ∨ 2000 < θ)) →
        t.ols.theta = none ∧ t.ols.lastSample = none ∧ t.ols.failures = 1) ∧
      t.tru.serial = 0 ∧ t.tru.lastEnded = none ∧
      (∀ o : OutId,
        t.pou.get o =
          { current :=
              if o = 3 then
                { enable := true, interval := c.out3Interval, width := c.out3Width, offset := c.out3Offset
                  mode := .invalid }
              else { enable := false, interval := 1000, width := 1000, offset := 0, mode := .invalid }
            pending := none, state := .disabled, resumeWait := false, pulseLeft := none, passed := none }) ∧
      (∀ p : Port, t.tpi.get p = { s.tpi.get p with state := .idle, overrun := false }) ∧
      t.tsg.seconds = 0 ∧ t.tsg.phase = 0 ∧ t.tsg.frac = 0 ∧ t.tsg.reRun = false ∧ t.tsg.timeValid = false ∧
      t.rmu.lastClosed = 281474976710655 ∧
      (∀ p : Port, t.tru.tenants.get p = .detached ∧ t.nu.get p = .detached) ∧
      t.tru.policy = .noTenant ∧ t.tru.generation = 0 ∧ t.tru.joint = none ∧
      t.spm.power = (if s.pins.mainsGood then .run else if s.pins.battLow then .coldkeep else .keepalive) ∧
      t.spm.oven = (if !s.pins.mainsGood && s.pins.battLow then .off else if s.pins.ovenOk then .settled else .warming) ∧
      t.spm.soak = (if !(!s.pins.mainsGood && s.pins.battLow) && s.pins.ovenOk then 1800 else 0) ∧
      t.spm.warmUp = 0 ∧ t.spm.ovenFault = false ∧
      t.spm.summary =
        (if s.pins.mainsGood then none
        else some
          { beganAtStart := true, entrySeconds := 0, boundaries := 0, coldBoundaries := 0
            coldEntries := if s.pins.battLow then 1 else 0, ovenFaultSeen := false, ended := false })

/-- START_SEQUENCE restores the retained record when its format and sum are right and takes the DEFAULTS otherwise (Table
5-10), and F_app and F_int become the retained prediction. The order and the widths of the words summed are log 9. -/
def Obligations.StartRestoresRetainedRecord : Prop :=
  ∀ (s : State) (read : SensorResult), s.spm.startPending ≠ none → ∃ t : State,
    exec (.startSequence read) s = .next t ∧ t.ols.store = s.ols.store ∧
    (∀ r w, s.ols.store = some r → r.integrity = some w → r.format = 0x5A34 →
        wordSum (r.format :: r.content.words) + w = 0xFFFF →
      t.ols.outcome = .restored ∧ t.tru.config = r.content.config ∧
      (∀ b : BinId,
        t.ols.bins.get b =
          if (r.content.bins.get b).count = 0 then { count := 0, mean := 0, spread := 0 } else r.content.bins.get b) ∧
      t.ols.ring = r.content.ring ∧ t.ols.aging = r.content.aging ∧ t.ols.agingEst = (agingOf r.content.ring).2 ∧
      t.ols.retainedAnchor = r.content.anchor ∧ t.ols.retainedBin = r.content.anchorBin) ∧
    ((∀ r, s.ols.store = some r →
        r.format ≠ 0x5A34 ∨ ∀ w, r.integrity = some w → wordSum (r.format :: r.content.words) + w ≠ 0xFFFF) →
      t.ols.outcome = .defaults ∧ t.tru.config = .factory ∧ t.ols.bins = emptyBins ∧ t.ols.ring = [] ∧
      t.ols.aging = 0 ∧ t.ols.agingEst = false ∧ t.ols.retainedAnchor = 0 ∧ t.ols.retainedBin = none) ∧
    t.sde.fInt = clampCorr (t.ols.retainedAnchor + (t.tempTerm t.ols.retainedBin).getD 0) ∧
    t.tsg.fApp = t.sde.fInt

/-! ## Site time and its boundaries -/

/-- EPOCH_BOUNDARY outside a start: site time advances by the least number of whole cycles that passes the end of the second
(log 3), the seconds count rises by one, and a set re-run flag is cleared with nothing raised: but for the instants that outputs
cross (log 3, BoundaryAdoptsOutputs) only site time moves. During a start it changes nothing (log 18). -/
def Obligations.BoundaryPassesSecond : Prop :=
  ∀ (s : State) (line : LineClock),
    (s.inStart = true → exec (.epochBoundary line) s = .next s) ∧
    (s.inStart = false → s.timeInRange → ∃ (t : State) (n : Nat),
      exec (.epochBoundary line) s = .next t ∧
      t.tsg.seconds = s.tsg.seconds + 1 ∧ t.tsg.reRun = false ∧ t.tsg.timeValid = s.tsg.timeValid ∧
      s.tsg.position + n * s.tsg.cycleAdvance = unitsPerSecond + t.tsg.position ∧
      t.tsg.position < s.tsg.cycleAdvance ∧
      (s.tsg.reRun = true →
        t = { s with tsg := t.tsg, pou := t.pou, nu := t.nu } ∧ t.tsg.fApp = s.tsg.fApp ∧
        (∀ o : OutId, s.actsAtInstants o = false →
          t.pou.get o =
            { s.pou.get o with
              pulseLeft := (s.pou.get o).pulseLeft.map fun u => u - n * s.tsg.cycleAdvance
              passed := (t.pou.get o).passed }) ∧
        ((∀ o : OutId, s.actsAtInstants o = false) → t.nu = s.nu)) ∧
      t.tpi = s.tpi ∧ t.pins = s.pins ∧ t.pending = s.pending ∧ t.freeIndex = s.freeIndex)

/-- A raised boundary in HOLDOVER forms the hours, moves F_app toward the prediction in unassisted warm holdover, and E
grows; in BRIDGE F_app holds, E grows by the third case with h at 0, and bridge remaining falls by one. That the clock stays in
BRIDGE when bridge remaining comes to 0 is log 5 (BRIDGE_EXPIRY is a step of its own), and that the prediction reads the aging
slope before a day boundary changes it is log 13. Each attached tenant is judged by the new E. -/
def Obligations.BoundaryPredictsAndGrows : Prop :=
  ∀ (s : State) (line : LineClock), s.raises → ∃ t : State,
    exec (.epochBoundary line) s = .next t ∧
    let now : Option BinId := s.ols.theta.map binOf
    let temp : Option Int :=
      match now, s.sde.anchorBin with
      | some b, some a =>
        if 16 ≤ (s.ols.bins.get b).count ∧ 16 ≤ (s.ols.bins.get a).count ∧ s.ols.sensorFault = false then
          some ((s.ols.bins.get b).mean - (s.ols.bins.get a).mean)
        else none
      | _, _ => none
    let penalty : Int :=
      if temp.isSome then (now.map fun b => (s.ols.bins.get b).spread).getD 200
      else if now.isSome ∧ now = s.sde.anchorBin ∧ s.ols.sensorFault = false then 0
      else 200
    let slope : Int := if s.ols.agingEst then s.ols.aging else 0
    let uncertainty : Int := if s.ols.agingEst then max (roundDiv (mag s.ols.aging) 4) 1 else 50
    let third : Int := max s.sde.residual s.tru.config.sigmaFloor + penalty
    (s.sde.clock = .holdover →
      let h : Nat := ((s.tsg.seconds + 1 - s.sde.anchorSeconds).toNat - 1) / 3600
      let pred : Int := s.sde.anchorCorr + temp.getD 0 + roundDiv (slope * h) 24
      let g : Int :=
        if s.spm.oven ≠ .settled then 5000
        else if s.sde.assisted then max s.sde.wander s.tru.config.sigmaFloor
        else third + roundDiv (uncertainty * h) 24
      t.sde.hours = h ∧
      t.tsg.fApp =
        (if s.sde.assisted = false ∧ s.spm.oven = .settled then
          clampCorr (s.tsg.fApp + max (-1000) (min 1000 (pred - s.tsg.fApp)))
        else s.tsg.fApp) ∧
      t.sde.e = min (s.sde.e + g) 999999999999 ∧ t.sde.clock = .holdover ∧
      t.sde.anchorCorr = s.sde.anchorCorr ∧ t.sde.anchorBin = s.sde.anchorBin ∧
      t.sde.anchorSeconds = s.sde.anchorSeconds ∧ t.sde.fInt = s.sde.fInt) ∧
    (s.sde.clock = .bridge →
      t.tsg.fApp = s.tsg.fApp ∧ t.sde.bridgeRemaining = s.sde.bridgeRemaining - 1 ∧ t.sde.clock = .bridge ∧
      t.sde.e = min (s.sde.e + (if s.spm.oven ≠ .settled then 5000 else third)) 999999999999) ∧
    (s.sde.clock = .holdover ∨ s.sde.clock = .bridge → s.judgedIn t) ∧
    (s.sde.clock ≠ .holdover → s.sde.clock ≠ .bridge → t.sde = s.sde ∧ t.tsg.fApp = s.tsg.fApp)

/-- At a raised boundary whose new seconds value is a multiple of 86,400 the day ended is recorded when it holds 72,000 locked
results and lies after the newest record, the accumulators become 0, and A follows the new ring; at any other raised boundary
the ring, A and the accumulators stay. At a day boundary a retained write is requested, of what the boundary leaves: it starts with
that content when the writer is IDLE, else a rewrite is pending. That the day ends after the SDE's work of the same boundary and
before the sensor read is log 13. -/
def Obligations.BoundaryEndsDay : Prop :=
  ∀ (s : State) (line : LineClock), s.raises → ∃ t : State,
    exec (.epochBoundary line) s = .next t ∧
    ((s.tsg.seconds + 1).toNat % 86400 = 0 →
      let day : Nat := s.tsg.seconds.toNat / 86400
      let rec' : DayRecord :=
        { day := day
          meanCorr := roundDiv s.ols.dayCorr s.ols.dayLocked
          meanTemp := roundDiv s.ols.dayTemp s.ols.dayLocked
          locked := s.ols.dayLocked }
      t.ols.dayLocked = 0 ∧ t.ols.dayCorr = 0 ∧ t.ols.dayTemp = 0 ∧
      ((72000 ≤ s.ols.dayLocked ∧ ∀ r, s.ols.ring.getLast? = some r → r.day < day) →
        s.ols.ring.length ≤ 8 →
        t.ols.ring = (if s.ols.ring.length = 8 then s.ols.ring.tail else s.ols.ring) ++ [rec'] ∧
        (t.ols.aging, t.ols.agingEst) = agingOf t.ols.ring) ∧
      ((s.ols.dayLocked < 72000 ∨ ∃ r, s.ols.ring.getLast? = some r ∧ day ≤ r.day) →
        t.ols.ring = s.ols.ring ∧ t.ols.aging = s.ols.aging ∧ t.ols.agingEst = s.ols.agingEst) ∧
      s.requestedWrite t { s.retainedContent with ring := t.ols.ring, aging := t.ols.aging }) ∧
    ((s.tsg.seconds + 1).toNat % 86400 ≠ 0 →
      t.ols.ring = s.ols.ring ∧ t.ols.aging = s.ols.aging ∧ t.ols.agingEst = s.ols.agingEst ∧
      t.ols.dayLocked = s.ols.dayLocked ∧ t.ols.dayCorr = s.ols.dayCorr ∧ t.ols.dayTemp = s.ols.dayTemp ∧
      t.ols.writing = s.ols.writing ∧ t.ols.rewritePending = s.ols.rewritePending) ∧
    t.ols.bins = s.ols.bins ∧ t.ols.store = s.ols.store ∧ t.ols.reading = true

/-- EPOCH_BOUNDARY and the outputs. An output that acts at its instants and whose instant the crossing cycle passed before the
end of the second acts on it by its old record: it takes its squelched or active state, and a pulse begins that much of which
has passed. Then, at a raised boundary, each pending record becomes the current record, an adopted record with enable off makes
the output DISABLED, and the resume-wait flag is cleared; in the re-run of a second they stay. An instant passed at or after the
boundary, by the record then in force, is marked to be acted on, after the growth of E and all other work of the boundary (log 37). That the resume-wait flag is cleared outside RUN too is log 36. OUTPUT_SQUELCH for an instant so crossed is filed for the output's
owner, or for every attached tenant where it is OUT3's: in the re-run nothing else is, and at a raised boundary no other posting
touches that kind. That the crossing cycle acts in these two parts, and the mark, are log 3. -/
def Obligations.BoundaryAdoptsOutputs : Prop :=
  ∀ (s : State) (line : LineClock),
    (s.raises → ∃ t : State,
      exec (.epochBoundary line) s = .next t ∧
      ∀ o : OutId,
        (t.pou.get o).pending = none ∧ (t.pou.get o).resumeWait = false ∧
        (t.pou.get o).current = (s.pou.get o).pending.getD (s.pou.get o).current ∧
        (∀ r, (s.pou.get o).pending = some r → r.enable = false → (t.pou.get o).state = .disabled)) ∧
    (s.inStart = false → s.timeInRange → ∃ t : State,
      exec (.epochBoundary line) s = .next t ∧
      let beyond := t.tsg.position
      let gone := unitsPerSecond + beyond - s.tsg.position
      let crossed := fun o : OutId =>
        s.actsAtInstants o && decide (beyond < pastInstant t.tsg (s.pou.get o).current) &&
          decide (pastInstant t.tsg (s.pou.get o).current < s.tsg.cycleAdvance)
      (∀ o : OutId,
        let old := s.pou.get o
        let new := t.pou.get o
        let past := pastInstant t.tsg old.current
        new.current = (if s.tsg.reRun then old.current else old.pending.getD old.current) ∧
        new.pending = (if s.tsg.reRun then old.pending else none) ∧
        new.resumeWait = (s.tsg.reRun && old.resumeWait) ∧
        ((∀ r, old.pending = some r → r.enable = true ∨ s.tsg.reRun = true) →
          new.state = if crossed o then if s.squelched o then .squelched else .active else old.state) ∧
        new.pulseLeft =
          (if crossed o && !s.squelched o then some (pulseUnits old.current - past)
          else old.pulseLeft.map fun u => u - gone) ∧
        new.passed =
          (if pastInstant t.tsg new.current ≤ beyond then some (pastInstant t.tsg new.current) else none)) ∧
      ∀ p : Port,
        let told := fun (o : OutId) (n : TenantNotices) =>
          if crossed o && squelchPosts (s.pou.get o).state (s.stateAtInstant o) then
            n.file (squelchReport o (s.stateAtInstant o))
          else n
        let filed := if s.attached p then told 3 (told (tenantOut p) (s.nu.get p)) else s.nu.get p
        let squelches := fun ns : List Notice => ns.filter fun x => x.kind == 15
        (s.tsg.reRun = true → t.nu.get p = filed) ∧
        squelches (t.nu.get p).notices = squelches filed.notices ∧
        squelches (t.nu.get p).pending = squelches filed.pending)

/-- At a raised boundary the hold-offs, the age of a pending action, the warm-up, the soak and the keep-alive summary count. That
a slot stays DISQUALIFIED with its hold-off at 0, an action of age 30 stays pending and no fault flag is set at a warm-up of
1,800 s until the expiry's own step is log 5. -/
def Obligations.BoundaryCounts : Prop :=
  ∀ (s : State) (line : LineClock), s.raises → ∃ t : State,
    exec (.epochBoundary line) s = .next t ∧
    (∀ n : SlotId,
      (t.rmu.slots.get n).state = (s.rmu.slots.get n).state ∧
      (t.rmu.slots.get n).holdOff =
        (if (s.rmu.slots.get n).state = .disqualified then (s.rmu.slots.get n).holdOff - 1
        else (s.rmu.slots.get n).holdOff) ∧
      (n ≠ 2 → t.rmu.slots.get n = { s.rmu.slots.get n with holdOff := (t.rmu.slots.get n).holdOff })) ∧
    t.rmu.lastClosed = s.rmu.lastClosed ∧ t.rmu.targetA = s.rmu.targetA ∧ t.rmu.targetB = s.rmu.targetB ∧
    t.tru = { s.tru with joint := s.tru.joint.map fun r => { r with age := min 30 (r.age + 1) } } ∧
    t.spm.warmUp = (if s.spm.oven = .warming then min 1800 (s.spm.warmUp + 1) else s.spm.warmUp) ∧
    t.spm.soak = (if s.spm.oven = .settled then s.spm.soak - 1 else s.spm.soak) ∧
    t.spm.oven = s.spm.oven ∧ t.spm.power = s.spm.power ∧ t.spm.ovenFault = s.spm.ovenFault ∧
    (s.spm.power = .run → t.spm.summary = s.spm.summary) ∧
    (s.spm.power ≠ .run →
      t.spm.summary =
        s.spm.summary.map fun k =>
          { k with
            boundaries := min 4294967295 (k.boundaries + 1)
            coldBoundaries :=
              if s.spm.power = .coldkeep then min 4294967295 (k.coldBoundaries + 1) else k.coldBoundaries })

/-! ## Expiries -/

/-- HOLD_OFF_EXPIRY of a DISQUALIFIED slot whose hold-off has reached 0 makes it QUALIFYING with its counters 0; BRIDGE_EXPIRY
with bridge remaining 0 moves the clock to HOLDOVER with E kept and a fresh anchor from F_avg; JOINT_EXPIRY of a pending action
of age 30 cancels it with reason EXPIRED and tells its parties; OVEN_FAULT at a warm-up of 1,800 s sets the oven fault flag and
posts OVEN; SOAK_END changes nothing. Each leaves the rest as it was. Expiries are steps of their own (log 5), and a hold-off
that has not expired stays (log 4). -/
def Obligations.ExpiriesAct : Prop :=
  ∀ s : State,
    (∀ n : SlotId,
      (s.inStart = false → (s.rmu.slots.get n).state = .disqualified → (s.rmu.slots.get n).holdOff = 0 →
        exec (.holdOffExpiry n) s =
          .next
            { s with
              rmu :=
                { s.rmu with
                  slots :=
                    s.rmu.slots.set n
                      { s.rmu.slots.get n with
                        state := .qualifying, faultCount := 0, qualifyCount := 0, emptyRun := 0, usableRun := 0
                        holdOff := 0 } } }) ∧
      ((s.rmu.slots.get n).state ≠ .disqualified ∨ (s.rmu.slots.get n).holdOff ≠ 0 →
        exec (.holdOffExpiry n) s = .next s)) ∧
    (s.inStart = false → s.sde.clock = .bridge → s.sde.bridgeRemaining = 0 → ∃ t : State,
      exec .bridgeExpiry s = .next t ∧
      t.sde =
        { s.sde with
          clock := .holdover, decisionPending := false, assisted := false, anchorCorr := s.sde.fAvg
          anchorBin := s.currentBin, anchorSeconds := s.tsg.seconds, hours := 0 } ∧
      (∀ p : Port,
        t.nu.get p =
          (if s.attached p = true then
            let l := (s.nu.get p).latches
            { s.nu.get p with
              latches :=
                { l with
                  timeValid := l.timeValid && s.tsg.timeValid, inTolerance := l.inTolerance && s.sde.tol.get p
                  locked := false, ovenSettled := l.ovenSettled && decide (s.spm.oven = OvenState.settled) } }.file
              (.clockState .holdover false s.tsg.timeValid)
          else s.nu.get p)) ∧
      t = { s with sde := t.sde, nu := t.nu }) ∧
    (∀ r : JointRecord, s.inStart = false → s.tru.joint = some r → r.age = 30 → ∃ t : State,
      exec .jointExpiry s = .next t ∧
      t = { s with tru := { s.tru with joint := none, lastEnded := some ⟨r, .cancelled .expired⟩ }, nu := t.nu } ∧
      ∀ p : Port,
        t.nu.get p =
          (if s.attached p = true ∧ r.required.get p = true then (s.nu.get p).file (.jointCancelled r.serial .expired)
          else s.nu.get p)) ∧
    (s.inStart = false → s.spm.oven = .warming → s.spm.warmUp = 1800 → s.spm.ovenFault = false → ∃ t : State,
      exec .ovenFault s = .next t ∧ t.spm = { s.spm with ovenFault := true, summary := t.spm.summary } ∧
      (∀ k, s.spm.summary = some k → k.ended = false → t.spm.summary = some { k with ovenFaultSeen := true }) ∧
      t = { s with spm := t.spm, nu := t.nu } ∧
      ∀ p : Port,
        t.nu.get p = (if s.attached p = true then (s.nu.get p).file (.oven .warming true) else s.nu.get p)) ∧
    exec .soakEnd s = .next s

/-! ## The epoch close -/

/-- EPOCH_CLOSE, when the epoch before the current second is not yet closed, closes it: the last-closed epoch is the one before
the seconds count that the close began with, and moves only with a seconds set; after the close it is the one before the new
seconds count, or that count itself where a step back has newly set the re-run flag (log 3 places site time). A HALTING slot
ends its halt: QUALIFYING or OFF by its enable, its counters, queue, tallies, last value and hold-off cleared, its label target
gone, REF_HALTED posted. Every slot then adopts its settings, and the RMU the LF nominal frequency, whose change clears the LF
mark and last f. The TRU, the SPM, the ports and the outputs' records stay. When no close is due nothing changes. -/
def Obligations.EpochCloseCloses : Prop :=
  ∀ s : State,
    (s.closeDue = false → exec .epochClose s = .next s) ∧
    (s.closeDue = true → ∃ t : State,
      exec .epochClose s = .next t ∧ t.tru = s.tru ∧ t.spm = s.spm ∧ t.tpi = s.tpi ∧ t.pins = s.pins ∧
      t.pending = s.pending ∧ t.freeIndex = s.freeIndex ∧
      (∀ o : OutId,
        (t.pou.get o).current = (s.pou.get o).current ∧ (t.pou.get o).pending = (s.pou.get o).pending ∧
        (t.pou.get o).state = (s.pou.get o).state) ∧
      ((∀ n : SlotId, s.sde.selected = some n →
          s.tsg.timeValid = true ∧ s.sde.labelMismatch < 2 ∨
          ∀ e ∈ entriesStamped (s.tsg.seconds - 1) (s.rmu.slots.get n).queue,
            e.label = none ∨ e.label = some (s.tsg.seconds - 1)) →
        t.rmu.lastClosed = s.tsg.seconds - 1) ∧
      (s.timeInRange → s.tsg.phase ≤ 250000000000 → s.tsg.reRun = false →
        t.rmu.lastClosed = if t.tsg.reRun then t.tsg.seconds else t.tsg.seconds - 1) ∧
      (∀ n : SlotId, (s.rmu.slots.get n).state = .halting →
        let sl' := t.rmu.slots.get n
        sl'.state = (if (s.tru.config.slots.get n).enable then .qualifying else .off) ∧
        sl'.faultCount = 0 ∧ sl'.qualifyCount = 0 ∧ sl'.emptyRun = 0 ∧ sl'.usableRun = 0 ∧ sl'.holdOff = 0 ∧
        sl'.lastValue = none ∧ sl'.queue = [] ∧ sl'.tallies = [] ∧
        (n = 0 → t.rmu.targetA = none) ∧ (n = 1 → t.rmu.targetB = none) ∧
        ∀ p : Port, s.toldThat t p 5 fun r => ∃ slots : Six Bool, r = .refHalted slots ∧ slots.get n = true) ∧
      (∀ n : SlotId, (t.rmu.slots.get n).settings = (s.tru.config.slots.get n).settings) ∧
      t.rmu.lfNominal = s.tru.config.lfNominal ∧
      (s.tru.config.lfNominal ≠ s.rmu.lfNominal → t.rmu.lfMark = none ∧ (t.rmu.slots.get 2).lastValue = none) ∧
      (s.tru.config.lfNominal = s.rmu.lfNominal → t.rmu.lfMark = s.rmu.lfMark))

/-- What a close leaves of a slot whose epoch is EMPTY or FAULTY. An EMPTY epoch within freshness raises the empty run alone:
fault count, qualify count and last faults stay. A FAULTY epoch raises the fault count, makes the qualify count 0 and its
kinds the last faults; the empty run is 0 where the tally made it FAULTY and goes on rising where STALE did. Below the third
fault the slot keeps its state and its USABLE run goes on; the third makes it DISQUALIFIED with a hold-off of 60 × 2^d, its
label target gone, and a HALTING slot keeps of it only the risen d; every attached tenant's REF_FAULT latch records it and
each is told. An OFF or DISQUALIFIED slot takes no outcome. That slots have fault counts below 3 outside DISQUALIFIED and OFF
is StepKeepsValuesInRange. -/
def Obligations.EmptyAndFaultyEpochsCount : Prop :=
  ∀ (s : State) (n : SlotId), s.closeDue = true → ∃ t : State,
    exec .epochClose s = .next t ∧
    let sl := s.rmu.slots.get n
    let sl' := t.rmu.slots.get n
    let k := s.tsg.seconds - 1
    let marks := (tallyOf k sl.tallies).faults
    let adopted := (s.tru.config.slots.get n).settings
    let counting := sl.state = .qualifying ∨ sl.state = .usable ∨ sl.state = .selected
    let goesOn :=
      (sl.state = .qualifying → sl'.state = .qualifying ∧ sl'.usableRun = 0 ∧ sl'.streak = sl.streak) ∧
      (sl.state ≠ .qualifying →
        (sl'.state = .usable ∨ sl'.state = .selected) ∧ sl'.usableRun = min 3600 (sl.usableRun + 1) ∧
        sl'.streak = if min 3600 (sl.usableRun + 1) = 3600 then 0 else sl.streak) ∧
      sl'.holdOff = sl.holdOff ∧ sl'.settings = adopted ∧
      (s.sde.selected = none → s.heldMoved t 0 ∧ sl'.tallies = sl.tallies.filter fun x => x.epoch != k)
    let told :=
      ∀ p : Port, s.attached p = true →
        (t.nu.get p).latches.refFault = true ∧
        s.toldThat t p 4 fun r => ∃ slots : Six Bool, r = .refDisqualified slots ∧ slots.get n = true
    (sl.state = .off ∨ sl.state = .disqualified →
      sl' = { sl with settings := adopted, lastValue := sl'.lastValue, queue := sl'.queue, tallies := sl'.tallies }) ∧
    (counting → s.closesEmpty n → sl.faultCount < 3 →
      sl'.emptyRun = min 65535 (sl.emptyRun + 1) ∧ sl'.faultCount = sl.faultCount ∧
      sl'.qualifyCount =
        (if sl.state = .qualifying ∧ adopted.qualify ≤ sl.qualifyCount then adopted.qualify - 1 else sl.qualifyCount) ∧
      sl'.lastFaults = sl.lastFaults ∧ sl'.lastLabel = sl.lastLabel ∧ goesOn) ∧
    (counting → s.closesFaulty n →
      sl'.faultCount = min 3 (sl.faultCount + 1) ∧ sl'.qualifyCount = 0 ∧ sl'.lastLabel = sl.lastLabel ∧
      (marks.marked = true → sl'.emptyRun = 0 ∧ sl'.lastFaults = marks) ∧
      (marks.marked = false →
        sl'.emptyRun = min 65535 (sl.emptyRun + 1) ∧
        sl'.lastFaults = { gate := false, label := false, quality := false, extra := false, stale := true }) ∧
      (sl.faultCount < 2 → goesOn) ∧
      (sl.faultCount = 2 →
        sl'.state = .disqualified ∧ sl'.holdOff = 60 * 2 ^ sl.streak ∧ sl'.streak = min (sl.streak + 1) 4 ∧
        sl'.usableRun = 0 ∧ sl'.lastValue = none ∧ sl'.queue = [] ∧ sl'.tallies = [] ∧
        (n = 0 → t.rmu.targetA = none) ∧ (n = 1 → t.rmu.targetB = none) ∧ told)) ∧
    (sl.state = .halting →
      (s.closesFaulty n → sl.faultCount = 2 → sl'.streak = min (sl.streak + 1) 4 ∧ told) ∧
      (s.closesGood n ∨ s.closesEmpty n ∧ sl.faultCount < 3 ∨ sl.faultCount < 2 → sl'.streak = sl.streak))

/-- A slot whose closing epoch is GOOD has its fault count and empty run at 0, keeps its last faults, and has the epoch's
label, where there is one, as its last label. A USABLE or SELECTED one lengthens its USABLE run. A QUALIFYING one counts it:
at the qualify setting it becomes USABLE with its run risen, and may be selected at once; below it stays QUALIFYING, its
count reduced to one less than a smaller setting adopted. With no slot selected the median of its values is its last epoch
value, and that value and the entries still queued move by the change of cable compensation that is adopted; a new LF nominal
frequency makes last f absent. -/
def Obligations.GoodEpochCounts : Prop :=
  ∀ (s : State) (n : SlotId),
    let sl := s.rmu.slots.get n
    let adopted := (s.tru.config.slots.get n).settings
    s.closeDue = true → (sl.state = .qualifying ∨ sl.state = .usable ∨ sl.state = .selected) → s.closesGood n →
    ∃ t : State,
      exec .epochClose s = .next t ∧
      let sl' := t.rmu.slots.get n
      sl'.faultCount = 0 ∧ sl'.emptyRun = 0 ∧ sl'.lastFaults = sl.lastFaults ∧ sl'.settings = adopted ∧
      sl'.lastLabel =
        (((entriesStamped (s.tsg.seconds - 1) sl.queue).filterMap (·.label)).getLast?).or sl.lastLabel ∧
      (sl.state ≠ .qualifying ∨ sl.settings.qualify ≤ sl.qualifyCount + 1 →
        sl'.usableRun = min 3600 (sl.usableRun + 1) ∧
        sl'.streak = (if min 3600 (sl.usableRun + 1) = 3600 then 0 else sl.streak)) ∧
      (sl.state ≠ .qualifying → sl'.qualifyCount = sl.qualifyCount) ∧
      (sl.state = .qualifying → sl.settings.qualify ≤ sl.qualifyCount + 1 →
        (sl'.state = .usable ∨ sl'.state = .selected ∧ t.sde.selected = some n) ∧
        sl'.qualifyCount = sl.qualifyCount + 1) ∧
      (sl.state = .qualifying → sl.qualifyCount + 1 < sl.settings.qualify →
        sl'.state = .qualifying ∧ sl'.usableRun = 0 ∧ sl'.streak = sl.streak ∧
        sl'.qualifyCount =
          (if adopted.qualify ≤ sl.qualifyCount + 1 then adopted.qualify - 1 else sl.qualifyCount + 1)) ∧
      (s.sde.selected = none →
        (n ≠ 2 →
          let d := adopted.comp - sl.settings.comp
          sl'.lastValue = some (median (s.closingValues n) + d) ∧
          sl'.queue =
            mapEntries (fun e => { e with value := e.value + d }) (dropStamped (s.tsg.seconds - 1) sl.queue)) ∧
        (n = 2 →
          sl'.lastValue =
            (if s.tru.config.lfNominal = s.rmu.lfNominal then some (median (s.closingValues n)) else none) ∧
          sl'.queue = dropStamped (s.tsg.seconds - 1) sl.queue))

/-- An EMPTY or FAULTY epoch of the driving slot, in ACQUIRE or LOCKED, drives a hold update that withdraws the proportional term:
F_app becomes F_int, and F_int, the averages, the LF tracking and the OLS stay. E is set from the slot's last epoch phase as the
close leaves it, so to E_floor where the close disqualifies the slot or ends its halt, and each attached tenant is judged by it; a
loss to FREERUN, or one read from another last selected slot, sets E as ClockFollowsEpochs says. While the selection stands a
FAULTY epoch makes the lock count of ACQUIRE 0, an EMPTY one holds it, and the lock-loss count, the pendings and the mismatch
count hold. An LF slot that shows OFF, or whose halt ends with the slot enabled again or not (log 32), sets LF restart. -/
def Obligations.EmptyAndFaultyEpochsHold : Prop :=
  ∀ (s : State) (n : SlotId),
    s.drivenBy n → (s.sde.clock = .acquire ∨ s.sde.clock = .locked) → (s.closesEmpty n ∨ s.closesFaulty n) →
    (s.rmu.slots.get n).faultCount < 3 →
    ∃ t : State,
      exec .epochClose s = .next t ∧
      let last : Int := if s.losesAt n then 0 else ((s.rmu.slots.get n).lastValue.map mag).getD 0
      let lf := s.rmu.slots.get 2
      t.tsg.fApp = clampCorr s.sde.fInt ∧ t.sde.fInt = s.sde.fInt ∧ t.sde.residual = s.sde.residual ∧
      t.sde.fAvg = s.sde.fAvg ∧ t.sde.fAvgBin = s.sde.fAvgBin ∧ t.sde.bias = s.sde.bias ∧ t.sde.wander = s.sde.wander ∧
      t.sde.lfCount = s.sde.lfCount ∧ t.sde.lfBasis = s.sde.lfBasis ∧ t.ols = s.ols ∧
      t.tsg.seconds = s.tsg.seconds ∧ t.tsg.reRun = s.tsg.reRun ∧ t.tsg.timeValid = s.tsg.timeValid ∧
      t.rmu.lastClosed = s.tsg.seconds - 1 ∧ t.rmu.lfVoid = s.rmu.lfVoid ∧ s.heldMoved t 0 ∧
      (t.sde.selected ≠ none ∨ s.sde.lastSelected = some n ∧ t.sde.clock ≠ .freerun →
        t.sde.e = min (s.tru.config.eFloor + last) 999999999999 ∧ s.judgedIn t) ∧
      (s.losesAt n → t.sde.selected ≠ some n) ∧
      (t.sde.selected ≠ none → t.sde.clock = s.sde.clock ∧ t.sde.lockLoss = s.sde.lockLoss) ∧
      (t.sde.selected = some n →
        t.sde =
          { s.sde with
            lockCount := if s.sde.clock = .acquire ∧ s.closesFaulty n then 0 else s.sde.lockCount
            e := t.sde.e, tol := t.sde.tol, lfRestart := t.sde.lfRestart }) ∧
      t.sde.lfRestart = (s.sde.lfRestart || decide (lf.state = .off ∨ lf.state = .halting))

/-- A GOOD epoch of the driving slot that orders no step drives a full update, in ACQUIRE, in LOCKED, and where it decides a
BRIDGE: p, F_int and F_app take their values, E is the floor plus |e|, for a slot whose halt ends with the epoch too (log 23), and each attached tenant is judged by it, twice where the
clock enters LOCKED, at time valid and at the new E. The update is that of LOCKED where the clock is LOCKED after the drive
stage's transitions, a GOOD epoch beyond the lock threshold that leaves it LOCKED among them: then the residual and the smoothed
integral take their values, F_avg seeded from F_int at the first such update after a start, and while learning is enabled the
result is filed; a GOOD LF epoch f beside it is tracked while the slot does not show OFF, afresh when LF restart is set or the
nominal frequency is not that of the basis, else by the averages b and Q, the LF count rising to 600. In ACQUIRE these stay. A
residual of 0 to 499,999,999,999 ps stays so at an |e| of at most 500,000,000,000 ps (R80). The epoch's label may order a seconds
set, which also clears the day accumulators where the day changes and is told; else the mismatch count follows the label (log 15).
A slot that shows OFF, or whose halt ends (log 32), sets LF restart. Where the slot's halt ends with the epoch, a loss that
follows moves F_app and E on (R71, ClockFollowsEpochs). -/
def Obligations.GoodEpochUpdates : Prop :=
  ∀ (s : State) (n : SlotId),
    let e := median (s.closingValues n)
    let c := s.tru.config.bandwidth
    let fInt := clampCorr (s.sde.fInt + roundDiv e (2 ^ (2 * c + 7)))
    let p := clampAbs s.tru.policy.sRes (roundDiv e (2 ^ (c + 3)))
    s.drivenBy n → s.closesGood n → (s.sde.clock = .acquire ∨ s.sde.clock = .locked ∨ s.sde.clock = .bridge) →
    ¬s.stepsAt e →
    ∃ t : State,
      exec .epochClose s = .next t ∧
      let inLocked := s.updatesLockedAt e
      t.sde.fInt = fInt ∧ t.tsg.fApp = clampCorr (if t.sde.clock = .bridge then fInt else fInt + p) ∧
      t.tsg.reRun = s.tsg.reRun ∧ s.heldMoved t 0 ∧
      (t.sde.selected ≠ none →
        t.sde.clock = (if inLocked then .locked else .acquire) ∧
        t.sde.e = min (s.tru.config.eFloor + mag e) 999999999999 ∧
        (s.locksAt e → s.judgedTwiceIn t) ∧ (¬s.locksAt e → s.judgedIn t)) ∧
      (inLocked →
        t.sde.residual = s.sde.residual + roundDiv (mag e - s.sde.residual) 16 ∧
        t.sde.fAvg =
          (if s.locksAt e ∧ s.sde.lockedSinceStart = false then fInt
          else s.sde.fAvg + roundDiv (fInt - s.sde.fAvg) 64) ∧
        t.sde.fAvgBin = s.currentBin) ∧
      (mag e ≤ 500000000000 → 0 ≤ s.sde.residual → s.sde.residual ≤ 499999999999 →
        0 ≤ t.sde.residual ∧ t.sde.residual ≤ 499999999999) ∧
      (¬inLocked → t.sde.residual = s.sde.residual ∧ t.sde.fAvg = s.sde.fAvg ∧ t.sde.fAvgBin = s.sde.fAvgBin) ∧
      (inLocked → mag e ≤ s.tru.config.lockThreshold → t.sde.lockLoss = 0) ∧
      (let learns :=
        s.spm.oven = .settled ∧ s.spm.soak = 0 ∧ s.ols.sensorFault = false ∧ s.spm.power = .run
       let filed : Ols :=
        match s.ols.theta with
        | some θ => if inLocked ∧ learns then s.ols.fileResult fInt θ else s.ols
        | none => s.ols
       let k := s.tsg.seconds - 1
       let label := ((entriesStamped k (s.rmu.slots.get n).queue).filterMap (·.label)).getLast?
       let valid : Bool := s.tsg.timeValid || decide (s.locksAt e)
       (t.sde.selected = s.sde.selected →
        t.sde.labelMismatch =
          (if label = none ∨ valid = false then s.sde.labelMismatch
          else if label = some k ∨ 2 ≤ s.sde.labelMismatch then 0
          else s.sde.labelMismatch + 1)) ∧
       (t.sde.selected ≠ s.sde.selected → t.sde.labelMismatch = 0) ∧
       (s.settingLabel n valid = none →
        t.tsg.seconds = s.tsg.seconds ∧ t.ols = filed ∧ t.rmu.lastClosed = k ∧ t.rmu.lfVoid = s.rmu.lfVoid) ∧
       ∀ l : Seconds, s.settingLabel n valid = some l →
        t.tsg.seconds = l + 1 ∧ t.rmu.lastClosed = l ∧ t.rmu.lfVoid = true ∧
        t.ols =
          (if s.tsg.seconds.toNat / 86400 = (l + 1).toNat / 86400 then filed
          else { filed with dayLocked := 0, dayCorr := 0, dayTemp := 0 }) ∧
        ∀ p : Port, s.attached p = true →
          (t.nu.get p).latches.stepped = true ∧ s.told t p (.secondsSet (l + 1))) ∧
      let lf := s.rmu.slots.get 2
      let showsOff := lf.state = .off ∨ lf.state = .halting ∧ (s.tru.config.slots.get 2).enable = false
      let tracked := inLocked ∧ lf.state ≠ .disqualified ∧ ¬showsOff ∧ s.closesGood 2
      let f := median (s.closingValues 2)
      let afresh := s.sde.lfRestart = true ∨ s.sde.lfBasis ≠ s.rmu.lfNominal
      (tracked → afresh →
        t.sde.bias = f ∧ t.sde.wander = 0 ∧ t.sde.lfCount = 1 ∧ t.sde.lfBasis = s.rmu.lfNominal) ∧
      (tracked → ¬afresh →
        let b := s.sde.bias + roundDiv (f - s.sde.bias) 64
        t.sde.bias = b ∧ t.sde.wander = s.sde.wander + roundDiv (mag (f - b) - s.sde.wander) 64 ∧
        t.sde.lfCount = min 600 (s.sde.lfCount + 1) ∧ t.sde.lfBasis = s.sde.lfBasis) ∧
      (¬tracked →
        t.sde.bias = s.sde.bias ∧ t.sde.wander = s.sde.wander ∧ t.sde.lfCount = s.sde.lfCount ∧
        t.sde.lfBasis = s.sde.lfBasis) ∧
      (showsOff ∨ lf.state = .halting → t.sde.lfRestart = true) ∧
      (¬showsOff → lf.state ≠ .halting →
        (tracked → t.sde.lfRestart = false) ∧ (¬tracked → t.sde.lfRestart = s.sde.lfRestart))

/-- A driving GOOD epoch orders a phase step of e in ACQUIRE, or where it leaves LOCKED or BRIDGE for it: by a pending
STEP_NOW, whatever the step threshold and the permission, where e is not 0; or by the step decision, when |e| exceeds the
step threshold and steps are permitted or time is not valid. Site time moves by e, limited, from where the close finds it
(at250, the model's own advance to the close instant, log 3), the second falling by one where that crosses its start; a
seconds set ordered by the epoch's label follows in the same change. The phase slots' last epoch phases and queued phases
move by the step, before settings are adopted, and the next LF observation is void. F_int is unchanged, both lock counts are
0 and the pendings are cleared, each attached tenant is judged by the new E, its STEPPED latch is set, and it is told. The
ranges of s are an invariant (StepKeepsValuesInRange). -/
def Obligations.StepDecisionAndStepNowStep : Prop :=
  ∀ (s : State) (n : SlotId),
    let e := median (s.closingValues n)
    s.drivenBy n → s.closesGood n → s.stepsAt e → s.valuesInRange → s.tsg.phase ≤ 250000000000 →
    let d := max (-499999999999) (min 499999999999 e)
    let at250 := (s.advanceToPhase 250000000000).tsg.phase
    ∃ t : State,
      exec .epochClose s = .next t ∧
      (t.tsg.phase : Int) = (at250 + d) % 1000000000000 ∧
      t.tsg.reRun = (s.tsg.reRun || decide ((at250 : Int) + d < 0)) ∧
      t.sde.fInt = s.sde.fInt ∧ t.tsg.fApp = s.sde.fInt ∧ t.sde.lockCount = 0 ∧ t.sde.lockLoss = 0 ∧
      t.sde.stepNow = false ∧ (t.sde.selected = some n → t.sde.stepDecisionPending = false) ∧
      (t.sde.selected ≠ none →
        t.sde.clock = .acquire ∧ t.sde.e = min (s.tru.config.eFloor + mag e) 999999999999 ∧ s.judgedIn t) ∧
      t.sde.residual = s.sde.residual ∧ t.sde.fAvg = s.sde.fAvg ∧ t.sde.fAvgBin = s.sde.fAvgBin ∧
      t.sde.bias = s.sde.bias ∧ t.sde.wander = s.sde.wander ∧ t.sde.lfCount = s.sde.lfCount ∧
      t.rmu.lfVoid = true ∧
      (∀ p : Port, s.attached p = true → (t.nu.get p).latches.stepped = true ∧ s.told t p (.phaseStep d)) ∧
      let k := s.tsg.seconds - 1
      let left := if (at250 : Int) + d < 0 then k else s.tsg.seconds
      let set := (s.settingLabel n s.tsg.timeValid).map fun l => l + (left - k)
      t.tsg.seconds = set.getD left ∧ t.rmu.lastClosed = k + ((set.getD left) - left) ∧
      t.ols =
        (if left.toNat / 86400 = (set.getD left).toNat / 86400 then s.ols
        else { s.ols with dayLocked := 0, dayCorr := 0, dayTemp := 0 }) ∧
      (∀ v, set = some v → ∀ p : Port, s.attached p = true → s.told t p (.secondsSet v)) ∧
      s.heldMoved t d

/-! ## Learning, configuration and resolution -/

/-- The aging slope follows from the end records of the ring: with two records or more and a span of two days or more it is
the rounded slope, clamped to ±1,000, and established; in every other case it is 0 and not established. -/
def Obligations.AgingSlopeFromEndRecords : Prop :=
  ∀ ring : List DayRecord,
    (ring.length < 2 → agingOf ring = (0, false)) ∧
    ∀ o n : DayRecord, ring.head? = some o → ring.getLast? = some n → 2 ≤ ring.length →
      (n.day < o.day + 2 → agingOf ring = (0, false)) ∧
      (o.day + 2 ≤ n.day →
        agingOf ring =
          (max (-1000) (min 1000 (roundDiv (n.meanCorr - o.meanCorr) (n.day - o.day))), true))

/-- A locked result filed in its bin moves the bin's count, mean and spread by R93, which keeps the mean in the range of F_app and the
spread at 0 or more, and the day accumulators by R94; every other bin is unchanged. -/
def Obligations.ResultFiledInBin : Prop :=
  ∀ (o : Ols) (f θ : Int),
    let old := o.bins.get (binOf θ)
    let n := min 65535 (old.count + 1)
    let w := min n 64
    let new := (o.fileResult f θ).bins.get (binOf θ)
    new.count = n ∧ new.mean = old.mean + roundDiv (f - old.mean) w ∧
    new.spread = (if old.count = 0 then 0 else old.spread + roundDiv (mag (f - old.mean) - old.spread) w) ∧
    (old.count = 0 → new.mean = f) ∧
    (-20000000 ≤ old.mean → old.mean ≤ 20000000 → -20000000 ≤ f → f ≤ 20000000 →
      -20000000 ≤ new.mean ∧ new.mean ≤ 20000000) ∧
    (0 ≤ old.spread → 0 ≤ new.spread) ∧
    (∀ b : BinId, b ≠ binOf θ → (o.fileResult f θ).bins.get b = o.bins.get b) ∧
    (o.dayLocked < 86400 →
      (o.fileResult f θ).dayLocked = o.dayLocked + 1 ∧ (o.fileResult f θ).dayCorr = o.dayCorr + f ∧
      (o.fileResult f θ).dayTemp = o.dayTemp + θ) ∧
    (86400 ≤ o.dayLocked →
      (o.fileResult f θ).dayLocked = o.dayLocked ∧ (o.fileResult f θ).dayCorr = o.dayCorr ∧
      (o.fileResult f θ).dayTemp = o.dayTemp)

/-- The items of a CONFIGURE take their results by Table 7-6, one after the other. An unknown identifier, a per-slot setting with
slot byte 6 or more, and cable compensation of slot 2 are IGNORED. A numeric item of any setting takes its value, or the nearer
end of its range with CLAMPED. An on or off item takes 0 or 1, an interval item a supported interval, and any other value is
IGNORED. The settings of a slot reach the RMU later (R22), but a changed enable acts on the slot at once by Table 2-3 (log 31). -/
def Obligations.ConfigItemsByTable : Prop :=
  ∀ (s : State) (final : Nat) (slot : Byte) (v : BitVec 32) (setting : Byte),
    let run := fun id : Byte => s.configureItem final ⟨id, slot, v⟩
    let c := s.tru.config
    let put := fun c' : SiteConfig => { s with tru := { s.tru with config := c' } }
    let held := fun lo hi : Int => max lo (min hi v.toInt)
    let code := fun lo hi : Int => if lo ≤ v.toInt ∧ v.toInt ≤ hi then OutcomeCode.ok else .clamped
    let putSlot := fun (n : SlotId) (x : SlotSettings) =>
      put { c with slots := c.slots.set n { c.slots.get n with settings := x } }
    (State.configureItems final [] s = (s, []) ∧
      ∀ (i : ConfigItem) (is : List ConfigItem),
        let r := s.configureItem final i
        let rs := r.1.configureItems final is
        s.configureItems final (i :: is) = (rs.1, r.2 :: rs.2)) ∧
    (setting.toNat = 0 ∨ 7 ≤ setting.toNat ∧ setting.toNat ≤ 15 ∨ 0x19 ≤ setting.toNat ∧ setting.toNat ≤ 0x1F ∨
        0x23 ≤ setting.toNat → run setting = (s, .ignored)) ∧
    (1 ≤ setting.toNat → setting.toNat ≤ 6 → 6 ≤ slot.toNat → run setting = (s, .ignored)) ∧
    s.configureItem final ⟨0x04, 2, v⟩ = (s, .ignored) ∧
    (∀ n : SlotId, slot.toNat = n.val →
      let x := (c.slots.get n).settings
      let gateMost : Int := if n = 2 then 10000000 else 100000000
      run 0x02 = (putSlot n { x with priority := (held 0 15).toNat }, code 0 15) ∧
      run 0x03 = (putSlot n { x with gate := held 1000 gateMost }, code 1000 gateMost) ∧
      (n ≠ 2 → run 0x04 = (putSlot n { x with comp := held (-1000000) 1000000 }, code (-1000000) 1000000)) ∧
      run 0x05 = (putSlot n { x with qualify := (held 1 600).toNat }, code 1 600) ∧
      run 0x06 = (putSlot n { x with freshness := (held 1 60).toNat }, code 1 60)) ∧
    run 0x10 = (put { c with lfNominal := (held 8000 25000000).toNat }, code 8000 25000000) ∧
    run 0x11 = (put { c with bandwidth := (held 0 7).toNat }, code 0 7) ∧
    run 0x12 = (put { c with lockThreshold := held 10000 10000000 }, code 10000 10000000) ∧
    run 0x13 = (put { c with stepThreshold := held 100000 100000000 }, code 100000 100000000) ∧
    run 0x14 = (put { c with bridgeTime := (held 0 600).toNat }, code 0 600) ∧
    (v.toInt = 0 → run 0x15 = (put { c with revertive := false }, .ok)) ∧
    (v.toInt = 1 → run 0x15 = (put { c with revertive := true }, .ok)) ∧
    (v.toInt ≠ 0 → v.toInt ≠ 1 → run 0x15 = (s, .ignored) ∧ run 0x01 = (s, .ignored)) ∧
    run 0x16 = (put { c with waitToRestore := (held 1 600).toNat }, code 1 600) ∧
    run 0x17 = (put { c with sigmaFloor := held 1 10000 }, code 1 10000) ∧
    run 0x18 = (put { c with eFloor := held 0 1000000 }, code 0 1000000) ∧
    run 0x20 =
      (if v.toInt ∈ ([1, 2, 4, 5, 8, 10, 20, 25, 40, 50, 100, 125, 200, 250, 500, 1000] : List Int) then
        (put { c with out3Interval := v.toInt.toNat }, .ok)
      else (s, .ignored)) ∧
    (1 ≤ final → run 0x21 = (put { c with out3Width := (held 1 (final * 5000)).toNat }, code 1 (final * 5000))) ∧
    run 0x22 = (put { c with out3Offset := held (-1000000000) 1000000000 }, code (-1000000000) 1000000000) ∧
    ∀ (n : SlotId) (on : Bool), slot.toNat = n.val → v.toInt = (if on then 1 else 0) →
      ((c.slots.get n).enable = on → run 0x01 = (s, .ok)) ∧
      ((c.slots.get n).enable ≠ on → ∃ t : State,
        run 0x01 = (t, .ok) ∧
        let sl := s.rmu.slots.get n
        t =
          { put { c with slots := c.slots.set n { c.slots.get n with enable := on } } with
            nu := t.nu
            rmu :=
              { s.rmu with
                slots :=
                  s.rmu.slots.set n
                    (match on, sl.state with
                    | true, .off =>
                      { sl with state := .qualifying, faultCount := 0, qualifyCount := 0, emptyRun := 0, usableRun := 0 }
                    | false, .qualifying => { sl with state := .halting, queue := sl.queue ++ [.haltMark] }
                    | false, .usable => { sl with state := .halting, queue := sl.queue ++ [.haltMark] }
                    | false, .selected => { sl with state := .halting, queue := sl.queue ++ [.haltMark] }
                    | false, .disqualified => { sl with state := .off, holdOff := 0, lastValue := none }
                    | _, _ => sl) } } ∧
        ∀ p : Port,
          t.nu.get p =
            (if on = false ∧ sl.state = .disqualified ∧ s.attached p = true then
              (s.nu.get p).file (.refHalted ((Six.fill false).set n true))
            else s.nu.get p))

/-- The resolved policy permits steps when every attached tenant allows them, holds the smallest advertised slew limit and
limit, and wishes common squelch when any tenant does; with no tenant attached it holds the no-tenant values. -/
def Obligations.ResolutionIsMostCareful : Prop :=
  ∀ ts : Three Tenant,
    let p := resolvedPolicy ts
    ((∀ t : Port, (ts.get t).attached = false) →
      p = { stepsPermitted := true, sRes := 10000000, lCom := 1100000, squelch := false }) ∧
    ((∃ t : Port, (ts.get t).attached = true) →
      (p.stepsPermitted = true ↔ ∀ t : Port, (ts.get t).attached = true → (ts.get t).adv.allow = true) ∧
      (p.squelch = true ↔ ∃ t : Port, (ts.get t).attached = true ∧ (ts.get t).adv.squelch = true) ∧
      (∀ t : Port, (ts.get t).attached = true → p.sRes ≤ (ts.get t).adv.slew ∧ p.lCom ≤ (ts.get t).adv.limit) ∧
      (∃ t : Port, (ts.get t).attached = true ∧ p.sRes = (ts.get t).adv.slew) ∧
      ∃ t : Port, (ts.get t).attached = true ∧ p.lCom = (ts.get t).adv.limit)

/-! ## Inputs -/

/-- PULSE: site time advances by the cycles given (log 3), and in RUN the pulse is discarded, an EXTRA or GATE fault, or an entry, by
the epoch and phase of R23: the epoch's tally takes the fault beside the kinds it holds and counts the pulse, and the tallies of
other epochs stay. During a start it changes nothing (log 18); out of RUN only site time moves. -/
def Obligations.PulseIsTaken : Prop :=
  ∀ (s : State) (p : PulseInput) (cycles : Nat),
    (s.inStart = true → exec (.pulse p cycles) s = .next s) ∧
    (s.inStart = false → s.spm.power ≠ .run → exec (.pulse p cycles) s = .next (s.advanceCycles cycles)) ∧
    (s.inService = true →
      let a := s.advanceCycles cycles
      let sl := s.rmu.slots.get (pulseSlot p)
      let x : Int := (a.tsg.phase : Int) - sl.settings.comp
      let k : Seconds := if x ≤ 500000000000 then a.tsg.seconds else a.tsg.seconds + 1
      let e : Int := if x ≤ 500000000000 then -x else 1000000000000 - x
      let taken := sl.state = .qualifying ∨ sl.state = .usable ∨ sl.state = .selected
      let open' := s.rmu.isOpen k = true
      let extra := 1 ≤ (tallyOf k sl.tallies).pulses
      let gate := ∃ l, sl.lastValue = some l ∧ sl.settings.gate < mag (e - l)
      (¬taken ∨ ¬open' → exec (.pulse p cycles) s = .next a) ∧
      (taken → open' → ∃ t : State,
        exec (.pulse p cycles) s = .next t ∧ t = { a with rmu := t.rmu } ∧
        (∀ n : SlotId, n ≠ pulseSlot p → t.rmu.slots.get n = s.rmu.slots.get n) ∧
        (∀ q : PulseInput, q ≠ p → t.rmu.target q = s.rmu.target q) ∧
        t.rmu = { s.rmu with slots := t.rmu.slots, targetA := t.rmu.targetA, targetB := t.rmu.targetB } ∧
        let sl' := t.rmu.slots.get (pulseSlot p)
        let was := tallyOf k sl.tallies
        (extra →
          tallyOf k sl'.tallies = { epoch := k, pulses := was.pulses + 1, faults := { was.faults with extra := true } }) ∧
        (¬extra → gate →
          tallyOf k sl'.tallies = { epoch := k, pulses := was.pulses + 1, faults := { was.faults with gate := true } }) ∧
        (¬extra → ¬gate → tallyOf k sl'.tallies = { epoch := k, pulses := was.pulses + 1, faults := was.faults }) ∧
        (∀ j : Seconds, j ≠ k → tallyOf j sl'.tallies = tallyOf j sl.tallies) ∧
        (extra →
          sl' = { sl with tallies := markTally k { extra := true } 1 sl.tallies } ∧
          t.rmu.target p = some ⟨k, false, none⟩) ∧
        (¬extra → gate →
          sl' = { sl with tallies := markTally k { gate := true } 1 sl.tallies } ∧
          t.rmu.target p = some ⟨k, false, none⟩) ∧
        (¬extra → ¬gate →
          sl' =
            { sl with queue := sl.queue ++ [.entry ⟨k, e, none, none⟩], tallies := markTally k {} 1 sl.tallies } ∧
          t.rmu.target p = some ⟨k, true, none⟩)))

/-- LABEL_MESSAGE: a damaged message is discarded; one received whole is discarded, recorded on a target with no entry, a
QUALITY or LABEL fault that takes its entry from the queue, or attached to the entry. During a start nothing is taken
(log 18). -/
def Obligations.LabelIsJudged : Prop :=
  ∀ (s : State) (p : PulseInput) (label : Seconds) (fix : Bool),
    let sl := s.rmu.slots.get (pulseSlot p)
    exec (.labelMessage p .damaged) s = .next s ∧
    (s.inService = false ∨ s.rmu.target p = none → exec (.labelMessage p (.whole label fix)) s = .next s) ∧
    ∀ x : LabelTarget, s.inService = true → s.rmu.target p = some x →
      ((sl.state = .off ∨ sl.state = .halting ∨ sl.state = .disqualified) ∨ s.rmu.isOpen x.epoch = false ∨
          x.label ≠ none →
        exec (.labelMessage p (.whole label fix)) s = .next s) ∧
      ((sl.state = .qualifying ∨ sl.state = .usable ∨ sl.state = .selected) → s.rmu.isOpen x.epoch = true →
        x.label = none → ∃ t : State,
        exec (.labelMessage p (.whole label fix)) s = .next t ∧ t = { s with rmu := t.rmu } ∧
        t.rmu.target p = some { x with label := some label } ∧
        (∀ n : SlotId, n ≠ pulseSlot p → t.rmu.slots.get n = s.rmu.slots.get n) ∧
        (∀ q : PulseInput, q ≠ p → t.rmu.target q = s.rmu.target q) ∧
        t.rmu = { s.rmu with slots := t.rmu.slots, targetA := t.rmu.targetA, targetB := t.rmu.targetB } ∧
        let sl' := t.rmu.slots.get (pulseSlot p)
        let mismatch := s.tsg.timeValid = true ∧ sl.state ≠ .selected ∧ label ≠ x.epoch
        (x.hasEntry = false → sl' = sl) ∧
        (x.hasEntry = true → fix = false →
          sl' =
            { sl with
              queue := dropStamped x.epoch sl.queue, tallies := markTally x.epoch { quality := true } 0 sl.tallies }) ∧
        (x.hasEntry = true → fix = true → mismatch →
          sl' =
            { sl with
              queue := dropStamped x.epoch sl.queue, tallies := markTally x.epoch { label := true } 0 sl.tallies }) ∧
        (x.hasEntry = true → fix = true → ¬mismatch →
          sl' =
            { sl with
              queue :=
                mapEntries (fun e => if e.stamp = x.epoch then { e with label := some label } else e) sl.queue }))

/-- SENSOR_READ_DONE ends the read in progress: a valid sample sets the smoothed temperature by Table 5-2 and clears a fault;
a failed sample raises the failure count, and the tenth sets the fault flag; each change of the flag posts SENSOR_FAULT. With
no read in progress it changes nothing (log 4); θs absent with the flag at FAULT is log 17. A raised boundary starts a read:
one still in progress there is abandoned as a failed sample, with all that a failed sample does, and with none in progress
the sensor's state is else as it was. -/
def Obligations.SensorReadEnds : Prop :=
  ∀ (s : State) (read : SensorResult),
    (∀ line : LineClock, s.raises → ∃ t : State,
      exec (.epochBoundary line) s = .next t ∧ t.ols.reading = true ∧
      t.ols.theta = s.ols.theta ∧ t.ols.lastSample = s.ols.lastSample ∧
      let n := min 10 (s.ols.failures + 1)
      (s.ols.reading = false → t.ols.failures = s.ols.failures ∧ t.ols.sensorFault = s.ols.sensorFault) ∧
      (s.ols.reading = true →
        t.ols.failures = n ∧ t.ols.sensorFault = (s.ols.sensorFault || decide (n = 10)) ∧
        (n = 10 → s.ols.sensorFault = false → ∀ p : Port, s.told t p (.sensorFault true)))) ∧
    (s.ols.reading = false → exec (.sensorReadDone read) s = .next s) ∧
    (s.inStart = false → s.ols.reading = true → ∃ t : State,
      exec (.sensorReadDone read) s = .next t ∧ t = { s with ols := t.ols, nu := t.nu } ∧
      (∀ θ : Int, read = .value θ → -880 ≤ θ → θ ≤ 2000 →
        t.ols =
          { s.ols with
            reading := false, lastSample := some θ, failures := 0, sensorFault := false
            theta :=
              match s.ols.theta with
              | none => some θ
              | some old => if s.ols.sensorFault then some θ else some (old + roundDiv (θ - old) 8) } ∧
        ∀ p : Port,
          t.nu.get p =
            (if s.attached p = true ∧ s.ols.sensorFault = true then (s.nu.get p).file (.sensorFault false)
            else s.nu.get p)) ∧
      ((read = .noAnswer ∨ ∃ θ : Int, read = .value θ ∧ (θ < -880 ∨ 2000 < θ)) →
        t.ols =
          { s.ols with
            reading := false
            failures := min 10 (s.ols.failures + 1)
            sensorFault := s.ols.sensorFault || decide (min 10 (s.ols.failures + 1) = 10) } ∧
        ∀ p : Port,
          t.nu.get p =
            (if s.attached p = true ∧ s.ols.sensorFault = false ∧ min 10 (s.ols.failures + 1) = 10 then
              (s.nu.get p).file (.sensorFault true)
            else s.nu.get p)))

/-- WRITE_COMPLETION: the store reports the write in progress. When the first phase has been written the copy in the store is
invalid and the content is written next; when that has been written the copy holds it, still invalid, and the integrity word is
written. The end of the last phase, or of all that was left, is an OK
write and leaves a valid copy of its content; an error leaves an invalid copy and RETAINED_FAULT; and the writer acts by Table
5-8. With no write in progress it changes nothing (log 4). That the command reports the phases is log 8; the words summed are
log 9. -/
def Obligations.WriteCompletes : Prop :=
  ∀ (s : State) (result : StoreResult),
    (s.ols.writing = none → exec (.writeCompletion result) s = .next s) ∧
    ∀ w : RetainedWrite, s.inStart = false → s.ols.writing = some w →
      let ends := result ≠ .phaseWritten ∨ w.phase = .integrity
      (¬ends → ∃ t : State,
        exec (.writeCompletion result) s = .next t ∧
        t = { s with ols := { s.ols with store := t.ols.store, writing := t.ols.writing } } ∧
        t.ols.writing = some { w with phase := if w.phase = .invalidate then .content else .integrity } ∧
        (w.phase = .invalidate → t.ols.store = s.ols.store.map fun r => { r with integrity := none }) ∧
        (w.phase = .content → t.ols.store = some { format := 0x5A34, content := w.content, integrity := none })) ∧
      (ends → ∃ t : State,
        exec (.writeCompletion result) s = .next t ∧ t = { s with ols := t.ols, nu := t.nu } ∧
        t.ols.lastWrite = (if result = .failed then .failed else .ok) ∧
        (result ≠ .failed →
          (∃ r i, t.ols.store = some r ∧ r.content = w.content ∧ r.format = 0x5A34 ∧ r.integrity = some i ∧
            wordSum (r.format :: r.content.words) + i = 0xFFFF) ∧ t.nu = s.nu) ∧
        (result = .failed →
          t.ols.store = s.ols.store.map (fun r => { r with integrity := none }) ∧
          ∀ p : Port,
            t.nu.get p =
              (if s.attached p = true then (s.nu.get p).file (.retainedFault s.ols.retryDue) else s.nu.get p)) ∧
        t.ols.rewritePending = false ∧
        t.ols.retryDue = (decide (result = .failed) && !s.ols.rewritePending && !s.ols.retryDue) ∧
        t.ols.writing =
          (if s.ols.rewritePending = true ∨ result = .failed ∧ s.ols.retryDue = false then
            some { content := s.retainedContent, phase := .invalidate }
          else none))

/-! ## Outputs -/

/-- PULSE_INSTANT of an output that acts: at the instant that the latest cycle passed and that is not yet acted on, or else at the
next instant of this second, to which site time advances (log 3), the output becomes SQUELCHED with no pulse while its squelch
condition holds, else ACTIVE with a pulse of its width counted from the instant, and OUTPUT_SQUELCH is posted on the changes of
Table 8-4. With no instant left in this second, and of an output that does not act, it changes nothing. PULSE_WIDTH_END of a
pulse whose remaining width ends within this second: site time advances over it and the pin goes low; the output's records and
state stay (log 3). With no pulse in progress it changes nothing (log 4). -/
def Obligations.PulsesBeginAndEnd : Prop :=
  ∀ (s : State) (o : OutId),
    let next := cyclesToInstant s.tsg (s.pou.get o).current
    (s.actsAtInstants o = false → exec (.pulseInstant o) s = .next s) ∧
    ((s.pou.get o).passed = none → fitsInSecond s.tsg next = false → exec (.pulseInstant o) s = .next s) ∧
    (∀ (a : State) (past : Nat), s.actsAtInstants o = true →
      ((s.pou.get o).passed = some past ∧ a = s ∨
        (s.pou.get o).passed = none ∧ fitsInSecond s.tsg next = true ∧ a = s.advanceCycles next ∧
        past = pastInstant a.tsg (s.pou.get o).current) →
      ∃ t : State,
        exec (.pulseInstant o) s = .next t ∧ t = { a with pou := t.pou, nu := t.nu } ∧
        (∀ q : OutId, q ≠ o → t.pou.get q = a.pou.get q) ∧
        ((s.pou.get o).passed = none → s.timeInRange → 1 ≤ (s.pou.get o).current.interval →
          past < s.tsg.cycleAdvance) ∧
        let old := s.pou.get o
        let new := t.pou.get o
        let holds : Bool :=
          match ownerOf o with
          | some p =>
            match old.current.mode with
            | .none => false
            | .invalid => !s.tsg.timeValid
            | .tolerance => !s.sde.tol.get p
          | none => !s.tsg.timeValid || (s.tru.policy.squelch && decide (s.tru.policy.lCom < s.sde.e))
        new.current = old.current ∧ new.pending = old.pending ∧ new.resumeWait = old.resumeWait ∧ new.passed = none ∧
        new.state = (if holds then .squelched else .active) ∧
        (holds = true → new.pulseLeft = (a.pou.get o).pulseLeft) ∧
        (holds = false →
          new.pulseLeft =
            some (min old.current.width (old.current.interval * 5000) * 100000 * unitsPerPs - past)) ∧
        ∀ p : Port,
          t.nu.get p =
            (if s.attached p = true ∧ (ownerOf o = none ∨ ownerOf o = some p) ∧ old.state ≠ new.state ∧
                ¬(old.state = .disabled ∧ new.state = .active) then
              (s.nu.get p).file (squelchReport o new.state)
            else s.nu.get p)) ∧
    ((s.pou.get o).pulseLeft = none → exec (.pulseWidthEnd o) s = .next s) ∧
    ∀ u : Nat, (s.pou.get o).pulseLeft = some u →
      let a := s.advanceCycles (ceilDiv u s.tsg.cycleAdvance)
      (fitsInSecond s.tsg (ceilDiv u s.tsg.cycleAdvance) = false → exec (.pulseWidthEnd o) s = .next s) ∧
      (fitsInSecond s.tsg (ceilDiv u s.tsg.cycleAdvance) = true → ∃ t : State,
        exec (.pulseWidthEnd o) s = .next t ∧ t = { a with pou := t.pou } ∧
        t.pou.get o = { s.pou.get o with pulseLeft := none, passed := (a.pou.get o).passed } ∧
        ∀ q : OutId, q ≠ o → t.pou.get q = a.pou.get q)

/-- SET_OUTPUT takes the request field by field into the pending record by Table 8-2, with its overall outcome; an unknown
squelch mode code is BAD_VALUE and leaves the pending record as it was (its body is log 11). -/
def Obligations.SetOutputTakesFields : Prop :=
  ∀ (s : State) (t : Port) (tag : Word16) (f : OutputFields),
    s.takesAttached t →
    let o := s.pou.get (tenantOut t)
    let base := o.pending.getD o.current
    let listed := supportedIntervals.contains f.interval.toNat
    let interval := if listed then f.interval.toNat else base.interval
    let width := max 1 (min (interval * 5000) f.width.toNat)
    let offset := max (-1000000000) (min 1000000000 f.offset.toInt)
    (2 < f.mode.toNat →
      exec (.setOutput t tag f) s =
        .next (s.beginResponse t 0x1A tag ⟨.badValue, .output [] o.pending o.current o.state⟩)) ∧
    ∀ mode : SquelchMode, mode.code = f.mode → 1 ≤ interval →
      let r : OutputRecord :=
        { enable := decide (f.enable ≠ 0), interval := interval, width := width, offset := offset, mode := mode }
      let results : List OutcomeCode :=
        [.ok, if listed then .ok else .ignored, if width = f.width.toNat then .ok else .clamped,
          if offset = f.offset.toInt then .ok else .clamped, .ok]
      let overall : OutcomeCode :=
        if listed = false then .ignored
        else if width ≠ f.width.toNat ∨ offset ≠ f.offset.toInt then .clamped
        else .ok
      exec (.setOutput t tag f) s =
        .next
          ({ s with pou := s.pou.set (tenantOut t) { o with pending := some r } }.beginResponse t 0x1A tag
            ⟨overall, .output results (some r) o.current o.state⟩)

/-! ## Posting -/

/-- A posting is filed for each named tenant that is attached and for no other: while frozen into the pending set, else into
the notice set when its kind is enabled in the mask, and else it is forgotten. A notice that finds none of its kind in a set joins
it in kind order. One that finds its kind is merged into it: the counts add up to at most 255, and the report is the newer one, or
the union of the slots or of the outputs, an output named in both taking the newer state. -/
def Obligations.PostingIsFiled : Prop :=
  ∀ (s : State) (named : Port → Bool) (r : Report) (p : Port),
    let n := s.nu.get p
    let n' := (s.post named r).nu.get p
    (s.attached p = false ∨ named p = false → n' = n) ∧
    (s.attached p = true → named p = true →
      (n.frozen = true → n' = { n with pending := fileNotice ⟨r, 1⟩ n.pending }) ∧
      (n.frozen = false → n.mask.getLsbD r.kind = true → n' = { n with notices := fileNotice ⟨r, 1⟩ n.notices }) ∧
      (n.frozen = false → n.mask.getLsbD r.kind = false → n' = n)) ∧
    ∀ (x : Notice) (before after : List Notice), (∀ y ∈ before, y.kind < x.kind) →
      ((∀ y ∈ after, x.kind < y.kind) → fileNotice x (before ++ after) = before ++ x :: after) ∧
      ∀ y : Notice, y.kind = x.kind → ∃ z : Notice,
        fileNotice x (before ++ y :: after) = before ++ z :: after ∧ z.count = min 255 (y.count + x.count) ∧
        match y.report, x.report with
        | .refDisqualified a, .refDisqualified b =>
          ∃ u : Six Bool, z.report = .refDisqualified u ∧ ∀ n : SlotId, u.get n = (a.get n || b.get n)
        | .refHalted a, .refHalted b =>
          ∃ u : Six Bool, z.report = .refHalted u ∧ ∀ n : SlotId, u.get n = (a.get n || b.get n)
        | .outputSquelch a, .outputSquelch b =>
          ∃ u : Four (Option OutputState),
            z.report = .outputSquelch u ∧ ∀ o : OutId, u.get o = if (b.get o).isSome then b.get o else a.get o
        | _, newer => z.report = newer

/-! ## Power and oven lines -/

/-- MAINS_GOOD_FALLS in RUN enters KEEPALIVE, or COLDKEEP with the oven off while BATT_LOW is high: every tenant is detached, the
policy comes to the no-tenant values and the pending action is WITHDRAWN, the ports are IDLE, the selection ends and the clock
goes to HOLDOVER or FREERUN with its anchor and E, each slot that is neither OFF nor DISQUALIFIED returns to QUALIFYING or OFF
with its counters 0, the loop values and averages stay, the pins are low, a retained write of what the part retains is requested
and a new summary is opened. Out of RUN, and during a start (log 18), the level alone changes. -/
def Obligations.MainsFailureEntersKeepAlive : Prop :=
  ∀ s : State,
    (s.inService = false → exec .mainsGoodFalls s = .next { s with pins := { s.pins with mainsGood := false } }) ∧
    (s.inService = true → ∃ t : State,
    exec .mainsGoodFalls s = .next t ∧
    t.pins = { s.pins with mainsGood := false } ∧ t.tsg = s.tsg ∧ t.pending = s.pending ∧ t.freeIndex = s.freeIndex ∧
    t.spm =
      { s.spm with
        power := t.spm.power, oven := t.spm.oven, summary := t.spm.summary
        warmUp := if s.pins.battLow then 0 else s.spm.warmUp
        soak := if s.pins.battLow then 0 else s.spm.soak
        ovenFault := !s.pins.battLow && s.spm.ovenFault } ∧
    t.spm.power = (if s.pins.battLow then .coldkeep else .keepalive) ∧
    t.spm.oven = (if s.pins.battLow then .off else s.spm.oven) ∧
    t.spm.summary =
      some
        { beganAtStart := false, entrySeconds := s.tsg.seconds, boundaries := 0, coldBoundaries := 0
          coldEntries := if s.pins.battLow then 1 else 0, ovenFaultSeen := s.spm.ovenFault, ended := false } ∧
    (∀ p : Port,
      t.attached p = false ∧ (t.tpi.get p).state = .idle ∧ (t.tpi.get p).overrun = false ∧ t.noticeLine p = false ∧
      (s.attached p = true →
        t.tru.tenants.get p = .detached ∧ t.nu.get p = .detached ∧ t.sde.tol.get p = false)) ∧
    t.tru.generation = s.tru.generation + BitVec.ofNat 16 ([0, 1, 2].filter fun p => s.attached p).length ∧
    ((∃ p : Port, s.attached p = true) →
      t.tru.policy = { stepsPermitted := true, sRes := 10000000, lCom := 1100000, squelch := false }) ∧
    ((∀ p : Port, s.attached p = false) → t.tru.policy = s.tru.policy) ∧
    t.tru.config = s.tru.config ∧ t.tru.serial = s.tru.serial ∧ t.tru.joint = none ∧
    (s.tru.joint = none → t.tru.lastEnded = s.tru.lastEnded) ∧
    (∀ r, s.tru.joint = some r → t.tru.lastEnded = some ⟨r, .cancelled .withdrawn⟩) ∧
    t.sde.selected = none ∧ t.sde.lastSelected = s.sde.lastSelected ∧
    (s.sde.clock = .holdover ∨ s.sde.assisted = false → t.sde.assisted = false) ∧
    t.sde.lockCount = 0 ∧ t.sde.lockLoss = 0 ∧ t.sde.bridgeRemaining = 0 ∧ t.sde.labelMismatch = 0 ∧
    t.sde.decisionPending = false ∧ t.sde.stepDecisionPending = false ∧ t.sde.stepNow = false ∧
    t.sde.lockedSinceStart = s.sde.lockedSinceStart ∧ t.sde.fInt = s.sde.fInt ∧ t.sde.fAvg = s.sde.fAvg ∧
    t.sde.fAvgBin = s.sde.fAvgBin ∧ t.sde.residual = s.sde.residual ∧ t.sde.bias = s.sde.bias ∧
    t.sde.wander = s.sde.wander ∧ t.sde.lfCount = s.sde.lfCount ∧ t.sde.lfRestart = s.sde.lfRestart ∧
    t.sde.lfBasis = s.sde.lfBasis ∧
    (s.sde.clock = .locked ∨ s.sde.clock = .bridge ∨ s.sde.clock = .acquire ∧ s.tsg.timeValid = true →
      t.sde.clock = .holdover ∧ t.sde.anchorCorr = s.sde.fAvg ∧ t.sde.anchorBin = s.currentBin ∧
      t.sde.anchorSeconds = s.tsg.seconds ∧ t.sde.hours = 0) ∧
    (s.sde.clock = .locked ∨ s.sde.clock = .acquire ∧ s.tsg.timeValid = true →
      t.sde.e =
        min
          (s.tru.config.eFloor +
            ((s.sde.lastSelected.bind fun n => (s.rmu.slots.get n).lastValue).map mag).getD 0)
          999999999999) ∧
    (s.sde.clock = .bridge ∨ s.sde.clock = .holdover ∨ s.sde.clock = .freerun → t.sde.e = s.sde.e) ∧
    (s.sde.clock = .acquire → s.tsg.timeValid = false → t.sde.clock = .freerun ∧ t.sde.e = eCap) ∧
    (s.sde.clock = .holdover → t.sde.clock = .holdover ∧
      (s.sde.assisted = true →
        t.sde.anchorCorr = s.tsg.fApp ∧ t.sde.anchorBin = s.currentBin ∧ t.sde.anchorSeconds = s.tsg.seconds ∧
        t.sde.hours = 0)) ∧
    (s.sde.clock = .holdover ∧ s.sde.assisted = false ∨ t.sde.clock = .freerun →
      t.sde.anchorCorr = s.sde.anchorCorr ∧ t.sde.anchorBin = s.sde.anchorBin ∧
      t.sde.anchorSeconds = s.sde.anchorSeconds ∧ t.sde.hours = s.sde.hours) ∧
    (s.sde.clock = .freerun → t.sde.clock = .freerun) ∧
    t.rmu = { s.rmu with slots := t.rmu.slots, lfMark := none, targetA := none, targetB := none } ∧
    (∀ n : SlotId,
      let sl := s.rmu.slots.get n
      let sl' := t.rmu.slots.get n
      (sl.state = .off ∨ sl.state = .disqualified → sl' = sl) ∧
      (sl.state = .qualifying ∨ sl.state = .usable ∨ sl.state = .selected →
        sl' =
          { sl with
            state := .qualifying, faultCount := 0, qualifyCount := 0, emptyRun := 0, usableRun := 0, lastValue := none
            queue := [], tallies := [] }) ∧
      (sl.state = .halting →
        sl' =
          { sl with
            state := if (s.tru.config.slots.get n).enable then .qualifying else .off
            faultCount := 0, qualifyCount := 0, emptyRun := 0, usableRun := 0, holdOff := 0, lastValue := none
            queue := [], tallies := [] })) ∧
    (∀ o : OutId, t.pou.get o = { s.pou.get o with pulseLeft := none }) ∧
    s.requestedWrite t s.retainedContent ∧
    t.ols = { s.ols with writing := t.ols.writing, rewritePending := t.ols.rewritePending })

/-- MAINS_GOOD_RISES in KEEPALIVE or COLDKEEP returns to RUN: the current second becomes the last-closed epoch, every output
waits to resume, the summary is ended, and an oven that is OFF is switched on. BATT_LOW_RISES in KEEPALIVE enters COLDKEEP with
the oven OFF, BATT_LOW_FALLS in COLDKEEP enters KEEPALIVE with the oven switched on. OVEN_OK_RISES settles a WARMING oven and
starts the soak, OVEN_OK_FALLS makes a SETTLED oven WARMING, and each of these two posts OVEN to every attached tenant, whose
latch-lows fall with their conditions. Elsewhere, and during a start (log 18), the level alone changes. -/
def Obligations.PowerAndOvenLinesAct : Prop :=
  ∀ s : State,
    (s.inStart = true ∨ s.spm.power = .run →
      exec .mainsGoodRises s = .next { s with pins := { s.pins with mainsGood := true } }) ∧
    (s.inStart = false → s.spm.power ≠ .run → ∃ t : State,
      exec .mainsGoodRises s = .next t ∧
      t =
        { s with
          pins := { s.pins with mainsGood := true }
          rmu := { s.rmu with lastClosed := s.tsg.seconds }
          pou := t.pou, spm := t.spm, nu := t.nu } ∧
      (∀ o : OutId, t.pou.get o = { s.pou.get o with resumeWait := true }) ∧
      t.spm.power = .run ∧ t.spm.summary = s.spm.summary.map (fun k => { k with ended := true }) ∧
      (s.spm.oven ≠ .off →
        t.spm = { s.spm with power := .run, summary := t.spm.summary } ∧ t.nu = s.nu) ∧
      (s.spm.oven = .off →
        t.spm.oven = (if s.pins.ovenOk then .settled else .warming) ∧ t.spm.warmUp = 0 ∧
        (s.pins.ovenOk = true → t.spm.soak = 1800 ∧ t.spm.ovenFault = false))) ∧
    (s.inStart = true ∨ s.spm.power ≠ .keepalive →
      exec .battLowRises s = .next { s with pins := { s.pins with battLow := true } }) ∧
    (s.inStart = true ∨ s.spm.power ≠ .coldkeep →
      exec .battLowFalls s = .next { s with pins := { s.pins with battLow := false } }) ∧
    (s.inStart = false → s.spm.power = .keepalive → ∃ t : State,
      exec .battLowRises s = .next t ∧
      t = { s with pins := { s.pins with battLow := true }, spm := t.spm, nu := t.nu } ∧
      t.spm =
        { s.spm with
          power := .coldkeep, oven := .off, warmUp := 0, soak := 0, ovenFault := false
          summary := s.spm.summary.map fun k => { k with coldEntries := min 255 (k.coldEntries + 1) } }) ∧
    (s.inStart = false → s.spm.power = .coldkeep → ∃ t : State,
      exec .battLowFalls s = .next t ∧
      t = { s with pins := { s.pins with battLow := false }, spm := t.spm, nu := t.nu } ∧
      t.spm.power = .keepalive ∧ t.spm.oven = (if s.pins.ovenOk then .settled else .warming) ∧ t.spm.warmUp = 0 ∧
      (s.pins.ovenOk = true → t.spm.soak = 1800 ∧ t.spm.ovenFault = false) ∧ t.spm.summary = s.spm.summary) ∧
    (s.inStart = true ∨ s.spm.oven ≠ .warming →
      exec .ovenOkRises s = .next { s with pins := { s.pins with ovenOk := true } }) ∧
    (s.inStart = true ∨ s.spm.oven ≠ .settled →
      exec .ovenOkFalls s = .next { s with pins := { s.pins with ovenOk := false } }) ∧
    (s.inStart = false → s.spm.oven = .warming → ∃ t : State,
      exec .ovenOkRises s = .next t ∧
      t = { s with pins := { s.pins with ovenOk := true }, spm := t.spm, nu := t.nu } ∧
      t.spm = { s.spm with oven := .settled, soak := 1800, warmUp := 0, ovenFault := false } ∧
      ∀ p : Port,
        t.nu.get p =
          (if s.attached p = true then
            let l := (s.nu.get p).latches
            { s.nu.get p with
              latches :=
                { l with
                  timeValid := l.timeValid && s.tsg.timeValid, inTolerance := l.inTolerance && s.sde.tol.get p
                  locked := l.locked && decide (s.sde.clock = ClockState.locked), ovenSettled := l.ovenSettled } }.file
              (.oven .settled false)
          else s.nu.get p)) ∧
    (s.inStart = false → s.spm.oven = .settled → ∃ t : State,
      exec .ovenOkFalls s = .next t ∧
      t = { s with pins := { s.pins with ovenOk := false }, spm := t.spm, nu := t.nu } ∧
      t.spm = { s.spm with oven := .warming, warmUp := 0, soak := 0 } ∧
      ∀ p : Port,
        t.nu.get p =
          (if s.attached p = true then
            let l := (s.nu.get p).latches
            { s.nu.get p with
              latches :=
                { l with
                  timeValid := l.timeValid && s.tsg.timeValid, inTolerance := l.inTolerance && s.sde.tol.get p
                  locked := l.locked && decide (s.sde.clock = ClockState.locked), ovenSettled := false } }.file
              (.oven .warming s.spm.ovenFault)
          else s.nu.get p))

/-! ## Ports -/

/-- DETACH of an attached tenant, and the fall of its present line, return the tenant to the DETACHED values, run the resolution once,
with RESOLVED for every other attached tenant, and act on the pending action by R149. The initiator's detach cancels it WITHDRAWN,
with JOINT_CANCELLED for the other parties that are attached; an action of which the tenant is no party stays; one that loses a party
goes on without it, or executes, with the effect of its kind and JOINT_DONE for its other parties. But for an action that executes
every other block stays. In the effect of a CONFIGURE, that E is raised once to the floor that all items leave is log 35, that an
enable item acts in its place is log 31, and that OUT3 takes no pending record where none of its three settings changed is log 28.
DETACH is answered OK, the fall returns the port to IDLE. A fall at a detached port only clears the port, and a rise only changes the
level; during a start the level alone changes (log 18). -/
def Obligations.DetachReturnsDefaults : Prop :=
  ∀ (s : State) (p : Port) (tag : Word16),
    exec (.presentLineRises p) s = .next { s with pins := { s.pins with present := s.pins.present.set p true } } ∧
    (s.inStart = true →
      exec (.presentLineFalls p) s = .next { s with pins := { s.pins with present := s.pins.present.set p false } }) ∧
    (s.inStart = false → s.attached p = false →
      exec (.presentLineFalls p) s =
        .next
          { s with
            pins := { s.pins with present := s.pins.present.set p false }
            tpi := s.tpi.set p { s.tpi.get p with state := .idle, overrun := false } }) ∧
    ∀ c : Instr,
      (c = .detach p tag ∧ s.takesAttached p ∨ c = .presentLineFalls p ∧ s.inStart = false ∧ s.attached p = true) →
      ∃ t : State,
        exec c s = .next t ∧
        t.tru.tenants.get p = .detached ∧ t.nu.get p = .detached ∧ t.sde.tol.get p = false ∧
        (∀ q : Port, q ≠ p → t.tru.tenants.get q = s.tru.tenants.get q) ∧
        t.tru.generation = s.tru.generation + 1 ∧ t.tru.policy = resolvedPolicy t.tru.tenants ∧
        t.pending = s.pending ∧ t.spm = s.spm ∧
        (c = .detach p tag →
          t.tpi =
            s.tpi.set p
              { s.tpi.get p with
                state := .working { code := 0x12, tag := tag, outcome := .ok, overrun := false, body := .empty }
                clocked := .fill } ∧
          t.pins = s.pins) ∧
        (c = .presentLineFalls p →
          t.tpi = s.tpi.set p { s.tpi.get p with state := .idle, overrun := false } ∧
          t.pins = { s.pins with present := s.pins.present.set p false }) ∧
        (∀ q : Port, q ≠ p → s.told t q (.resolved (s.tru.generation + 1))) ∧
        let table (c : SiteConfig) (pending : Option JointRecord) (ended : Option EndedRecord) : Tru :=
          { s.tru with
            tenants := t.tru.tenants, policy := t.tru.policy, generation := t.tru.generation
            config := c, joint := pending, lastEnded := ended }
        let stays (pending : Option JointRecord) (ended : Option EndedRecord) (first : Port → TenantNotices) : Prop :=
          t.tsg = s.tsg ∧ t.rmu = s.rmu ∧ t.ols = s.ols ∧ t.pou = s.pou ∧ t.freeIndex = s.freeIndex ∧
          t.sde = { s.sde with tol := s.sde.tol.set p false } ∧ t.tru = table s.tru.config pending ended ∧
          ∀ q : Port, q ≠ p →
            t.nu.get q = if s.attached q then (first q).file (.resolved (s.tru.generation + 1)) else s.nu.get q
        (s.tru.joint = none → stays none s.tru.lastEnded s.nu.get) ∧
        ∀ r : JointRecord, s.tru.joint = some r →
          (r.initiator = p →
            stays none (some ⟨r, .cancelled .withdrawn⟩) fun q =>
              if r.required.get q then (s.nu.get q).file (.jointCancelled r.serial .withdrawn) else s.nu.get q) ∧
          (r.initiator ≠ p → r.required.get p = false → stays (some r) s.tru.lastEnded s.nu.get) ∧
          (r.initiator ≠ p → r.required.get p = true →
            (r.required.set p false = r.concurred.set p false →
              ∃ rs, t.tru = table t.tru.config none (some ⟨r.without p, .done rs⟩) ∧ s.carriedOut t r.kind rs ∧
              ∀ q : Port, q ≠ p → r.required.get q = true → s.told t q (.jointDone r.serial rs)) ∧
            (r.required.set p false ≠ r.concurred.set p false →
              stays (some (r.without p)) s.tru.lastEnded s.nu.get))

/-- READ_TRANSACTION clocks out the held response in RUN and empties the holder; with none to return, or out of RUN, it
clocks out a NOT_READY frame and leaves the port; during a start it clocks out fill alone. Bytes beyond the frame are fill. A
held response has the header of Table 12-2 with the outcome codes of Table 12-11; the bodies of READ_TIME and READ_STATUS are
those of Tables 12-5 and 12-14, most significant byte first; a value that does not fit its signed field is log 34. The bytes
clocked out stand in the model's field clocked (log 27). -/
def Obligations.ReadTransactionClocksOut : Prop :=
  ∀ (s : State) (p : Port) (n : Nat),
    let port := s.tpi.get p
    let out (frame : List Byte) : List Byte := frame.take n ++ List.replicate (n - frame.length) 0xFF
    let be (width : Nat) (v : Int) : List Byte :=
      (List.range width).map fun i => BitVec.ofInt 8 (v / 256 ^ (width - 1 - i))
    let fits (width : Nat) (v : Int) : Prop := -(128 * 256 ^ (width - 1)) ≤ v ∧ v < 128 * 256 ^ (width - 1)
    let bits (flags : List Bool) : Byte := BitVec.ofNat 8 (flags.zipIdx.map fun b => if b.1 then 2 ^ b.2 else 0).sum
    (∀ r : Response,
      r.bytes =
        be 1 (6 + r.body.bytes.length) ++ [r.code] ++ be 2 r.tag.toNat ++
          [r.outcome.code, if r.overrun then 1 else 0] ++ r.body.bytes) ∧
    [OutcomeCode.ok, .clamped, .ignored, .pending, .busy, .notAttached, .notParty, .noAction, .late, .early, .full, .badValue,
        .badRequest, .notApplicable, .notReady].map (·.code) =
      [0x00, 0x01, 0x02, 0x03, 0x04, 0x05, 0x06, 0x07, 0x08, 0x09, 0x0A, 0x0B, 0x0C, 0x0D, 0x0E] ∧
    Body.empty.bytes = [] ∧
    (∀ x : TimeReading, fits 6 x.phase → fits 4 x.fApp → fits 6 x.e → fits 4 x.policy.sRes → fits 4 x.policy.lCom →
      (Body.time x).bytes =
        be 6 x.seconds.toNat ++ be 6 x.phase ++ be 4 x.fApp ++ be 6 x.e ++
          [match x.clock with
            | .freerun => 0
            | .acquire => 1
            | .locked => 2
            | .bridge => 3
            | .holdover => 4,
            bits
              [x.timeValid, x.assisted, x.inTolerance, x.noticesWaiting, x.selected.isSome, x.policy.stepsPermitted,
                x.policy.squelch]] ++
          be 1 ((x.selected.map fun n => n.val).getD 0) ++ be 4 x.policy.sRes ++ be 4 x.policy.lCom ++
          be 2 x.generation.toNat) ∧
    (∀ x : StatusReading,
      let k := x.summary
      (Body.status x).bytes =
        [bits [x.latches.timeValid, x.latches.inTolerance, x.latches.locked, x.latches.ovenSettled, x.latches.refFault,
            x.latches.stepped],
          if x.startCause = .powerOn then 0 else 1, if x.outcome = .restored then 0 else 1,
          match x.oven with
          | .settled => 0
          | .warming => 1
          | .off => 2,
          bits
            [x.ovenFault, k.isSome, (k.map (·.beganAtStart)).getD false, (k.map (·.ovenFaultSeen)).getD false,
              (k.map (·.ended)).getD false]] ++
          be 2 x.soak ++ be 6 ((k.map (·.entrySeconds.toNat)).getD 0) ++ be 4 ((k.map (·.boundaries)).getD 0) ++
          be 4 ((k.map (·.coldBoundaries)).getD 0) ++ be 1 ((k.map (·.coldEntries)).getD 0)) ∧
    (s.inStart = true →
      exec (.readTransaction p n) s =
        .next { s with tpi := s.tpi.set p { port with clocked := .bytes (List.replicate n 0xFF) } }) ∧
    (∀ r : Response, s.inService = true → port.state = .ready r →
      exec (.readTransaction p n) s =
        .next { s with tpi := s.tpi.set p { port with state := .idle, clocked := .bytes (out r.bytes) } }) ∧
    (s.inStart = false → (s.spm.power ≠ .run ∨ ∀ r, port.state ≠ .ready r) →
      exec (.readTransaction p n) s =
        .next
          { s with
            tpi :=
              s.tpi.set p
                { port with
                  clocked :=
                    .bytes
                      (out
                        [6, 0, 0, 0, 0x0E,
                          flagByte [port.overrun, port.state.isWorking, decide (s.spm.power ≠ .run)]]) } })

/-- RESPONSE_COMPLETED moves a WORKING port to READY with its overrun flag carried by the response and cleared, and MALFORMED_FRAME
is answered BAD_REQUEST with the code and tag as received (that no body follows is log 11); out of service it is ignored, and in WORKING it is discarded with the
overrun flag set. Fill alone is clocked out through a request transaction (the record of it is log 27). With no response in
preparation RESPONSE_COMPLETED changes nothing (log 4). -/
def Obligations.ResponsesCompleteAndMalformedAnswered : Prop :=
  ∀ (s : State) (p : Port) (code : Byte) (tag : Word16),
    let port := s.tpi.get p
    (∀ r : Response, port.state = .working r →
      exec (.responseCompleted p) s =
        .next
          { s with
            tpi := s.tpi.set p { port with state := .ready { r with overrun := port.overrun }, overrun := false } }) ∧
    ((∀ r, port.state ≠ .working r) → exec (.responseCompleted p) s = .next s) ∧
    (s.takes p →
      exec (.malformedFrame p code tag) s = .next (s.beginResponse p code tag ⟨.badRequest, .empty⟩)) ∧
    (s.inService = false →
      exec (.malformedFrame p code tag) s = .next { s with tpi := s.tpi.set p { port with clocked := .fill } }) ∧
    (s.inService = true → port.state.isWorking = true →
      exec (.malformedFrame p code tag) s =
        .next { s with tpi := s.tpi.set p { port with overrun := true, clocked := .fill } })

/-- Every request out of service is ignored, in WORKING is discarded with the overrun flag set, and from a detached port is
refused NOT_ATTACHED unless it is ATTACH, READ_TIME, READ_REFERENCE or READ_CONFIG (the refusal's body is log 11). Fill alone is
clocked out through a request transaction (the record of it is log 27). -/
def Obligations.RequestsAreTurnedAway : Prop :=
  ∀ (s : State) (i : Instr) (p : Port) (frame : List Byte),
    Wire.requestOf i = some (p, frame) →
    let code := Wire.byteAt frame 1
    (s.inService = false →
      exec i s = .next { s with tpi := s.tpi.set p { s.tpi.get p with clocked := .fill } }) ∧
    (s.inService = true → (s.tpi.get p).state.isWorking = true →
      exec i s = .next { s with tpi := s.tpi.set p { s.tpi.get p with overrun := true, clocked := .fill } }) ∧
    (i.wellFormed = true → s.takes p → s.attached p = false → code ∉ [0x10, 0x13, 0x16, 0x19] →
      exec i s =
        .next
          (s.beginResponse p code (Wire.word16At frame 2)
            ⟨.notAttached, if code = 0x15 then .report none else .empty⟩))

/-! ## Requests -/

/-- ATTACH of a detached tenant with its present line high attaches it with the clamped advertisement, the judged tolerance flag,
latches armed after it (log 33) and the resolution's RESOLVED; with the line low it is NOT_APPLICABLE, with an unknown permission code
BAD_VALUE (log 10). ADVERTISE, and an ATTACH from an attached tenant, replace the advertisement, resolve, and judge a new
limit at once; a flag that this changes is told, and every latch-low whose condition is then false falls. Bodies of refusals are
log 11. -/
def Obligations.AttachAndAdvertiseTakeAdvertisement : Prop :=
  ∀ (s : State) (p : Port) (tag : Word16) (f : AdvertisementFields),
    let l := max 100000 (min 50000000 f.limit.toInt)
    let w := max 1000 (min 10000000 f.slew.toInt)
    let adv : Advertisement :=
      { limit := l, allow := decide (f.permission = 0), slew := w, squelch := decide (f.squelch ≠ 0) }
    let outcome : OutcomeCode := if l ≠ f.limit.toInt ∨ w ≠ f.slew.toInt then .clamped else .ok
    let answer (q : Policy) (g : Word16) : Answer :=
      ⟨outcome, .advertised (decide (l ≠ f.limit.toInt)) (decide (w ≠ f.slew.toInt)) q g⟩
    let known := f.permission = 0 ∨ f.permission = 1
    (s.takes p → s.attached p = false → s.pins.present.get p = false →
      exec (.attach p tag f) s = .next (s.beginResponse p 0x10 tag ⟨.notApplicable, .empty⟩)) ∧
    (s.takes p → s.attached p = false → s.pins.present.get p = true → ¬known →
      exec (.attach p tag f) s = .next (s.beginResponse p 0x10 tag ⟨.badValue, .empty⟩)) ∧
    (s.takes p → s.attached p = false → s.pins.present.get p = true → known → ∃ t : State,
      exec (.attach p tag f) s = .next t ∧
      t = { s with tru := t.tru, nu := t.nu, sde := t.sde, tpi := t.tpi } ∧
      t.tru =
        { s.tru with
          tenants := s.tru.tenants.set p { attached := true, adv := adv, ackGen := s.tru.generation + 1 }
          generation := s.tru.generation + 1, policy := resolvedPolicy t.tru.tenants } ∧
      t.sde = { s.sde with tol := s.sde.tol.set p (s.tsg.timeValid && decide (s.sde.e ≤ l)) } ∧
      t.nu.get p =
        { notices := [⟨.resolved (s.tru.generation + 1), 1⟩], pending := [], mask := 0xFFFF, frozen := false
          latches := t.armedLatches p } ∧
      (∀ q : Port, q ≠ p →
        t.nu.get q =
          (if s.attached q = true then (s.nu.get q).file (.resolved (s.tru.generation + 1)) else s.nu.get q)) ∧
      t.tpi = (s.beginResponse p 0x10 tag (answer t.tru.policy t.tru.generation)).tpi) ∧
    ∀ c : Instr, s.takesAttached p →
      (c = .advertise p tag f ∨ c = .attach p tag f) →
      let code : Byte := if c = .advertise p tag f then 0x11 else 0x10
      (¬known → exec c s = .next (s.beginResponse p code tag ⟨.badValue, .empty⟩)) ∧
      (known → ∃ t : State,
        exec c s = .next t ∧
        t = { s with tru := t.tru, nu := t.nu, sde := t.sde, tpi := t.tpi } ∧
        t.tru =
          { s.tru with
            tenants := s.tru.tenants.set p { attached := true, adv := adv, ackGen := s.tru.generation + 1 }
            generation := s.tru.generation + 1, policy := resolvedPolicy t.tru.tenants } ∧
        t.sde =
          { s.sde with
            tol :=
              if (s.tru.tenants.get p).adv.limit = l then s.sde.tol
              else s.sde.tol.set p (s.tsg.timeValid && decide (s.sde.e ≤ l)) } ∧
        let flag := s.tsg.timeValid && decide (s.sde.e ≤ l)
        (∀ q : Port,
          t.nu.get q =
            if s.attached q = false then s.nu.get q
            else
              let n := (s.nu.get q).file (.resolved (s.tru.generation + 1))
              if (s.tru.tenants.get p).adv.limit = l ∨ flag = s.sde.tol.get p then n
              else
                let n' : TenantNotices :=
                  { n with
                    latches :=
                      { n.latches with
                        timeValid := n.latches.timeValid && s.tsg.timeValid
                        inTolerance := n.latches.inTolerance && t.sde.tol.get q
                        locked := n.latches.locked && decide (s.sde.clock = ClockState.locked)
                        ovenSettled := n.latches.ovenSettled && decide (s.spm.oven = OvenState.settled) } }
                if q = p then n'.file (if flag then .tolRegained s.sde.e else .tolLost s.sde.e) else n') ∧
        t.tpi = (s.beginResponse p code tag (answer t.tru.policy t.tru.generation)).tpi)

/-- READ_TIME returns one capture of site time with the clock's values, and READ_CONFIG the whole configuration with the
policy and OUT3, whose mode is TOLERANCE while common squelch is yes and INVALID while it is no (R164, R194); from an
attached tenant the generation returned is acknowledged, from a detached port it is not. -/
def Obligations.TimeAndConfigAreRead : Prop :=
  ∀ (s : State) (p : Port) (tag : Word16), s.takes p →
    let a : State :=
      if s.attached p then
        { s with
          tru :=
            { s.tru with tenants := s.tru.tenants.set p { s.tru.tenants.get p with ackGen := s.tru.generation } } }
      else s
    exec (.readTime p tag) s =
      .next
        (a.beginResponse p 0x13 tag
          ⟨.ok,
            .time
              { seconds := s.tsg.seconds, phase := s.tsg.phase, timeValid := s.tsg.timeValid, fApp := s.tsg.fApp
                clock := s.sde.clock, assisted := s.sde.assisted, selected := s.sde.selected, e := s.sde.e
                inTolerance := s.sde.tol.get p, policy := s.tru.policy, generation := s.tru.generation
                noticesWaiting := s.attached p && !(s.nu.get p).notices.isEmpty }⟩) ∧
    exec (.readConfig p tag) s =
      .next
        (a.beginResponse p 0x19 tag
          ⟨.ok,
            .config
              { config := s.tru.config, policy := s.tru.policy, generation := s.tru.generation
                out3 := { s.pou.o3.current with mode := if s.tru.policy.squelch then .tolerance else .invalid }
                out3State := s.pou.o3.state }⟩)

/-- READ_STATUS returns the latches as they stand and arms them: each latch-low takes its condition and each latch-high is
cleared. -/
def Obligations.StatusIsReadAndArmed : Prop :=
  ∀ (s : State) (p : Port) (tag : Word16), s.takesAttached p →
    exec (.readStatus p tag) s =
      .next
        ({ s with
            nu :=
              s.nu.set p
                { s.nu.get p with
                  latches :=
                    { timeValid := s.tsg.timeValid, inTolerance := s.sde.tol.get p
                      locked := decide (s.sde.clock = ClockState.locked), ovenSettled := decide (s.spm.oven = OvenState.settled)
                      refFault := false, stepped := false } } }.beginResponse p 0x14 tag
          ⟨.ok,
            .status
              { latches := (s.nu.get p).latches, startCause := s.spm.startCause, outcome := s.ols.outcome
                oven := s.spm.oven, ovenFault := s.spm.ovenFault, soak := s.spm.soak, summary := s.spm.summary }⟩)

/-- READ_REFERENCE returns the slot record of slots 0 to 5 and refuses others BAD_VALUE; READ_LEARNING returns the bins asked
for, at most up to bin 31, or none with BAD_VALUE; READ_AGING returns the ring. None changes anything but the port. Bodies of
refusals are log 11. -/
def Obligations.ReferenceAndLearningAreRead : Prop :=
  ∀ (s : State) (p : Port) (tag : Word16) (slot first number : Byte),
    (s.takes p → 5 < slot.toNat →
      exec (.readReference p tag slot) s = .next (s.beginResponse p 0x16 tag ⟨.badValue, .empty⟩)) ∧
    (∀ n : SlotId, s.takes p → slot.toNat = n.val →
      let sl := s.rmu.slots.get n
      exec (.readReference p tag slot) s =
        .next
          (s.beginResponse p 0x16 tag
            ⟨.ok,
              .reference
                { slot := n, state := sl.state, faultCount := sl.faultCount, qualifyCount := sl.qualifyCount
                  emptyRun := sl.emptyRun, holdOff := sl.holdOff, streak := sl.streak, usableRun := sl.usableRun
                  lastValue := sl.lastValue, lastLabel := sl.lastLabel, lastFaults := sl.lastFaults
                  olderEntries := (entriesStamped (s.tsg.seconds - 1) sl.queue).length
                  currentEntries := (entriesStamped s.tsg.seconds sl.queue).length
                  haltMark := sl.queue.contains .haltMark
                  lf :=
                    if n = 2 then
                      some
                        { bias := s.sde.bias, wander := s.sde.wander, count := s.sde.lfCount
                          calibrated := decide (s.sde.lfCount = 600) }
                    else none }⟩)) ∧
    (s.takesAttached p →
      let good := first.toNat ≤ 31 ∧ 1 ≤ number.toNat ∧ number.toNat ≤ 8
      exec (.readLearning p tag first number) s =
        .next
          (s.beginResponse p 0x17 tag
            ⟨if good then .ok else .badValue,
              .learning
                { records := if good then (s.ols.bins.toList.drop first.toNat).take number.toNat else []
                  theta := s.ols.theta, lastSample := s.ols.lastSample, currentBin := s.ols.theta.map binOf
                  failures := s.ols.failures, sensorFault := s.ols.sensorFault
                  learning :=
                    decide (s.spm.oven = OvenState.settled ∧ s.spm.soak = 0) && !s.ols.sensorFault && s.ols.theta.isSome &&
                      decide (s.spm.power = .run)
                  writing := s.ols.writing.isSome, rewritePending := s.ols.rewritePending
                  lastWrite := s.ols.lastWrite }⟩) ∧
      exec (.readAging p tag) s =
        .next
          (s.beginResponse p 0x18 tag
            ⟨.ok,
              .aging
                { ring := s.ols.ring, aging := s.ols.aging, established := s.ols.agingEst, locked := s.ols.dayLocked }⟩))

/-- REPORT_PHASE is refused by the first case of Table 2-4 that applies, or judged GATE, LABEL, QUALITY or ENTRY in that order:
a refusal changes nothing but the port and sends its disposition as 0, a fault marks its epoch's tally, an entry joins the queue. -/
def Obligations.ReportIsJudged : Prop :=
  ∀ (s : State) (p : Port) (tag : Word16) (f : ReportFields), s.takesAttached p →
    let sl := s.rmu.slots.get (reportSlot p)
    let e := f.phase.toInt
    let used := e + sl.settings.comp
    let c := s.tsg.seconds
    let isOpen := (f.stamp = c ∨ f.stamp = c - 1) ∧ s.rmu.isOpen f.stamp = true
    let after := 1 ≤ (f.stamp - c).toNat ∧ (f.stamp - c).toNat ≤ 140737488355328
    let idle := sl.state = .off ∨ sl.state = .halting ∨ sl.state = .disqualified
    let bad := e < -499999999999 ∨ 499999999999 < e ∨ 7 < f.quality.toNat
    let full := 16 ≤ (entriesStamped f.stamp sl.queue).length
    let gate := ∃ l, sl.lastValue = some l ∧ sl.settings.gate < mag (used - l)
    let label := (∃ l, f.label = some l ∧ l ≠ f.stamp) ∧ s.tsg.timeValid = true ∧ sl.state ≠ .selected
    let done (sl' : Slot) (a : Answer) : State :=
      { s with rmu := { s.rmu with slots := s.rmu.slots.set (reportSlot p) sl' } }.beginResponse p 0x15 tag a
    let mark (k : FaultSet) : Slot := { sl with tallies := markTally f.stamp k 0 sl.tallies }
    let run := exec (.reportPhase p tag f) s
    (Body.report none).bytes = [0] ∧
    (idle → run = .next (s.beginResponse p 0x15 tag ⟨.ignored, .report none⟩)) ∧
    (¬idle → bad → run = .next (s.beginResponse p 0x15 tag ⟨.badValue, .report none⟩)) ∧
    (¬idle → ¬bad → ¬isOpen → after → run = .next (s.beginResponse p 0x15 tag ⟨.early, .report none⟩)) ∧
    (¬idle → ¬bad → ¬isOpen → ¬after → run = .next (s.beginResponse p 0x15 tag ⟨.late, .report none⟩)) ∧
    (¬idle → ¬bad → isOpen → full → run = .next (s.beginResponse p 0x15 tag ⟨.full, .report none⟩)) ∧
    (¬idle → ¬bad → isOpen → ¬full →
      (gate → run = .next (done (mark { gate := true }) ⟨.ok, .report (some .gate)⟩)) ∧
      (¬gate → label → run = .next (done (mark { label := true }) ⟨.ok, .report (some .label)⟩)) ∧
      (¬gate → ¬label → f.quality.toNat = 7 →
        run = .next (done (mark { quality := true }) ⟨.ok, .report (some .quality)⟩)) ∧
      (¬gate → ¬label → f.quality.toNat ≠ 7 →
        run =
          .next
            (done
              { sl with
                queue := sl.queue ++ [.entry ⟨f.stamp, used, some f.quality.toNat, f.label⟩]
                tallies := markTally f.stamp {} 0 sl.tallies }
              ⟨.ok, .report (some .entry)⟩)))

/-- PROPOSE is refused BAD_VALUE for an unknown kind or an empty CONFIGURE and BUSY while an action is pending; else it takes
the next serial, and executes at once when no other tenant is attached or else awaits the others with JOINT_ASKED. A CONFIGURE
executes its items in order, an enable item acting on its slot in its place among them (log 31), raises E once to the floor that all
its items leave where that lies above E (log 35), at which the tenants are judged, gives OUT3 a pending record when its interval,
width or offset changed and none otherwise (log 28), and requests a retained write of what it leaves. CLEAR_LEARNING empties what was learned and
requests a retained write of that; STEP_NOW sets step-now pending in ACQUIRE and is NOT_APPLICABLE elsewhere; RESTART_CLOCK
restarts the clock, the selection and the slots, puts E at its cap, and tells CLOCK_STATE, SELECTION and TOL_LOST where they
apply. Bodies of refusals are log 11, the mode OUT3's record holds is log 28. -/
def Obligations.ProposalIsTaken : Prop :=
  ∀ (s : State) (p : Port) (tag : Word16) (kind : Byte) (items : List ConfigItem),
    s.takesAttached p → items.length ≤ 8 →
    let unread := decide ((s.tru.tenants.get p).ackGen ≠ s.tru.generation)
    let run := exec (.propose p tag kind items) s
    let unknown := kind.toNat = 0 ∨ 4 < kind.toNat ∨ kind.toNat = 1 ∧ items = []
    (unknown → run = .next (s.beginResponse p 0x20 tag ⟨.badValue, .proposed none none unread⟩)) ∧
    (¬unknown → s.tru.joint ≠ none →
      run = .next (s.beginResponse p 0x20 tag ⟨.busy, .proposed none none unread⟩)) ∧
    (¬unknown → s.tru.joint = none → (∃ q : Port, q ≠ p ∧ s.attached q = true) → ∃ t r,
      run = .next t ∧ t = { s with tru := { s.tru with serial := s.tru.serial + 1, joint := some r }, nu := t.nu, tpi := t.tpi } ∧
      r.serial = s.tru.serial + 1 ∧ r.kind.code = kind ∧ (kind = 1 → r.kind = .configure items) ∧ r.initiator = p ∧
      (∀ q : Port, r.required.get q = s.attached q ∧ r.concurred.get q = decide (q = p)) ∧ r.age = 0 ∧
      t.tpi = (s.beginResponse p 0x20 tag ⟨.pending, .proposed (some (s.tru.serial + 1)) none unread⟩).tpi ∧
      ∀ q : Port,
        t.nu.get q =
          (if s.attached q = true ∧ q ≠ p then (s.nu.get q).file (.jointAsked r.serial r.kind p) else s.nu.get q)) ∧
    (¬unknown → s.tru.joint = none → (∀ q : Port, q ≠ p → s.attached q = false) → ∃ t r rs,
      run = .next t ∧ t.tru.joint = none ∧ t.tru.lastEnded = some ⟨r, .done rs⟩ ∧
      t.tru = { s.tru with serial := s.tru.serial + 1, config := t.tru.config, lastEnded := t.tru.lastEnded } ∧
      r.serial = s.tru.serial + 1 ∧ r.kind.code = kind ∧ (kind = 1 → r.kind = .configure items) ∧ r.initiator = p ∧
      t.tpi = (s.beginResponse p 0x20 tag ⟨.ok, .proposed (some (s.tru.serial + 1)) (some rs) unread⟩).tpi ∧
      t.pins = s.pins ∧ s.carriedOut t r.kind rs ∧ (kind = 2 ∨ kind = 3 → t.sde.tol = s.sde.tol))

/-- CONCUR joins the pending action and, when it completes the sets, executes it with the effect of its kind and tells its parties;
DECLINE by a required tenant cancels it, each with the refusals of R145 (their bodies are log 11); READ_JOINT returns one record, the
pending one while there is one, else the last-ended one, else the indication that neither exists, each under its code (that the code
stands first and the form of the record are log 12), and changes nothing but the port. In the effect of a CONFIGURE, that E is
raised once to the floor that all items leave is log 35, that an enable item acts in its place is log 31, and that OUT3 takes no
pending record where none of its three settings changed, with the mode its record holds, is log 28. -/
def Obligations.JointActionIsAnswered : Prop :=
  ∀ (s : State) (p : Port) (tag : Word16) (serial : Byte), s.takesAttached p →
    let unread := decide ((s.tru.tenants.get p).ackGen ≠ s.tru.generation)
    let concur := exec (.concur p tag serial) s
    let decline := exec (.decline p tag serial) s
    exec (.readJoint p tag) s =
      .next (s.beginResponse p 0x23 tag ⟨.ok, .joint s.tru.joint s.tru.lastEnded unread⟩) ∧
    (∀ (r : JointRecord) (ended : Option EndedRecord),
      (Body.joint (some r) ended unread).bytes = 0 :: r.bytes ++ [if unread then 1 else 0]) ∧
    (∀ e : EndedRecord,
      (Body.joint none (some e) unread).bytes = 1 :: e.record.bytes ++ e.ending.bytes ++ [if unread then 1 else 0]) ∧
    (Body.joint none none unread).bytes = [2, if unread then 1 else 0] ∧
    ((s.tru.joint = none ∨ ∃ r, s.tru.joint = some r ∧ r.serial ≠ serial) →
      concur = .next (s.beginResponse p 0x21 tag ⟨.noAction, .concurred none unread⟩) ∧
      decline = .next (s.beginResponse p 0x22 tag ⟨.noAction, .declined unread⟩)) ∧
    ∀ r : JointRecord, s.tru.joint = some r → r.serial = serial →
      (r.required.get p = false →
        concur = .next (s.beginResponse p 0x21 tag ⟨.notParty, .concurred none unread⟩) ∧
        decline = .next (s.beginResponse p 0x22 tag ⟨.notParty, .declined unread⟩)) ∧
      (r.required.get p = true →
        (∃ t : State,
          decline = .next t ∧
          t = { s with tru := { s.tru with joint := none, lastEnded := some ⟨r, .cancelled .declined⟩ }, nu := t.nu, tpi := t.tpi } ∧
          t.tpi = (s.beginResponse p 0x22 tag ⟨.ok, .declined unread⟩).tpi ∧
          ∀ q : Port,
            t.nu.get q =
              (if s.attached q = true ∧ r.required.get q = true then (s.nu.get q).file (.jointCancelled serial .declined)
              else s.nu.get q)) ∧
        (r.concurred.get p = true →
          concur = .next (s.beginResponse p 0x21 tag ⟨.ok, .concurred none unread⟩)) ∧
        (r.concurred.get p = false →
          (r.required ≠ r.concurred.set p true →
            concur =
              .next
                ({ s with tru := { s.tru with joint := some { r with concurred := r.concurred.set p true } } }.beginResponse p
                  0x21 tag ⟨.ok, .concurred none unread⟩)) ∧
          (r.required = r.concurred.set p true → ∃ t rs,
            concur = .next t ∧
            t.tru =
              { s.tru with
                joint := none, lastEnded := some ⟨{ r with concurred := r.concurred.set p true }, .done rs⟩
                config := t.tru.config } ∧
            t.tpi = (s.beginResponse p 0x21 tag ⟨.ok, .concurred (some rs) unread⟩).tpi ∧ t.pins = s.pins ∧
            s.carriedOut t r.kind rs ∧
            ∀ q : Port, r.required.get q = true → s.told t q (.jointDone serial rs))))

/-- READ_NOTICES returns the set and freezes it, NEXT_NOTICE returns and removes the notice of the lowest kind and freezes,
CLEAR_NOTICES removes the named kinds, NOTICES_DONE releases the pending set through the mask, SET_NOTICE_MASK replaces the
mask; each changes its own tenant's notice state and port alone. The body of a refusal is log 11. -/
def Obligations.NoticeRequestsAct : Prop :=
  ∀ (s : State) (p : Port) (tag : Word16), s.takesAttached p →
    let n := s.nu.get p
    let done (n' : TenantNotices) (code : Byte) (a : Answer) : State :=
      { s with nu := s.nu.set p n' }.beginResponse p code tag a
    exec (.readNotices p tag) s = .next (done { n with frozen := true } 0x30 ⟨.ok, .notices n.notices⟩) ∧
    (n.notices = [] →
      exec (.nextNotice p tag) s = .next (done { n with frozen := true } 0x31 ⟨.ok, .nextNotice none⟩)) ∧
    (∀ first rest, n.notices = first :: rest →
      exec (.nextNotice p tag) s =
        .next (done { n with frozen := true, notices := rest } 0x31 ⟨.ok, .nextNotice (some first)⟩)) ∧
    (∀ kinds : List Byte, 1 ≤ kinds.length → kinds.length ≤ 16 →
      ((∃ k ∈ kinds, 15 < k.toNat) →
        exec (.clearNotices p tag kinds) s = .next (s.beginResponse p 0x32 tag ⟨.badValue, .empty⟩)) ∧
      ((∀ k ∈ kinds, k.toNat ≤ 15) → ∃ left : List Notice,
        exec (.clearNotices p tag kinds) s = .next (done { n with notices := left } 0x32 ⟨.ok, .empty⟩) ∧
        left.Sublist n.notices ∧ ∀ x, x ∈ left ↔ x ∈ n.notices ∧ ∀ k ∈ kinds, k.toNat ≠ x.kind)) ∧
    exec (.noticesDone p tag) s =
      .next
        (done
          { n with
            frozen := false, pending := []
            notices :=
              (n.pending.filter fun x => n.mask.getLsbD x.kind).foldl (fun set x => fileNotice x set) n.notices }
          0x33 ⟨.ok, .empty⟩) ∧
    ∀ mask : Word16,
      exec (.setNoticeMask p tag mask) s = .next (done { n with mask := mask } 0x34 ⟨.ok, .empty⟩)

/-! ## The line clock, selection, assistance, seconds sets and tolerance -/

/-- At a raised boundary in RUN the LF mark is taken, in whole ps at the nominal frequency, absent in a gap; with a mark before
it, no gap seen and no step or set since, the epoch ended gives f = 10¹² − D, a GATE fault or an entry of a slot that takes
observations. Out of RUN the mark and the slot stay. The unit of the command's count is log 6, and a DISQUALIFIED slot that stays
so at hold-off 0 is log 5. -/
def Obligations.BoundaryMeasuresLineClock : Prop :=
  ∀ (s : State) (line : LineClock), s.raises → ∃ t : State,
    exec (.epochBoundary line) s = .next t ∧
    let old := s.rmu.slots.get 2
    let new := t.rmu.slots.get 2
    let aged := { old with holdOff := if old.state = .disqualified then old.holdOff - 1 else old.holdOff }
    let takes := old.state = .qualifying ∨ old.state = .usable ∨ old.state = .selected
    (s.spm.power ≠ .run → t.rmu.lfMark = s.rmu.lfMark ∧ t.rmu.lfVoid = s.rmu.lfVoid ∧ new = aged) ∧
    (s.spm.power = .run →
      (line = .inGap → t.rmu.lfMark = none ∧ new = aged) ∧
      ∀ (count : Nat) (gapSeen : Bool), line = .counted count gapSeen →
        let mark : Nat := (roundDiv count s.rmu.lfNominal).toNat
        t.rmu.lfMark = some mark ∧ t.rmu.lfVoid = false ∧
        (s.rmu.lfMark = none ∨ s.rmu.lfVoid = true ∨ gapSeen = true ∨ ¬takes → new = aged) ∧
        ∀ last : Nat, s.rmu.lfMark = some last → s.rmu.lfVoid = false → gapSeen = false → takes →
          let f : Int := 1000000000000 - ((mark : Int) - last)
          let gate := ∃ l, old.lastValue = some l ∧ old.settings.gate < mag (f - l)
          (gate → new = { old with tallies := markTally s.tsg.seconds { gate := true } 0 old.tallies }) ∧
          (¬gate →
            new =
              { old with
                queue := old.queue ++ [.entry ⟨s.tsg.seconds, f, none, none⟩]
                tallies := markTally s.tsg.seconds {} 0 old.tallies }))

/-- The arbiter: with no selected slot that is still SELECTED it takes the candidate of the lowest priority number, the lower
slot among equals, or none; a selected slot stays unless the site is revertive and a candidate that has been usable for the
wait-to-restore has a lower number, or the selected slot's number is 0, and then the best of these takes over. -/
def Obligations.SelectionIsArbitrated : Prop :=
  ∀ (items : Six SlotItem) (c : SiteConfig) (now : Option SlotId),
    let pick := chooseSlot items c now
    let able := fun n : SlotId => n ≠ 2 ∧ (items.get n).state = .usable ∧ (items.get n).priority ≠ 0
    let best := fun (test : SlotId → Prop) (n : SlotId) =>
      test n ∧ ∀ m : SlotId, test m →
        (items.get n).priority < (items.get m).priority ∨
          (items.get n).priority = (items.get m).priority ∧ n ≤ m
    ((now = none ∨ ∃ m, now = some m ∧ (items.get m).state ≠ .selected) →
      (pick = none → ∀ n, ¬able n) ∧ ∀ n, pick = some n → best able n) ∧
    ∀ m : SlotId, now = some m → (items.get m).state = .selected →
      let restoring := fun n : SlotId =>
        able n ∧ c.waitToRestore ≤ (items.get n).usableRun ∧
          ((items.get m).priority = 0 ∨ (items.get n).priority < (items.get m).priority)
      (c.revertive = false → pick = some m) ∧
      (c.revertive = true →
        ((∀ n, ¬restoring n) → pick = some m) ∧
        ((∃ n, restoring n) → ∃ n, pick = some n ∧ best restoring n))

/-- The clock at an epoch close (R52 to R60, R78). A GOOD epoch of the selected slot counts toward lock: in ACQUIRE the sixteenth
in a row within the threshold makes the clock LOCKED and time valid, unless a step is ordered; in LOCKED the fourth in a row beyond
it, or one with a decision pending, makes it ACQUIRE; in BRIDGE it decides LOCKED or ACQUIRE. Where the selection then moves, the
final epoch of a halted slot and a restoration among them, the clock so reached follows it; with no GOOD epoch driving, the clock as
it stood does. FREERUN takes a gain to ACQUIRE; ACQUIRE begins again on a switch and a loss takes it to HOLDOVER or FREERUN by the
time-valid flag; LOCKED awaits a decision on a switch and a loss takes it to BRIDGE, or to HOLDOVER with bridge time 0, where decision
pending is cleared (log 16); BRIDGE notes a decision; HOLDOVER is judged for assistance (AssistanceSteers), and with a slot selected
goes to ACQUIRE with F_int seeded from F_app. Each change of state or of the assisted flag is told by CLOCK_STATE. Each change of the
selected slot is told by SELECTION, clears the lock count, the mismatch count and step-now pending, and moves the SELECTED state
(R51, R49). -/
def Obligations.ClockFollowsEpochs : Prop :=
  ∀ s : State, s.closeDue = true → ∃ t : State,
    exec .epochClose s = .next t ∧
    let closes := s.slotCloses (s.tsg.seconds - 1)
    let items := closes.mapIdx fun _ c => c.item
    let old := s.sde.selected
    let new := chooseSlot items s.tru.config old
    let entryE :=
      min (s.tru.config.eFloor + (((s.sde.lastSelected.bind fun m => (closes.get m).slot.lastValue).map mag).getD 0))
        999999999999
    t.sde.selected = new ∧
    (new = old → t.sde.lastSelected = s.sde.lastSelected) ∧
    (new ≠ old →
      t.sde.lastSelected = new.or s.sde.lastSelected ∧ t.sde.lockCount = 0 ∧ t.sde.labelMismatch = 0 ∧
      t.sde.stepNow = false ∧ (∀ n : SlotId, new = some n → (t.rmu.slots.get n).state = .selected) ∧
      (∀ n : SlotId, old = some n → (items.get n).state = .selected → (t.rmu.slots.get n).state = .usable) ∧
      ∀ p : Port, s.told t p (.selection new)) ∧
    (∀ (n : SlotId) (e : Int) (l : Option Seconds), old = some n → (items.get n).outcome = .good e l →
      let within := mag e ≤ s.tru.config.lockThreshold
      let steps :=
        s.sde.stepNow = true ∧ e ≠ 0 ∨
          (s.sde.stepDecisionPending = true ∨ s.sde.clock ≠ .acquire) ∧ s.tru.config.stepThreshold < mag e ∧
            (s.tru.policy.stepsPermitted = true ∨ s.tsg.timeValid = false)
      let locks :=
        s.sde.clock = .acquire ∧ ¬steps ∧ within ∧ 15 ≤ s.sde.lockCount ∨
          s.sde.clock = .locked ∧ (within ∨ s.sde.decisionPending = false ∧ s.sde.lockLoss < 3) ∨
          s.sde.clock = .bridge ∧ within
      (new = old →
        (s.sde.clock = .acquire →
          t.sde.stepDecisionPending = false ∧ t.sde.stepNow = false ∧
          (steps ∨ ¬within → t.sde.clock = .acquire ∧ t.sde.lockCount = 0 ∧ t.tsg.timeValid = s.tsg.timeValid) ∧
          (¬steps → within → s.sde.lockCount < 15 →
            t.sde.clock = .acquire ∧ t.sde.lockCount = s.sde.lockCount + 1 ∧ t.tsg.timeValid = s.tsg.timeValid) ∧
          (¬steps → within → 15 ≤ s.sde.lockCount →
            t.sde.clock = .locked ∧ t.tsg.timeValid = true ∧ t.sde.lockedSinceStart = true ∧ t.sde.lockLoss = 0)) ∧
        (s.sde.clock = .locked →
          (within → t.sde.clock = .locked ∧ t.sde.lockLoss = 0 ∧ t.sde.decisionPending = false) ∧
          (¬within → s.sde.decisionPending = false → s.sde.lockLoss < 3 →
            t.sde.clock = .locked ∧ t.sde.lockLoss = s.sde.lockLoss + 1) ∧
          (¬within → s.sde.decisionPending = true ∨ 3 ≤ s.sde.lockLoss →
            t.sde.clock = .acquire ∧ t.sde.lockCount = 0 ∧ t.sde.decisionPending = false ∧
            t.sde.stepDecisionPending = false)) ∧
        (s.sde.clock = .bridge →
          t.sde.bridgeRemaining = 0 ∧ t.sde.decisionPending = false ∧
          (within → t.sde.clock = .locked ∧ t.tsg.timeValid = true ∧ t.sde.lockLoss = 0) ∧
          (¬within → t.sde.clock = .acquire ∧ t.sde.lockCount = 0 ∧ t.sde.stepDecisionPending = false))) ∧
      (new ≠ old → s.sde.clock = .acquire ∨ s.sde.clock = .locked ∨ s.sde.clock = .bridge →
        (locks → s.sde.clock ≠ .locked → t.tsg.timeValid = true ∧ t.sde.lockedSinceStart = true) ∧
        (¬locks ∨ s.sde.clock = .locked → t.tsg.timeValid = s.tsg.timeValid) ∧
        (locks → new ≠ none → t.sde.clock = .locked ∧ t.sde.decisionPending = true) ∧
        (¬locks → new ≠ none →
          t.sde.clock = .acquire ∧ t.sde.lockCount = 0 ∧ t.sde.stepDecisionPending = true) ∧
        (locks → new = none →
          t.sde.lockLoss = 0 ∧ t.sde.decisionPending = false ∧ t.sde.e = entryE ∧
          (0 < s.tru.config.bridgeTime →
            t.sde.clock = .bridge ∧ t.sde.bridgeRemaining = s.tru.config.bridgeTime ∧
            t.tsg.fApp = clampCorr t.sde.fInt ∧ t.sde.anchorCorr = t.sde.fInt) ∧
          (s.tru.config.bridgeTime = 0 →
            t.sde.clock = .holdover ∧ t.sde.anchorCorr = t.sde.fAvg ∧ t.sde.hours = 0)) ∧
        (¬locks → new = none →
          t.sde.stepDecisionPending = false ∧
          (s.tsg.timeValid = true →
            t.sde.clock = .holdover ∧ t.sde.anchorCorr = t.sde.fAvg ∧ t.sde.hours = 0 ∧
            (¬steps → t.sde.e = entryE)) ∧
          (s.tsg.timeValid = false → t.sde.clock = .freerun ∧ t.sde.e = eCap)))) ∧
    (s.sde.clock = .freerun ∨ s.sde.clock = .holdover ∨
        (∀ n : SlotId, old = some n → ∀ e l, (items.get n).outcome ≠ .good e l) →
      t.tsg.timeValid = s.tsg.timeValid ∧
      (s.sde.clock = .freerun →
        (old = none → new ≠ none →
          t.sde.clock = .acquire ∧ t.sde.lockCount = 0 ∧ t.sde.stepDecisionPending = true ∧ t.sde.fInt = s.sde.fInt) ∧
        (old ≠ none ∨ new = none → t.sde.clock = .freerun)) ∧
      (s.sde.clock = .acquire →
        (new = old → t.sde.clock = .acquire) ∧
        (new ≠ old → new ≠ none →
          t.sde.clock = .acquire ∧ t.sde.lockCount = 0 ∧ t.sde.stepDecisionPending = true) ∧
        (new ≠ old → new = none →
          t.sde.stepDecisionPending = false ∧
          (s.tsg.timeValid = true →
            t.sde.clock = .holdover ∧ t.sde.anchorCorr = s.sde.fAvg ∧ t.sde.hours = 0 ∧ t.sde.e = entryE) ∧
          (s.tsg.timeValid = false → t.sde.clock = .freerun ∧ t.sde.e = eCap))) ∧
      (s.sde.clock = .locked →
        (new = old → t.sde.clock = .locked) ∧
        (new ≠ old → new ≠ none → t.sde.clock = .locked ∧ t.sde.decisionPending = true) ∧
        (new ≠ old → new = none →
          t.sde.lockLoss = 0 ∧ t.sde.decisionPending = false ∧ t.sde.e = entryE ∧
          (0 < s.tru.config.bridgeTime →
            t.sde.clock = .bridge ∧ t.sde.bridgeRemaining = s.tru.config.bridgeTime ∧ t.sde.fInt = s.sde.fInt ∧
            t.tsg.fApp = clampCorr s.sde.fInt ∧ t.sde.anchorCorr = s.sde.fInt) ∧
          (s.tru.config.bridgeTime = 0 →
            t.sde.clock = .holdover ∧ t.sde.anchorCorr = s.sde.fAvg ∧ t.sde.hours = 0))) ∧
      (s.sde.clock = .bridge →
        t.sde.clock = .bridge ∧ t.tsg.fApp = s.tsg.fApp ∧
        (new ≠ old → t.sde.decisionPending = new.isSome) ∧ (new = old → t.sde.decisionPending = s.sde.decisionPending)) ∧
      (s.sde.clock = .holdover →
        let held := s.judgeAssistance (items.get 2)
        t.tsg.fApp = held.tsg.fApp ∧
        (new ≠ none →
          t.sde.clock = .acquire ∧ t.sde.fInt = t.tsg.fApp ∧ t.sde.assisted = false ∧ t.sde.lockCount = 0 ∧
          t.sde.stepDecisionPending = true) ∧
        (new = none →
          t.sde.clock = .holdover ∧ t.sde.fInt = s.sde.fInt ∧ t.sde.assisted = held.sde.assisted ∧
          t.sde.anchorCorr = held.sde.anchorCorr ∧ t.sde.anchorBin = held.sde.anchorBin ∧
          t.sde.anchorSeconds = held.sde.anchorSeconds ∧ t.sde.hours = held.sde.hours))) ∧
    (t.sde.clock ≠ s.sde.clock ∨ t.sde.assisted ≠ s.sde.assisted → ∀ p : Port,
      s.told t p (.clockState t.sde.clock t.sde.assisted t.tsg.timeValid))

/-- In HOLDOVER a GOOD LF epoch f of a calibrated LF, enabled and of non-zero priority, in RUN with a settled oven, steers
F_app by a quarter of f − b and sets the assisted flag; otherwise an assisted holdover ends with its anchor at F_app as it
stands, and an unassisted one goes on. Each change of the flag posts CLOCK_STATE. -/
def Obligations.AssistanceSteers : Prop :=
  ∀ (s : State) (lf : SlotItem),
    let t := s.judgeAssistance lf
    let able := s.sde.lfCount = 600 ∧ lf.priority ≠ 0 ∧ lf.state ≠ .off ∧ s.spm.power = .run ∧ s.spm.oven = .settled
    let posted := fun b : Bool => ∀ p : Port,
      t.nu.get p =
        (if s.attached p = true then (s.nu.get p).file (.clockState s.sde.clock b s.tsg.timeValid) else s.nu.get p)
    (∀ f l, lf.outcome = .good f l → able →
      t =
        { s with
          tsg := { s.tsg with fApp := clampCorr (s.tsg.fApp - roundDiv (f - s.sde.bias) 4) }
          sde := { s.sde with assisted := true }, nu := t.nu } ∧
      (s.sde.assisted = true → t.nu = s.nu) ∧ (s.sde.assisted = false → posted true)) ∧
    ((¬able ∨ ∀ f l, lf.outcome ≠ .good f l) →
      (s.sde.assisted = false → t = s) ∧
      (s.sde.assisted = true →
        t =
          { s with
            sde :=
              { s.sde with
                assisted := false, anchorCorr := s.tsg.fApp, anchorBin := s.currentBin
                anchorSeconds := s.tsg.seconds, hours := 0 }
            nu := t.nu } ∧
        posted false))

/-- The label of a GOOD epoch k: while time is not valid a differing label orders a seconds set; while it is valid an equal
label clears the mismatch count and a differing one raises it, and the third orders the set and clears it. A set makes the
count λ + (c − k), moves the RMU's held epochs by the same difference, clears the day accumulators when the day changes, and
posts SECONDS_SET. -/
def Obligations.SecondsSetFollowsLabels : Prop :=
  ∀ (s : State) (k l : Seconds),
    let count := fun n : Nat => { s with sde := { s.sde with labelMismatch := n } }
    s.labelRule k none = (s, none) ∧
    (s.tsg.timeValid = false → s.labelRule k (some l) = (s, if l = k then none else some l)) ∧
    (s.tsg.timeValid = true →
      (l = k → s.labelRule k (some l) = (count 0, none)) ∧
      (l ≠ k → s.sde.labelMismatch < 2 → s.labelRule k (some l) = (count (s.sde.labelMismatch + 1), none)) ∧
      (l ≠ k → 2 ≤ s.sde.labelMismatch → s.labelRule k (some l) = (count 0, some l))) ∧
    let t := s.setFromLabel k l
    let v := l + (s.tsg.seconds - k)
    let d := v - s.tsg.seconds
    t = { s with tsg := { s.tsg with seconds := v }, rmu := t.rmu, ols := t.ols, nu := t.nu } ∧
    t.rmu.lastClosed = s.rmu.lastClosed + d ∧ t.rmu.lfVoid = true ∧ t.rmu.lfMark = s.rmu.lfMark ∧
    t.rmu.targetA = s.rmu.targetA.map (fun x => { x with epoch := x.epoch + d }) ∧
    t.rmu.targetB = s.rmu.targetB.map (fun x => { x with epoch := x.epoch + d }) ∧
    (∀ n : SlotId,
      t.rmu.slots.get n =
        { s.rmu.slots.get n with
          queue := mapEntries (fun e => { e with stamp := e.stamp + d }) (s.rmu.slots.get n).queue
          tallies := (s.rmu.slots.get n).tallies.map fun x => { x with epoch := x.epoch + d } }) ∧
    t.ols =
      (if s.tsg.seconds.toNat / 86400 = v.toNat / 86400 then s.ols
      else { s.ols with dayLocked := 0, dayCorr := 0, dayTemp := 0 }) ∧
    ∀ p : Port,
      t.nu.get p =
        (if s.attached p = true then
          let n := (s.nu.get p).file (.secondsSet v)
          { n with latches := { n.latches with stepped := true } }
        else s.nu.get p)

/-- The judgement of tolerance sets the flag of every attached tenant to whether time is valid and E is within its limit, and
each change of a flag posts TOL_REGAINED or TOL_LOST with E to that tenant alone; a detached tenant keeps its flag. A flag that
goes out takes its IN_TOLERANCE latch with it, no latch-low rises, and where no flag changes nothing does. -/
def Obligations.ToleranceIsJudged : Prop :=
  ∀ s : State,
    let t := s.judgeAll
    t = { s with sde := { s.sde with tol := t.sde.tol }, nu := t.nu } ∧
    ((∀ p : Port, s.attached p = true →
        s.sde.tol.get p = (s.tsg.timeValid && decide (s.sde.e ≤ (s.tru.tenants.get p).adv.limit))) → t = s) ∧
    ∀ p : Port,
      let flag := s.tsg.timeValid && decide (s.sde.e ≤ (s.tru.tenants.get p).adv.limit)
      let n := s.nu.get p
      (s.attached p = false → t.sde.tol.get p = s.sde.tol.get p ∧ t.nu.get p = n) ∧
      (s.attached p = true →
        t.sde.tol.get p = flag ∧
        (flag ≠ s.sde.tol.get p → flag = false → (t.nu.get p).latches.inTolerance = false) ∧
        (let l := (t.nu.get p).latches
         (l.timeValid = true → n.latches.timeValid = true) ∧ (l.inTolerance = true → n.latches.inTolerance = true) ∧
         (l.locked = true → n.latches.locked = true) ∧ (l.ovenSettled = true → n.latches.ovenSettled = true) ∧
         l.refFault = n.latches.refFault ∧ l.stepped = n.latches.stepped) ∧
        t.nu.get p =
          { (if flag = s.sde.tol.get p then n
            else n.file (if flag then .tolRegained s.sde.e else .tolLost s.sde.e)) with
            latches := (t.nu.get p).latches })

end
end

