-- ==== Sys2Proof/Laws/Flags.lean ====
section
/-!
SUPPORT. What posting, the latches and the judgement of tolerance leave unchanged, and what the setting of E leaves of the
SDE. Each lemma says once what an operation keeps.
-/

namespace Sys2Proof.Machine

/-- State.post changes at most nu. -/
@[simp] theorem State.post_frame (named : Port → Bool) (r : Report) (s : State) :
    (s.post named r).tsg = s.tsg ∧
      (s.post named r).rmu = s.rmu ∧
      (s.post named r).sde = s.sde ∧
      (s.post named r).ols = s.ols ∧
      (s.post named r).tru = s.tru ∧
      (s.post named r).pou = s.pou ∧
      (s.post named r).spm = s.spm ∧
      (s.post named r).tpi = s.tpi ∧
      (s.post named r).pins = s.pins ∧
      (s.post named r).freeIndex = s.freeIndex ∧
      (s.post named r).pending = s.pending := by
  exact ⟨rfl, rfl, rfl, rfl, rfl, rfl, rfl, rfl, rfl, rfl, rfl⟩

/-- State.postAll changes at most nu. -/
@[simp] theorem State.postAll_frame (r : Report) (s : State) :
    (s.postAll r).tsg = s.tsg ∧
      (s.postAll r).rmu = s.rmu ∧
      (s.postAll r).sde = s.sde ∧
      (s.postAll r).ols = s.ols ∧
      (s.postAll r).tru = s.tru ∧
      (s.postAll r).pou = s.pou ∧
      (s.postAll r).spm = s.spm ∧
      (s.postAll r).tpi = s.tpi ∧
      (s.postAll r).pins = s.pins ∧
      (s.postAll r).freeIndex = s.freeIndex ∧
      (s.postAll r).pending = s.pending := by
  exact ⟨rfl, rfl, rfl, rfl, rfl, rfl, rfl, rfl, rfl, rfl, rfl⟩

/-- State.postTo changes at most nu. -/
@[simp] theorem State.postTo_frame (t : Port) (r : Report) (s : State) :
    (s.postTo t r).tsg = s.tsg ∧
      (s.postTo t r).rmu = s.rmu ∧
      (s.postTo t r).sde = s.sde ∧
      (s.postTo t r).ols = s.ols ∧
      (s.postTo t r).tru = s.tru ∧
      (s.postTo t r).pou = s.pou ∧
      (s.postTo t r).spm = s.spm ∧
      (s.postTo t r).tpi = s.tpi ∧
      (s.postTo t r).pins = s.pins ∧
      (s.postTo t r).freeIndex = s.freeIndex ∧
      (s.postTo t r).pending = s.pending := by
  exact ⟨rfl, rfl, rfl, rfl, rfl, rfl, rfl, rfl, rfl, rfl, rfl⟩

/-- State.watchLatches changes at most nu. -/
@[simp] theorem State.watchLatches_frame (s : State) :
    (s.watchLatches).tsg = s.tsg ∧
      (s.watchLatches).rmu = s.rmu ∧
      (s.watchLatches).sde = s.sde ∧
      (s.watchLatches).ols = s.ols ∧
      (s.watchLatches).tru = s.tru ∧
      (s.watchLatches).pou = s.pou ∧
      (s.watchLatches).spm = s.spm ∧
      (s.watchLatches).tpi = s.tpi ∧
      (s.watchLatches).pins = s.pins ∧
      (s.watchLatches).freeIndex = s.freeIndex ∧
      (s.watchLatches).pending = s.pending := by
  exact ⟨rfl, rfl, rfl, rfl, rfl, rfl, rfl, rfl, rfl, rfl, rfl⟩

/-- State.armLatches changes at most nu. -/
@[simp] theorem State.armLatches_frame (t : Port) (s : State) :
    (s.armLatches t).tsg = s.tsg ∧
      (s.armLatches t).rmu = s.rmu ∧
      (s.armLatches t).sde = s.sde ∧
      (s.armLatches t).ols = s.ols ∧
      (s.armLatches t).tru = s.tru ∧
      (s.armLatches t).pou = s.pou ∧
      (s.armLatches t).spm = s.spm ∧
      (s.armLatches t).tpi = s.tpi ∧
      (s.armLatches t).pins = s.pins ∧
      (s.armLatches t).freeIndex = s.freeIndex ∧
      (s.armLatches t).pending = s.pending := by
  exact ⟨rfl, rfl, rfl, rfl, rfl, rfl, rfl, rfl, rfl, rfl, rfl⟩

/-- State.latchRefFault changes at most nu. -/
@[simp] theorem State.latchRefFault_frame (s : State) :
    (s.latchRefFault).tsg = s.tsg ∧
      (s.latchRefFault).rmu = s.rmu ∧
      (s.latchRefFault).sde = s.sde ∧
      (s.latchRefFault).ols = s.ols ∧
      (s.latchRefFault).tru = s.tru ∧
      (s.latchRefFault).pou = s.pou ∧
      (s.latchRefFault).spm = s.spm ∧
      (s.latchRefFault).tpi = s.tpi ∧
      (s.latchRefFault).pins = s.pins ∧
      (s.latchRefFault).freeIndex = s.freeIndex ∧
      (s.latchRefFault).pending = s.pending := by
  exact ⟨rfl, rfl, rfl, rfl, rfl, rfl, rfl, rfl, rfl, rfl, rfl⟩

/-- State.latchStepped changes at most nu. -/
@[simp] theorem State.latchStepped_frame (s : State) :
    (s.latchStepped).tsg = s.tsg ∧
      (s.latchStepped).rmu = s.rmu ∧
      (s.latchStepped).sde = s.sde ∧
      (s.latchStepped).ols = s.ols ∧
      (s.latchStepped).tru = s.tru ∧
      (s.latchStepped).pou = s.pou ∧
      (s.latchStepped).spm = s.spm ∧
      (s.latchStepped).tpi = s.tpi ∧
      (s.latchStepped).pins = s.pins ∧
      (s.latchStepped).freeIndex = s.freeIndex ∧
      (s.latchStepped).pending = s.pending := by
  exact ⟨rfl, rfl, rfl, rfl, rfl, rfl, rfl, rfl, rfl, rfl, rfl⟩

/-- State.setTol changes at most sde. -/
@[simp] theorem State.setTol_frame (t : Port) (b : Bool) (s : State) :
    (s.setTol t b).tsg = s.tsg ∧
      (s.setTol t b).rmu = s.rmu ∧
      (s.setTol t b).ols = s.ols ∧
      (s.setTol t b).tru = s.tru ∧
      (s.setTol t b).nu = s.nu ∧
      (s.setTol t b).pou = s.pou ∧
      (s.setTol t b).spm = s.spm ∧
      (s.setTol t b).tpi = s.tpi ∧
      (s.setTol t b).pins = s.pins ∧
      (s.setTol t b).freeIndex = s.freeIndex ∧
      (s.setTol t b).pending = s.pending := by
  exact ⟨rfl, rfl, rfl, rfl, rfl, rfl, rfl, rfl, rfl, rfl, rfl⟩

/-- State.judgeTenant changes at most sde, nu. -/
@[simp] theorem State.judgeTenant_frame (t : Port) (s : State) :
    (s.judgeTenant t).tsg = s.tsg ∧
      (s.judgeTenant t).rmu = s.rmu ∧
      (s.judgeTenant t).ols = s.ols ∧
      (s.judgeTenant t).tru = s.tru ∧
      (s.judgeTenant t).pou = s.pou ∧
      (s.judgeTenant t).spm = s.spm ∧
      (s.judgeTenant t).tpi = s.tpi ∧
      (s.judgeTenant t).pins = s.pins ∧
      (s.judgeTenant t).freeIndex = s.freeIndex ∧
      (s.judgeTenant t).pending = s.pending := by
  unfold State.judgeTenant; split <;> simp

/-- State.judgeAll changes at most sde, nu. -/
@[simp] theorem State.judgeAll_frame (s : State) :
    (s.judgeAll).tsg = s.tsg ∧
      (s.judgeAll).rmu = s.rmu ∧
      (s.judgeAll).ols = s.ols ∧
      (s.judgeAll).tru = s.tru ∧
      (s.judgeAll).pou = s.pou ∧
      (s.judgeAll).spm = s.spm ∧
      (s.judgeAll).tpi = s.tpi ∧
      (s.judgeAll).pins = s.pins ∧
      (s.judgeAll).freeIndex = s.freeIndex ∧
      (s.judgeAll).pending = s.pending := by
  simp [State.judgeAll]

/-- State.setE changes at most sde, nu. -/
@[simp] theorem State.setE_frame (e : Int) (s : State) :
    (s.setE e).tsg = s.tsg ∧
      (s.setE e).rmu = s.rmu ∧
      (s.setE e).ols = s.ols ∧
      (s.setE e).tru = s.tru ∧
      (s.setE e).pou = s.pou ∧
      (s.setE e).spm = s.spm ∧
      (s.setE e).tpi = s.tpi ∧
      (s.setE e).pins = s.pins ∧
      (s.setE e).freeIndex = s.freeIndex ∧
      (s.setE e).pending = s.pending := by
  simp [State.setE]

/-- The judgement of one tenant changes nothing of the SDE but the tolerance flags. -/
theorem State.judgeTenant_sde (t : Port) (s : State) : ∃ q, (s.judgeTenant t).sde = { s.sde with tol := q } := by
  unfold State.judgeTenant
  split
  · exact ⟨s.sde.tol, rfl⟩
  · exact ⟨_, by simp [State.setTol]; rfl⟩

/-- The judgement of tolerance changes nothing of the SDE but the tolerance flags. -/
theorem State.judgeAll_sde (s : State) : ∃ q, s.judgeAll.sde = { s.sde with tol := q } := by
  obtain ⟨_, ha⟩ := State.judgeTenant_sde 0 s
  obtain ⟨_, hb⟩ := State.judgeTenant_sde 1 (s.judgeTenant 0)
  obtain ⟨c, hc⟩ := State.judgeTenant_sde 2 ((s.judgeTenant 0).judgeTenant 1)
  refine ⟨c, ?_⟩
  unfold State.judgeAll
  rw [hc, hb, ha]

/-- Setting E clamps it to its cap and changes nothing else of the SDE but the tolerance flags. -/
theorem State.setE_sde (e : Int) (s : State) :
    ∃ q, (s.setE e).sde = { s.sde with e := min e eCap, tol := q } :=
  State.judgeAll_sde { s with sde := { s.sde with e := min e eCap } }

end Sys2Proof.Machine
end

