-- ==== Sys2Proof/Laws/Ops.lean ====
section
/-!
SUPPORT. What the shared operations of Machine/Ops.lean leave unchanged. Each lemma says once what an operation keeps.
-/

namespace Sys2Proof.Machine

/-- advanceCycles replaces the TSG and the outputs, and nothing else. -/
theorem State.advanceCycles_shape (n : Nat) (s : State) :
    ∃ (a : Tsg) (b : Four Output), s.advanceCycles n = { s with tsg := a, pou := b } := ⟨_, _, rfl⟩

/-- passSecond replaces the TSG and the outputs, and nothing else. -/
theorem State.passSecond_shape (s : State) :
    ∃ (a : Tsg) (b : Four Output), s.passSecond = { s with tsg := a, pou := b } := ⟨_, _, rfl⟩

/-- State.advanceCycles changes at most tsg, pou. -/
@[simp] theorem State.advanceCycles_frame (n : Nat) (s : State) :
    (s.advanceCycles n).rmu = s.rmu ∧
      (s.advanceCycles n).sde = s.sde ∧
      (s.advanceCycles n).ols = s.ols ∧
      (s.advanceCycles n).tru = s.tru ∧
      (s.advanceCycles n).nu = s.nu ∧
      (s.advanceCycles n).spm = s.spm ∧
      (s.advanceCycles n).tpi = s.tpi ∧
      (s.advanceCycles n).pins = s.pins ∧
      (s.advanceCycles n).freeIndex = s.freeIndex ∧
      (s.advanceCycles n).pending = s.pending := by
  obtain ⟨a, b, h⟩ := State.advanceCycles_shape n s; rw [h]; simp

/-- State.advanceToPhase changes at most tsg, pou. -/
@[simp] theorem State.advanceToPhase_frame (ps : Nat) (s : State) :
    (s.advanceToPhase ps).rmu = s.rmu ∧
      (s.advanceToPhase ps).sde = s.sde ∧
      (s.advanceToPhase ps).ols = s.ols ∧
      (s.advanceToPhase ps).tru = s.tru ∧
      (s.advanceToPhase ps).nu = s.nu ∧
      (s.advanceToPhase ps).spm = s.spm ∧
      (s.advanceToPhase ps).tpi = s.tpi ∧
      (s.advanceToPhase ps).pins = s.pins ∧
      (s.advanceToPhase ps).freeIndex = s.freeIndex ∧
      (s.advanceToPhase ps).pending = s.pending := by
  exact State.advanceCycles_frame _ s

/-- State.passSecond changes at most tsg, pou. -/
@[simp] theorem State.passSecond_frame (s : State) :
    (s.passSecond).rmu = s.rmu ∧
      (s.passSecond).sde = s.sde ∧
      (s.passSecond).ols = s.ols ∧
      (s.passSecond).tru = s.tru ∧
      (s.passSecond).nu = s.nu ∧
      (s.passSecond).spm = s.spm ∧
      (s.passSecond).tpi = s.tpi ∧
      (s.passSecond).pins = s.pins ∧
      (s.passSecond).freeIndex = s.freeIndex ∧
      (s.passSecond).pending = s.pending := by
  obtain ⟨a, b, h⟩ := State.passSecond_shape s; rw [h]; simp

/-- State.orderFApp changes at most tsg. -/
@[simp] theorem State.orderFApp_frame (f : Int) (s : State) :
    (s.orderFApp f).rmu = s.rmu ∧
      (s.orderFApp f).sde = s.sde ∧
      (s.orderFApp f).ols = s.ols ∧
      (s.orderFApp f).tru = s.tru ∧
      (s.orderFApp f).nu = s.nu ∧
      (s.orderFApp f).pou = s.pou ∧
      (s.orderFApp f).spm = s.spm ∧
      (s.orderFApp f).tpi = s.tpi ∧
      (s.orderFApp f).pins = s.pins ∧
      (s.orderFApp f).freeIndex = s.freeIndex ∧
      (s.orderFApp f).pending = s.pending := by
  exact ⟨rfl, rfl, rfl, rfl, rfl, rfl, rfl, rfl, rfl, rfl, rfl⟩

/-- State.postHalted changes at most nu. -/
@[simp] theorem State.postHalted_frame (n : SlotId) (s : State) :
    (s.postHalted n).tsg = s.tsg ∧
      (s.postHalted n).rmu = s.rmu ∧
      (s.postHalted n).sde = s.sde ∧
      (s.postHalted n).ols = s.ols ∧
      (s.postHalted n).tru = s.tru ∧
      (s.postHalted n).pou = s.pou ∧
      (s.postHalted n).spm = s.spm ∧
      (s.postHalted n).tpi = s.tpi ∧
      (s.postHalted n).pins = s.pins ∧
      (s.postHalted n).freeIndex = s.freeIndex ∧
      (s.postHalted n).pending = s.pending := by
  exact ⟨rfl, rfl, rfl, rfl, rfl, rfl, rfl, rfl, rfl, rfl, rfl⟩

/-- State.postDisqualified changes at most nu. -/
@[simp] theorem State.postDisqualified_frame (n : SlotId) (s : State) :
    (s.postDisqualified n).tsg = s.tsg ∧
      (s.postDisqualified n).rmu = s.rmu ∧
      (s.postDisqualified n).sde = s.sde ∧
      (s.postDisqualified n).ols = s.ols ∧
      (s.postDisqualified n).tru = s.tru ∧
      (s.postDisqualified n).pou = s.pou ∧
      (s.postDisqualified n).spm = s.spm ∧
      (s.postDisqualified n).tpi = s.tpi ∧
      (s.postDisqualified n).pins = s.pins ∧
      (s.postDisqualified n).freeIndex = s.freeIndex ∧
      (s.postDisqualified n).pending = s.pending := by
  exact ⟨rfl, rfl, rfl, rfl, rfl, rfl, rfl, rfl, rfl, rfl, rfl⟩

/-- State.applyStep changes at most tsg, rmu. -/
@[simp] theorem State.applyStep_frame (d : Int) (s : State) :
    (s.applyStep d).sde = s.sde ∧
      (s.applyStep d).ols = s.ols ∧
      (s.applyStep d).tru = s.tru ∧
      (s.applyStep d).nu = s.nu ∧
      (s.applyStep d).pou = s.pou ∧
      (s.applyStep d).spm = s.spm ∧
      (s.applyStep d).tpi = s.tpi ∧
      (s.applyStep d).pins = s.pins ∧
      (s.applyStep d).freeIndex = s.freeIndex ∧
      (s.applyStep d).pending = s.pending := by
  exact ⟨rfl, rfl, rfl, rfl, rfl, rfl, rfl, rfl, rfl, rfl⟩

/-- State.applySet changes at most tsg, rmu, ols. -/
@[simp] theorem State.applySet_frame (v : Seconds) (s : State) :
    (s.applySet v).sde = s.sde ∧
      (s.applySet v).tru = s.tru ∧
      (s.applySet v).nu = s.nu ∧
      (s.applySet v).pou = s.pou ∧
      (s.applySet v).spm = s.spm ∧
      (s.applySet v).tpi = s.tpi ∧
      (s.applySet v).pins = s.pins ∧
      (s.applySet v).freeIndex = s.freeIndex ∧
      (s.applySet v).pending = s.pending := by
  exact ⟨rfl, rfl, rfl, rfl, rfl, rfl, rfl, rfl, rfl⟩

/-- State.startWrite changes at most ols. -/
@[simp] theorem State.startWrite_frame (s : State) :
    (s.startWrite).tsg = s.tsg ∧
      (s.startWrite).rmu = s.rmu ∧
      (s.startWrite).sde = s.sde ∧
      (s.startWrite).tru = s.tru ∧
      (s.startWrite).nu = s.nu ∧
      (s.startWrite).pou = s.pou ∧
      (s.startWrite).spm = s.spm ∧
      (s.startWrite).tpi = s.tpi ∧
      (s.startWrite).pins = s.pins ∧
      (s.startWrite).freeIndex = s.freeIndex ∧
      (s.startWrite).pending = s.pending := by
  exact ⟨rfl, rfl, rfl, rfl, rfl, rfl, rfl, rfl, rfl, rfl, rfl⟩

/-- State.takeAnchor changes at most sde. -/
@[simp] theorem State.takeAnchor_frame (f : Int) (s : State) :
    (s.takeAnchor f).tsg = s.tsg ∧
      (s.takeAnchor f).rmu = s.rmu ∧
      (s.takeAnchor f).ols = s.ols ∧
      (s.takeAnchor f).tru = s.tru ∧
      (s.takeAnchor f).nu = s.nu ∧
      (s.takeAnchor f).pou = s.pou ∧
      (s.takeAnchor f).spm = s.spm ∧
      (s.takeAnchor f).tpi = s.tpi ∧
      (s.takeAnchor f).pins = s.pins ∧
      (s.takeAnchor f).freeIndex = s.freeIndex ∧
      (s.takeAnchor f).pending = s.pending := by
  exact ⟨rfl, rfl, rfl, rfl, rfl, rfl, rfl, rfl, rfl, rfl, rfl⟩

/-- State.postOven changes at most nu. -/
@[simp] theorem State.postOven_frame (s : State) :
    (s.postOven).tsg = s.tsg ∧
      (s.postOven).rmu = s.rmu ∧
      (s.postOven).sde = s.sde ∧
      (s.postOven).ols = s.ols ∧
      (s.postOven).tru = s.tru ∧
      (s.postOven).pou = s.pou ∧
      (s.postOven).spm = s.spm ∧
      (s.postOven).tpi = s.tpi ∧
      (s.postOven).pins = s.pins ∧
      (s.postOven).freeIndex = s.freeIndex ∧
      (s.postOven).pending = s.pending := by
  exact ⟨rfl, rfl, rfl, rfl, rfl, rfl, rfl, rfl, rfl, rfl, rfl⟩

/-- State.requestWrite changes at most ols. -/
@[simp] theorem State.requestWrite_frame (s : State) :
    (s.requestWrite).tsg = s.tsg ∧
      (s.requestWrite).rmu = s.rmu ∧
      (s.requestWrite).sde = s.sde ∧
      (s.requestWrite).tru = s.tru ∧
      (s.requestWrite).nu = s.nu ∧
      (s.requestWrite).pou = s.pou ∧
      (s.requestWrite).spm = s.spm ∧
      (s.requestWrite).tpi = s.tpi ∧
      (s.requestWrite).pins = s.pins ∧
      (s.requestWrite).freeIndex = s.freeIndex ∧
      (s.requestWrite).pending = s.pending := by
  unfold State.requestWrite; split <;> simp

/-- State.validSample changes at most ols, nu. -/
@[simp] theorem State.validSample_frame (θ : Int) (s : State) :
    (s.validSample θ).tsg = s.tsg ∧
      (s.validSample θ).rmu = s.rmu ∧
      (s.validSample θ).sde = s.sde ∧
      (s.validSample θ).tru = s.tru ∧
      (s.validSample θ).pou = s.pou ∧
      (s.validSample θ).spm = s.spm ∧
      (s.validSample θ).tpi = s.tpi ∧
      (s.validSample θ).pins = s.pins ∧
      (s.validSample θ).freeIndex = s.freeIndex ∧
      (s.validSample θ).pending = s.pending := by
  unfold State.validSample; cases s.ols.theta <;> cases s.ols.sensorFault <;> simp

/-- State.failedSample changes at most ols, nu. -/
@[simp] theorem State.failedSample_frame (s : State) :
    (s.failedSample).tsg = s.tsg ∧
      (s.failedSample).rmu = s.rmu ∧
      (s.failedSample).sde = s.sde ∧
      (s.failedSample).tru = s.tru ∧
      (s.failedSample).pou = s.pou ∧
      (s.failedSample).spm = s.spm ∧
      (s.failedSample).tpi = s.tpi ∧
      (s.failedSample).pins = s.pins ∧
      (s.failedSample).freeIndex = s.freeIndex ∧
      (s.failedSample).pending = s.pending := by
  unfold State.failedSample; dsimp only; split <;> simp

/-- State.endRead changes at most ols, nu. -/
@[simp] theorem State.endRead_frame (r : SensorResult) (s : State) :
    (s.endRead r).tsg = s.tsg ∧
      (s.endRead r).rmu = s.rmu ∧
      (s.endRead r).sde = s.sde ∧
      (s.endRead r).tru = s.tru ∧
      (s.endRead r).pou = s.pou ∧
      (s.endRead r).spm = s.spm ∧
      (s.endRead r).tpi = s.tpi ∧
      (s.endRead r).pins = s.pins ∧
      (s.endRead r).freeIndex = s.freeIndex ∧
      (s.endRead r).pending = s.pending := by
  unfold State.endRead; split; · simp
  · split <;> simp

/-- State.enterClock changes at most sde, nu. -/
@[simp] theorem State.enterClock_frame (c : ClockState) (s : State) :
    (s.enterClock c).tsg = s.tsg ∧
      (s.enterClock c).rmu = s.rmu ∧
      (s.enterClock c).ols = s.ols ∧
      (s.enterClock c).tru = s.tru ∧
      (s.enterClock c).pou = s.pou ∧
      (s.enterClock c).spm = s.spm ∧
      (s.enterClock c).tpi = s.tpi ∧
      (s.enterClock c).pins = s.pins ∧
      (s.enterClock c).freeIndex = s.freeIndex ∧
      (s.enterClock c).pending = s.pending := by
  unfold State.enterClock; split <;> simp

/-- State.enterHoldover changes at most sde, nu. -/
@[simp] theorem State.enterHoldover_frame (s : State) :
    (s.enterHoldover).tsg = s.tsg ∧
      (s.enterHoldover).rmu = s.rmu ∧
      (s.enterHoldover).ols = s.ols ∧
      (s.enterHoldover).tru = s.tru ∧
      (s.enterHoldover).pou = s.pou ∧
      (s.enterHoldover).spm = s.spm ∧
      (s.enterHoldover).tpi = s.tpi ∧
      (s.enterHoldover).pins = s.pins ∧
      (s.enterHoldover).freeIndex = s.freeIndex ∧
      (s.enterHoldover).pending = s.pending := by
  unfold State.enterHoldover; dsimp only; split <;> simp

/-- State.enterBridge changes at most tsg, sde, nu. -/
@[simp] theorem State.enterBridge_frame (s : State) :
    (s.enterBridge).rmu = s.rmu ∧
      (s.enterBridge).ols = s.ols ∧
      (s.enterBridge).tru = s.tru ∧
      (s.enterBridge).pou = s.pou ∧
      (s.enterBridge).spm = s.spm ∧
      (s.enterBridge).tpi = s.tpi ∧
      (s.enterBridge).pins = s.pins ∧
      (s.enterBridge).freeIndex = s.freeIndex ∧
      (s.enterBridge).pending = s.pending := by
  simp [State.enterBridge]

/-- State.enterFreerun changes at most sde, nu. -/
@[simp] theorem State.enterFreerun_frame (s : State) :
    (s.enterFreerun).tsg = s.tsg ∧
      (s.enterFreerun).rmu = s.rmu ∧
      (s.enterFreerun).ols = s.ols ∧
      (s.enterFreerun).tru = s.tru ∧
      (s.enterFreerun).pou = s.pou ∧
      (s.enterFreerun).spm = s.spm ∧
      (s.enterFreerun).tpi = s.tpi ∧
      (s.enterFreerun).pins = s.pins ∧
      (s.enterFreerun).freeIndex = s.freeIndex ∧
      (s.enterFreerun).pending = s.pending := by
  simp [State.enterFreerun]

/-- State.ovenSettles changes at most spm, nu. -/
@[simp] theorem State.ovenSettles_frame (s : State) :
    (s.ovenSettles).tsg = s.tsg ∧
      (s.ovenSettles).rmu = s.rmu ∧
      (s.ovenSettles).sde = s.sde ∧
      (s.ovenSettles).ols = s.ols ∧
      (s.ovenSettles).tru = s.tru ∧
      (s.ovenSettles).pou = s.pou ∧
      (s.ovenSettles).tpi = s.tpi ∧
      (s.ovenSettles).pins = s.pins ∧
      (s.ovenSettles).freeIndex = s.freeIndex ∧
      (s.ovenSettles).pending = s.pending := by
  simp [State.ovenSettles]

/-- State.ovenOn changes at most spm, nu. -/
@[simp] theorem State.ovenOn_frame (s : State) :
    (s.ovenOn).tsg = s.tsg ∧
      (s.ovenOn).rmu = s.rmu ∧
      (s.ovenOn).sde = s.sde ∧
      (s.ovenOn).ols = s.ols ∧
      (s.ovenOn).tru = s.tru ∧
      (s.ovenOn).pou = s.pou ∧
      (s.ovenOn).tpi = s.tpi ∧
      (s.ovenOn).pins = s.pins ∧
      (s.ovenOn).freeIndex = s.freeIndex ∧
      (s.ovenOn).pending = s.pending := by
  unfold State.ovenOn; dsimp only; split <;> simp

/-- State.ovenOff changes at most spm, nu. -/
@[simp] theorem State.ovenOff_frame (s : State) :
    (s.ovenOff).tsg = s.tsg ∧
      (s.ovenOff).rmu = s.rmu ∧
      (s.ovenOff).sde = s.sde ∧
      (s.ovenOff).ols = s.ols ∧
      (s.ovenOff).tru = s.tru ∧
      (s.ovenOff).pou = s.pou ∧
      (s.ovenOff).tpi = s.tpi ∧
      (s.ovenOff).pins = s.pins ∧
      (s.ovenOff).freeIndex = s.freeIndex ∧
      (s.ovenOff).pending = s.pending := by
  unfold State.ovenOff; dsimp only; split <;> simp

/-- State.resolve changes at most tru, nu. -/
@[simp] theorem State.resolve_frame (s : State) :
    (s.resolve).tsg = s.tsg ∧
      (s.resolve).rmu = s.rmu ∧
      (s.resolve).sde = s.sde ∧
      (s.resolve).ols = s.ols ∧
      (s.resolve).pou = s.pou ∧
      (s.resolve).spm = s.spm ∧
      (s.resolve).tpi = s.tpi ∧
      (s.resolve).pins = s.pins ∧
      (s.resolve).freeIndex = s.freeIndex ∧
      (s.resolve).pending = s.pending := by
  simp [State.resolve]

/-- State.acknowledge changes at most tru. -/
@[simp] theorem State.acknowledge_frame (t : Port) (s : State) :
    (s.acknowledge t).tsg = s.tsg ∧
      (s.acknowledge t).rmu = s.rmu ∧
      (s.acknowledge t).sde = s.sde ∧
      (s.acknowledge t).ols = s.ols ∧
      (s.acknowledge t).nu = s.nu ∧
      (s.acknowledge t).pou = s.pou ∧
      (s.acknowledge t).spm = s.spm ∧
      (s.acknowledge t).tpi = s.tpi ∧
      (s.acknowledge t).pins = s.pins ∧
      (s.acknowledge t).freeIndex = s.freeIndex ∧
      (s.acknowledge t).pending = s.pending := by
  unfold State.acknowledge; split <;> simp

end Sys2Proof.Machine
end

