-- ==== Sys2Proof/Laws/Discipline.lean ====
section
/-!
SUPPORT. What each stage of the epoch summary leaves unchanged. Each lemma says once what an operation keeps.
-/

namespace Sys2Proof.Machine

/-- State.orderStep changes at most sde, nu. -/
@[simp] theorem State.orderStep_frame (e : Int) (s : State) :
    (s.orderStep e).tsg = s.tsg ∧
      (s.orderStep e).rmu = s.rmu ∧
      (s.orderStep e).ols = s.ols ∧
      (s.orderStep e).tru = s.tru ∧
      (s.orderStep e).pou = s.pou ∧
      (s.orderStep e).spm = s.spm ∧
      (s.orderStep e).tpi = s.tpi ∧
      (s.orderStep e).pins = s.pins ∧
      (s.orderStep e).freeIndex = s.freeIndex ∧
      (s.orderStep e).pending = s.pending := by
  simp [State.orderStep]

/-- State.stepDecision changes at most sde, nu. -/
@[simp] theorem State.stepDecision_frame (e : Int) (s : State) :
    ((s.stepDecision e).1).tsg = s.tsg ∧
      ((s.stepDecision e).1).rmu = s.rmu ∧
      ((s.stepDecision e).1).ols = s.ols ∧
      ((s.stepDecision e).1).tru = s.tru ∧
      ((s.stepDecision e).1).pou = s.pou ∧
      ((s.stepDecision e).1).spm = s.spm ∧
      ((s.stepDecision e).1).tpi = s.tpi ∧
      ((s.stepDecision e).1).pins = s.pins ∧
      ((s.stepDecision e).1).freeIndex = s.freeIndex ∧
      ((s.stepDecision e).1).pending = s.pending := by
  unfold State.stepDecision; dsimp only; split <;> simp

/-- State.enterLocked changes at most tsg, sde, nu. -/
@[simp] theorem State.enterLocked_frame (s : State) :
    (s.enterLocked).rmu = s.rmu ∧
      (s.enterLocked).ols = s.ols ∧
      (s.enterLocked).tru = s.tru ∧
      (s.enterLocked).pou = s.pou ∧
      (s.enterLocked).spm = s.spm ∧
      (s.enterLocked).tpi = s.tpi ∧
      (s.enterLocked).pins = s.pins ∧
      (s.enterLocked).freeIndex = s.freeIndex ∧
      (s.enterLocked).pending = s.pending := by
  simp [State.enterLocked]

/-- State.enterAcquireDeciding changes at most sde, nu. -/
@[simp] theorem State.enterAcquireDeciding_frame (e : Int) (s : State) :
    ((s.enterAcquireDeciding e).1).tsg = s.tsg ∧
      ((s.enterAcquireDeciding e).1).rmu = s.rmu ∧
      ((s.enterAcquireDeciding e).1).ols = s.ols ∧
      ((s.enterAcquireDeciding e).1).tru = s.tru ∧
      ((s.enterAcquireDeciding e).1).pou = s.pou ∧
      ((s.enterAcquireDeciding e).1).spm = s.spm ∧
      ((s.enterAcquireDeciding e).1).tpi = s.tpi ∧
      ((s.enterAcquireDeciding e).1).pins = s.pins ∧
      ((s.enterAcquireDeciding e).1).freeIndex = s.freeIndex ∧
      ((s.enterAcquireDeciding e).1).pending = s.pending := by
  simp [State.enterAcquireDeciding]

/-- State.goodAcquire changes at most tsg, sde, nu. -/
@[simp] theorem State.goodAcquire_frame (e : Int) (s : State) :
    ((s.goodAcquire e).1).rmu = s.rmu ∧
      ((s.goodAcquire e).1).ols = s.ols ∧
      ((s.goodAcquire e).1).tru = s.tru ∧
      ((s.goodAcquire e).1).pou = s.pou ∧
      ((s.goodAcquire e).1).spm = s.spm ∧
      ((s.goodAcquire e).1).tpi = s.tpi ∧
      ((s.goodAcquire e).1).pins = s.pins ∧
      ((s.goodAcquire e).1).freeIndex = s.freeIndex ∧
      ((s.goodAcquire e).1).pending = s.pending := by
  unfold State.goodAcquire; dsimp only; split
  · simp
  · split
    · split <;> simp
    · simp

/-- State.goodLocked changes at most tsg, sde, nu. -/
@[simp] theorem State.goodLocked_frame (e : Int) (s : State) :
    ((s.goodLocked e).1).rmu = s.rmu ∧
      ((s.goodLocked e).1).ols = s.ols ∧
      ((s.goodLocked e).1).tru = s.tru ∧
      ((s.goodLocked e).1).pou = s.pou ∧
      ((s.goodLocked e).1).spm = s.spm ∧
      ((s.goodLocked e).1).tpi = s.tpi ∧
      ((s.goodLocked e).1).pins = s.pins ∧
      ((s.goodLocked e).1).freeIndex = s.freeIndex ∧
      ((s.goodLocked e).1).pending = s.pending := by
  unfold State.goodLocked; dsimp only; split
  · simp
  · split
    · simp
    · split <;> simp

/-- State.goodBridge changes at most tsg, sde, nu. -/
@[simp] theorem State.goodBridge_frame (e : Int) (s : State) :
    ((s.goodBridge e).1).rmu = s.rmu ∧
      ((s.goodBridge e).1).ols = s.ols ∧
      ((s.goodBridge e).1).tru = s.tru ∧
      ((s.goodBridge e).1).pou = s.pou ∧
      ((s.goodBridge e).1).spm = s.spm ∧
      ((s.goodBridge e).1).tpi = s.tpi ∧
      ((s.goodBridge e).1).pins = s.pins ∧
      ((s.goodBridge e).1).freeIndex = s.freeIndex ∧
      ((s.goodBridge e).1).pending = s.pending := by
  unfold State.goodBridge; split <;> simp

/-- State.goodEpoch changes at most tsg, sde, nu. -/
@[simp] theorem State.goodEpoch_frame (e : Int) (s : State) :
    ((s.goodEpoch e).1).rmu = s.rmu ∧
      ((s.goodEpoch e).1).ols = s.ols ∧
      ((s.goodEpoch e).1).tru = s.tru ∧
      ((s.goodEpoch e).1).pou = s.pou ∧
      ((s.goodEpoch e).1).spm = s.spm ∧
      ((s.goodEpoch e).1).tpi = s.tpi ∧
      ((s.goodEpoch e).1).pins = s.pins ∧
      ((s.goodEpoch e).1).freeIndex = s.freeIndex ∧
      ((s.goodEpoch e).1).pending = s.pending := by
  unfold State.goodEpoch; split <;> simp

/-- State.faultyEpoch changes at most sde. -/
@[simp] theorem State.faultyEpoch_frame (s : State) :
    (s.faultyEpoch).tsg = s.tsg ∧
      (s.faultyEpoch).rmu = s.rmu ∧
      (s.faultyEpoch).ols = s.ols ∧
      (s.faultyEpoch).tru = s.tru ∧
      (s.faultyEpoch).nu = s.nu ∧
      (s.faultyEpoch).pou = s.pou ∧
      (s.faultyEpoch).spm = s.spm ∧
      (s.faultyEpoch).tpi = s.tpi ∧
      (s.faultyEpoch).pins = s.pins ∧
      (s.faultyEpoch).freeIndex = s.freeIndex ∧
      (s.faultyEpoch).pending = s.pending := by
  unfold State.faultyEpoch; split <;> simp

/-- State.takeResult changes at most ols. -/
@[simp] theorem State.takeResult_frame (s : State) :
    (s.takeResult).tsg = s.tsg ∧
      (s.takeResult).rmu = s.rmu ∧
      (s.takeResult).sde = s.sde ∧
      (s.takeResult).tru = s.tru ∧
      (s.takeResult).nu = s.nu ∧
      (s.takeResult).pou = s.pou ∧
      (s.takeResult).spm = s.spm ∧
      (s.takeResult).tpi = s.tpi ∧
      (s.takeResult).pins = s.pins ∧
      (s.takeResult).freeIndex = s.freeIndex ∧
      (s.takeResult).pending = s.pending := by
  unfold State.takeResult; split
  · split <;> simp
  · simp

/-- State.lockedAverages changes at most sde. -/
@[simp] theorem State.lockedAverages_frame (e : Int) (b : Bool) (s : State) :
    (s.lockedAverages e b).tsg = s.tsg ∧
      (s.lockedAverages e b).rmu = s.rmu ∧
      (s.lockedAverages e b).ols = s.ols ∧
      (s.lockedAverages e b).tru = s.tru ∧
      (s.lockedAverages e b).nu = s.nu ∧
      (s.lockedAverages e b).pou = s.pou ∧
      (s.lockedAverages e b).spm = s.spm ∧
      (s.lockedAverages e b).tpi = s.tpi ∧
      (s.lockedAverages e b).pins = s.pins ∧
      (s.lockedAverages e b).freeIndex = s.freeIndex ∧
      (s.lockedAverages e b).pending = s.pending := by
  exact ⟨rfl, rfl, rfl, rfl, rfl, rfl, rfl, rfl, rfl, rfl, rfl⟩

/-- State.trackLf changes at most sde. -/
@[simp] theorem State.trackLf_frame (f : Int) (s : State) :
    (s.trackLf f).tsg = s.tsg ∧
      (s.trackLf f).rmu = s.rmu ∧
      (s.trackLf f).ols = s.ols ∧
      (s.trackLf f).tru = s.tru ∧
      (s.trackLf f).nu = s.nu ∧
      (s.trackLf f).pou = s.pou ∧
      (s.trackLf f).spm = s.spm ∧
      (s.trackLf f).tpi = s.tpi ∧
      (s.trackLf f).pins = s.pins ∧
      (s.trackLf f).freeIndex = s.freeIndex ∧
      (s.trackLf f).pending = s.pending := by
  unfold State.trackLf; split <;> simp

/-- State.trackItem changes at most sde. -/
@[simp] theorem State.trackItem_frame (lf : SlotItem) (s : State) :
    (s.trackItem lf).tsg = s.tsg ∧
      (s.trackItem lf).rmu = s.rmu ∧
      (s.trackItem lf).ols = s.ols ∧
      (s.trackItem lf).tru = s.tru ∧
      (s.trackItem lf).nu = s.nu ∧
      (s.trackItem lf).pou = s.pou ∧
      (s.trackItem lf).spm = s.spm ∧
      (s.trackItem lf).tpi = s.tpi ∧
      (s.trackItem lf).pins = s.pins ∧
      (s.trackItem lf).freeIndex = s.freeIndex ∧
      (s.trackItem lf).pending = s.pending := by
  unfold State.trackItem; split
  · split <;> simp
  all_goals simp

/-- State.labelRule changes at most sde. -/
@[simp] theorem State.labelRule_frame (k : Seconds) (l : Option Seconds) (s : State) :
    ((s.labelRule k l).1).tsg = s.tsg ∧
      ((s.labelRule k l).1).rmu = s.rmu ∧
      ((s.labelRule k l).1).ols = s.ols ∧
      ((s.labelRule k l).1).tru = s.tru ∧
      ((s.labelRule k l).1).nu = s.nu ∧
      ((s.labelRule k l).1).pou = s.pou ∧
      ((s.labelRule k l).1).spm = s.spm ∧
      ((s.labelRule k l).1).tpi = s.tpi ∧
      ((s.labelRule k l).1).pins = s.pins ∧
      ((s.labelRule k l).1).freeIndex = s.freeIndex ∧
      ((s.labelRule k l).1).pending = s.pending := by
  unfold State.labelRule; split
  · simp
  · split
    · simp
    · split
      · simp
      · split <;> simp

/-- State.setFromLabel changes at most tsg, rmu, ols, nu. -/
@[simp] theorem State.setFromLabel_frame (k l : Seconds) (s : State) :
    (s.setFromLabel k l).sde = s.sde ∧
      (s.setFromLabel k l).tru = s.tru ∧
      (s.setFromLabel k l).pou = s.pou ∧
      (s.setFromLabel k l).spm = s.spm ∧
      (s.setFromLabel k l).tpi = s.tpi ∧
      (s.setFromLabel k l).pins = s.pins ∧
      (s.setFromLabel k l).freeIndex = s.freeIndex ∧
      (s.setFromLabel k l).pending = s.pending := by
  simp [State.setFromLabel]

/-- State.fullUpdate changes at most tsg, rmu, sde, ols, nu. -/
@[simp] theorem State.fullUpdate_frame (k : Seconds) (e : Int) (l : Option Seconds) (b c : Bool) (lf : SlotItem) (s : State) :
    (s.fullUpdate k e l b c lf).tru = s.tru ∧
      (s.fullUpdate k e l b c lf).pou = s.pou ∧
      (s.fullUpdate k e l b c lf).spm = s.spm ∧
      (s.fullUpdate k e l b c lf).tpi = s.tpi ∧
      (s.fullUpdate k e l b c lf).pins = s.pins ∧
      (s.fullUpdate k e l b c lf).freeIndex = s.freeIndex ∧
      (s.fullUpdate k e l b c lf).pending = s.pending := by
  unfold State.fullUpdate
  dsimp only
  split <;> rename_i h <;> (have h1 := congrArg Prod.fst h; dsimp only at h1) <;>
    simp [← h1] <;> split <;> split <;> simp

/-- State.holdUpdate changes at most tsg, sde, nu. -/
@[simp] theorem State.holdUpdate_frame (n : SlotId) (s : State) :
    (s.holdUpdate n).rmu = s.rmu ∧
      (s.holdUpdate n).ols = s.ols ∧
      (s.holdUpdate n).tru = s.tru ∧
      (s.holdUpdate n).pou = s.pou ∧
      (s.holdUpdate n).spm = s.spm ∧
      (s.holdUpdate n).tpi = s.tpi ∧
      (s.holdUpdate n).pins = s.pins ∧
      (s.holdUpdate n).freeIndex = s.freeIndex ∧
      (s.holdUpdate n).pending = s.pending := by
  simp [State.holdUpdate]

/-- State.driveItem changes at most tsg, rmu, sde, ols, nu. -/
@[simp] theorem State.driveItem_frame (k : Seconds) (n : SlotId) (i lf : SlotItem) (s : State) :
    (s.driveItem k n i lf).tru = s.tru ∧
      (s.driveItem k n i lf).pou = s.pou ∧
      (s.driveItem k n i lf).spm = s.spm ∧
      (s.driveItem k n i lf).tpi = s.tpi ∧
      (s.driveItem k n i lf).pins = s.pins ∧
      (s.driveItem k n i lf).freeIndex = s.freeIndex ∧
      (s.driveItem k n i lf).pending = s.pending := by
  unfold State.driveItem; split
  · dsimp only; split <;> simp
  · split <;> simp
  · split <;> simp
  · simp

/-- State.setAssisted changes at most sde, nu. -/
@[simp] theorem State.setAssisted_frame (b : Bool) (s : State) :
    (s.setAssisted b).tsg = s.tsg ∧
      (s.setAssisted b).rmu = s.rmu ∧
      (s.setAssisted b).ols = s.ols ∧
      (s.setAssisted b).tru = s.tru ∧
      (s.setAssisted b).pou = s.pou ∧
      (s.setAssisted b).spm = s.spm ∧
      (s.setAssisted b).tpi = s.tpi ∧
      (s.setAssisted b).pins = s.pins ∧
      (s.setAssisted b).freeIndex = s.freeIndex ∧
      (s.setAssisted b).pending = s.pending := by
  simp [State.setAssisted]

/-- State.endAssistance changes at most sde, nu. -/
@[simp] theorem State.endAssistance_frame (s : State) :
    (s.endAssistance).tsg = s.tsg ∧
      (s.endAssistance).rmu = s.rmu ∧
      (s.endAssistance).ols = s.ols ∧
      (s.endAssistance).tru = s.tru ∧
      (s.endAssistance).pou = s.pou ∧
      (s.endAssistance).spm = s.spm ∧
      (s.endAssistance).tpi = s.tpi ∧
      (s.endAssistance).pins = s.pins ∧
      (s.endAssistance).freeIndex = s.freeIndex ∧
      (s.endAssistance).pending = s.pending := by
  simp [State.endAssistance]

/-- State.judgeAssistance changes at most tsg, sde, nu. -/
@[simp] theorem State.judgeAssistance_frame (lf : SlotItem) (s : State) :
    (s.judgeAssistance lf).rmu = s.rmu ∧
      (s.judgeAssistance lf).ols = s.ols ∧
      (s.judgeAssistance lf).tru = s.tru ∧
      (s.judgeAssistance lf).pou = s.pou ∧
      (s.judgeAssistance lf).spm = s.spm ∧
      (s.judgeAssistance lf).tpi = s.tpi ∧
      (s.judgeAssistance lf).pins = s.pins ∧
      (s.judgeAssistance lf).freeIndex = s.freeIndex ∧
      (s.judgeAssistance lf).pending = s.pending := by
  unfold State.judgeAssistance; split
  · dsimp only; split <;> simp
  · split <;> simp

/-- State.driveStage changes at most tsg, rmu, sde, ols, nu. -/
@[simp] theorem State.driveStage_frame (k : Seconds) (is : Six SlotItem) (s : State) :
    (s.driveStage k is).tru = s.tru ∧
      (s.driveStage k is).pou = s.pou ∧
      (s.driveStage k is).spm = s.spm ∧
      (s.driveStage k is).tpi = s.tpi ∧
      (s.driveStage k is).pins = s.pins ∧
      (s.driveStage k is).freeIndex = s.freeIndex ∧
      (s.driveStage k is).pending = s.pending := by
  unfold State.driveStage; split
  · simp
  · split <;> simp

/-- State.changeSelection changes at most rmu, sde, nu. -/
@[simp] theorem State.changeSelection_frame (n : Option SlotId) (s : State) :
    (s.changeSelection n).tsg = s.tsg ∧
      (s.changeSelection n).ols = s.ols ∧
      (s.changeSelection n).tru = s.tru ∧
      (s.changeSelection n).pou = s.pou ∧
      (s.changeSelection n).spm = s.spm ∧
      (s.changeSelection n).tpi = s.tpi ∧
      (s.changeSelection n).pins = s.pins ∧
      (s.changeSelection n).freeIndex = s.freeIndex ∧
      (s.changeSelection n).pending = s.pending := by
  simp [State.changeSelection]

/-- State.enterAcquireFollowing changes at most sde, nu. -/
@[simp] theorem State.enterAcquireFollowing_frame (s : State) :
    (s.enterAcquireFollowing).tsg = s.tsg ∧
      (s.enterAcquireFollowing).rmu = s.rmu ∧
      (s.enterAcquireFollowing).ols = s.ols ∧
      (s.enterAcquireFollowing).tru = s.tru ∧
      (s.enterAcquireFollowing).pou = s.pou ∧
      (s.enterAcquireFollowing).spm = s.spm ∧
      (s.enterAcquireFollowing).tpi = s.tpi ∧
      (s.enterAcquireFollowing).pins = s.pins ∧
      (s.enterAcquireFollowing).freeIndex = s.freeIndex ∧
      (s.enterAcquireFollowing).pending = s.pending := by
  simp [State.enterAcquireFollowing]

/-- State.followStage changes at most tsg, sde, nu. -/
@[simp] theorem State.followStage_frame (o : Option SlotId) (s : State) :
    (s.followStage o).rmu = s.rmu ∧
      (s.followStage o).ols = s.ols ∧
      (s.followStage o).tru = s.tru ∧
      (s.followStage o).pou = s.pou ∧
      (s.followStage o).spm = s.spm ∧
      (s.followStage o).tpi = s.tpi ∧
      (s.followStage o).pins = s.pins ∧
      (s.followStage o).freeIndex = s.freeIndex ∧
      (s.followStage o).pending = s.pending := by
  unfold State.followStage; dsimp only; split <;> (repeat' split) <;> simp

/-- State.selectAndFollow changes at most tsg, rmu, sde, nu. -/
@[simp] theorem State.selectAndFollow_frame (is : Six SlotItem) (s : State) :
    (s.selectAndFollow is).ols = s.ols ∧
      (s.selectAndFollow is).tru = s.tru ∧
      (s.selectAndFollow is).pou = s.pou ∧
      (s.selectAndFollow is).spm = s.spm ∧
      (s.selectAndFollow is).tpi = s.tpi ∧
      (s.selectAndFollow is).pins = s.pins ∧
      (s.selectAndFollow is).freeIndex = s.freeIndex ∧
      (s.selectAndFollow is).pending = s.pending := by
  unfold State.selectAndFollow; dsimp only; split <;> simp

/-- State.noteLfHalt changes at most sde. -/
@[simp] theorem State.noteLfHalt_frame (lf : SlotItem) (s : State) :
    (s.noteLfHalt lf).tsg = s.tsg ∧
      (s.noteLfHalt lf).rmu = s.rmu ∧
      (s.noteLfHalt lf).ols = s.ols ∧
      (s.noteLfHalt lf).tru = s.tru ∧
      (s.noteLfHalt lf).nu = s.nu ∧
      (s.noteLfHalt lf).pou = s.pou ∧
      (s.noteLfHalt lf).spm = s.spm ∧
      (s.noteLfHalt lf).tpi = s.tpi ∧
      (s.noteLfHalt lf).pins = s.pins ∧
      (s.noteLfHalt lf).freeIndex = s.freeIndex ∧
      (s.noteLfHalt lf).pending = s.pending := by
  unfold State.noteLfHalt; split <;> simp

/-- State.takeSummary changes at most tsg, rmu, sde, ols, nu. -/
@[simp] theorem State.takeSummary_frame (k : Seconds) (is : Six SlotItem) (s : State) :
    (s.takeSummary k is).tru = s.tru ∧
      (s.takeSummary k is).pou = s.pou ∧
      (s.takeSummary k is).spm = s.spm ∧
      (s.takeSummary k is).tpi = s.tpi ∧
      (s.takeSummary k is).pins = s.pins ∧
      (s.takeSummary k is).freeIndex = s.freeIndex ∧
      (s.takeSummary k is).pending = s.pending := by
  simp [State.takeSummary]

/-- State.postClose changes at most nu. -/
@[simp] theorem State.postClose_frame (c : Six SlotClose) (n : SlotId) (s : State) :
    (s.postClose c n).tsg = s.tsg ∧
      (s.postClose c n).rmu = s.rmu ∧
      (s.postClose c n).sde = s.sde ∧
      (s.postClose c n).ols = s.ols ∧
      (s.postClose c n).tru = s.tru ∧
      (s.postClose c n).pou = s.pou ∧
      (s.postClose c n).spm = s.spm ∧
      (s.postClose c n).tpi = s.tpi ∧
      (s.postClose c n).pins = s.pins ∧
      (s.postClose c n).freeIndex = s.freeIndex ∧
      (s.postClose c n).pending = s.pending := by
  unfold State.postClose; dsimp only; split <;> split <;> simp

/-- The notices of all slots' closes change at most nu. -/
@[simp] theorem State.postCloses_frame (c : Six SlotClose) (s : State) :
    (s.forSlots (State.postClose c)).tsg = s.tsg ∧
      (s.forSlots (State.postClose c)).rmu = s.rmu ∧
      (s.forSlots (State.postClose c)).sde = s.sde ∧
      (s.forSlots (State.postClose c)).ols = s.ols ∧
      (s.forSlots (State.postClose c)).tru = s.tru ∧
      (s.forSlots (State.postClose c)).pou = s.pou ∧
      (s.forSlots (State.postClose c)).spm = s.spm ∧
      (s.forSlots (State.postClose c)).tpi = s.tpi ∧
      (s.forSlots (State.postClose c)).pins = s.pins ∧
      (s.forSlots (State.postClose c)).freeIndex = s.freeIndex ∧
      (s.forSlots (State.postClose c)).pending = s.pending := by
  simp [State.forSlots]

/-- State.closeEpoch changes at most tsg, rmu, sde, ols, nu. -/
@[simp] theorem State.closeEpoch_frame (k : Seconds) (s : State) :
    (s.closeEpoch k).tru = s.tru ∧
      (s.closeEpoch k).pou = s.pou ∧
      (s.closeEpoch k).spm = s.spm ∧
      (s.closeEpoch k).tpi = s.tpi ∧
      (s.closeEpoch k).pins = s.pins ∧
      (s.closeEpoch k).freeIndex = s.freeIndex ∧
      (s.closeEpoch k).pending = s.pending := by
  simp [State.closeEpoch]

end Sys2Proof.Machine
end

