-- ==== Sys2Proof/Laws/State.lean ====
section
/-!
SUPPORT. Reading back what an update wrote: the fixed groups of like things, the queue, and one lemma for the field that each
named update writes. What the updates keep is said by the frame lemmas beside this file.
-/

namespace Sys2Proof

/-! ## Three -/

/-- Two groups with the same members are the same. -/
theorem Three.ext_get {α : Type} {u v : Three α} (h : ∀ i : Port, u.get i = v.get i) : u = v := by
  have e : Three.mk (u.get 0) (u.get 1) (u.get 2) = Three.mk (v.get 0) (v.get 1) (v.get 2) := by
    rw [h 0, h 1, h 2]
  exact e

/-- What was set is read. -/
@[simp] theorem Three.get_set_same {α : Type} (v : Three α) (i : Port) (a : α) : (v.set i a).get i = a :=
  match i with
  | 0 => rfl
  | 1 => rfl
  | 2 => rfl

/-- A set leaves the other members. -/
theorem Three.get_set_ne {α : Type} (v : Three α) {i j : Port} (a : α) (h : j ≠ i) : (v.set i a).get j = v.get j := by
  revert h; match i, j with
  | 0, 0 => exact fun h => absurd rfl h
  | 0, 1 => exact fun _ => rfl
  | 0, 2 => exact fun _ => rfl
  | 1, 0 => exact fun _ => rfl
  | 1, 1 => exact fun h => absurd rfl h
  | 1, 2 => exact fun _ => rfl
  | 2, 0 => exact fun _ => rfl
  | 2, 1 => exact fun _ => rfl
  | 2, 2 => exact fun h => absurd rfl h

/-- A set, read anywhere. -/
theorem Three.get_set {α : Type} (v : Three α) (i j : Port) (a : α) :
    (v.set i a).get j = if j = i then a else v.get j := by
  split
  · next h => rw [h, Three.get_set_same]
  · next h => exact Three.get_set_ne v a h

/-- Setting a member to itself changes nothing. -/
@[simp] theorem Three.set_get {α : Type} (v : Three α) (i : Port) : v.set i (v.get i) = v :=
  match i with
  | 0 => rfl
  | 1 => rfl
  | 2 => rfl

/-- The later of two sets of one member stands. -/
@[simp] theorem Three.set_set {α : Type} (v : Three α) (i : Port) (a b : α) : (v.set i a).set i b = v.set i b :=
  match i with
  | 0 => rfl
  | 1 => rfl
  | 2 => rfl

/-- A member of a mapped group. -/
@[simp] theorem Three.get_mapIdx {α β : Type} (f : Port → α → β) (v : Three α) (i : Port) :
    (v.mapIdx f).get i = f i (v.get i) :=
  match i with
  | 0 => rfl
  | 1 => rfl
  | 2 => rfl

/-- A member of a filled group. -/
@[simp] theorem Three.get_fill {α : Type} (a : α) (i : Port) : (Three.fill a).get i = a :=
  match i with
  | 0 => rfl
  | 1 => rfl
  | 2 => rfl

/-! ## Four -/

/-- Two groups with the same members are the same. -/
theorem Four.ext_get {α : Type} {u v : Four α} (h : ∀ i : OutId, u.get i = v.get i) : u = v := by
  have e : Four.mk (u.get 0) (u.get 1) (u.get 2) (u.get 3) = Four.mk (v.get 0) (v.get 1) (v.get 2) (v.get 3) := by
    rw [h 0, h 1, h 2, h 3]
  exact e

/-- What was set is read. -/
@[simp] theorem Four.get_set_same {α : Type} (v : Four α) (i : OutId) (a : α) : (v.set i a).get i = a :=
  match i with
  | 0 => rfl
  | 1 => rfl
  | 2 => rfl
  | 3 => rfl

/-- A set leaves the other members. -/
theorem Four.get_set_ne {α : Type} (v : Four α) {i j : OutId} (a : α) (h : j ≠ i) : (v.set i a).get j = v.get j := by
  revert h; match i, j with
  | 0, 0 => exact fun h => absurd rfl h
  | 0, 1 => exact fun _ => rfl
  | 0, 2 => exact fun _ => rfl
  | 0, 3 => exact fun _ => rfl
  | 1, 0 => exact fun _ => rfl
  | 1, 1 => exact fun h => absurd rfl h
  | 1, 2 => exact fun _ => rfl
  | 1, 3 => exact fun _ => rfl
  | 2, 0 => exact fun _ => rfl
  | 2, 1 => exact fun _ => rfl
  | 2, 2 => exact fun h => absurd rfl h
  | 2, 3 => exact fun _ => rfl
  | 3, 0 => exact fun _ => rfl
  | 3, 1 => exact fun _ => rfl
  | 3, 2 => exact fun _ => rfl
  | 3, 3 => exact fun h => absurd rfl h

/-- A set, read anywhere. -/
theorem Four.get_set {α : Type} (v : Four α) (i j : OutId) (a : α) :
    (v.set i a).get j = if j = i then a else v.get j := by
  split
  · next h => rw [h, Four.get_set_same]
  · next h => exact Four.get_set_ne v a h

/-- Setting a member to itself changes nothing. -/
@[simp] theorem Four.set_get {α : Type} (v : Four α) (i : OutId) : v.set i (v.get i) = v :=
  match i with
  | 0 => rfl
  | 1 => rfl
  | 2 => rfl
  | 3 => rfl

/-- The later of two sets of one member stands. -/
@[simp] theorem Four.set_set {α : Type} (v : Four α) (i : OutId) (a b : α) : (v.set i a).set i b = v.set i b :=
  match i with
  | 0 => rfl
  | 1 => rfl
  | 2 => rfl
  | 3 => rfl

/-- A member of a mapped group. -/
@[simp] theorem Four.get_mapIdx {α β : Type} (f : OutId → α → β) (v : Four α) (i : OutId) :
    (v.mapIdx f).get i = f i (v.get i) :=
  match i with
  | 0 => rfl
  | 1 => rfl
  | 2 => rfl
  | 3 => rfl

/-! ## Six -/

/-- Two groups with the same members are the same. -/
theorem Six.ext_get {α : Type} {u v : Six α} (h : ∀ i : SlotId, u.get i = v.get i) : u = v := by
  have e : Six.mk (u.get 0) (u.get 1) (u.get 2) (u.get 3) (u.get 4) (u.get 5) = Six.mk (v.get 0) (v.get 1) (v.get 2) (v.get 3) (v.get 4) (v.get 5) := by
    rw [h 0, h 1, h 2, h 3, h 4, h 5]
  exact e

/-- What was set is read. -/
@[simp] theorem Six.get_set_same {α : Type} (v : Six α) (i : SlotId) (a : α) : (v.set i a).get i = a :=
  match i with
  | 0 => rfl
  | 1 => rfl
  | 2 => rfl
  | 3 => rfl
  | 4 => rfl
  | 5 => rfl

/-- A set leaves the other members. -/
theorem Six.get_set_ne {α : Type} (v : Six α) {i j : SlotId} (a : α) (h : j ≠ i) : (v.set i a).get j = v.get j := by
  revert h; match i, j with
  | 0, 0 => exact fun h => absurd rfl h
  | 0, 1 => exact fun _ => rfl
  | 0, 2 => exact fun _ => rfl
  | 0, 3 => exact fun _ => rfl
  | 0, 4 => exact fun _ => rfl
  | 0, 5 => exact fun _ => rfl
  | 1, 0 => exact fun _ => rfl
  | 1, 1 => exact fun h => absurd rfl h
  | 1, 2 => exact fun _ => rfl
  | 1, 3 => exact fun _ => rfl
  | 1, 4 => exact fun _ => rfl
  | 1, 5 => exact fun _ => rfl
  | 2, 0 => exact fun _ => rfl
  | 2, 1 => exact fun _ => rfl
  | 2, 2 => exact fun h => absurd rfl h
  | 2, 3 => exact fun _ => rfl
  | 2, 4 => exact fun _ => rfl
  | 2, 5 => exact fun _ => rfl
  | 3, 0 => exact fun _ => rfl
  | 3, 1 => exact fun _ => rfl
  | 3, 2 => exact fun _ => rfl
  | 3, 3 => exact fun h => absurd rfl h
  | 3, 4 => exact fun _ => rfl
  | 3, 5 => exact fun _ => rfl
  | 4, 0 => exact fun _ => rfl
  | 4, 1 => exact fun _ => rfl
  | 4, 2 => exact fun _ => rfl
  | 4, 3 => exact fun _ => rfl
  | 4, 4 => exact fun h => absurd rfl h
  | 4, 5 => exact fun _ => rfl
  | 5, 0 => exact fun _ => rfl
  | 5, 1 => exact fun _ => rfl
  | 5, 2 => exact fun _ => rfl
  | 5, 3 => exact fun _ => rfl
  | 5, 4 => exact fun _ => rfl
  | 5, 5 => exact fun h => absurd rfl h

/-- A set, read anywhere. -/
theorem Six.get_set {α : Type} (v : Six α) (i j : SlotId) (a : α) :
    (v.set i a).get j = if j = i then a else v.get j := by
  split
  · next h => rw [h, Six.get_set_same]
  · next h => exact Six.get_set_ne v a h

/-- Setting a member to itself changes nothing. -/
@[simp] theorem Six.set_get {α : Type} (v : Six α) (i : SlotId) : v.set i (v.get i) = v :=
  match i with
  | 0 => rfl
  | 1 => rfl
  | 2 => rfl
  | 3 => rfl
  | 4 => rfl
  | 5 => rfl

/-- The later of two sets of one member stands. -/
@[simp] theorem Six.set_set {α : Type} (v : Six α) (i : SlotId) (a b : α) : (v.set i a).set i b = v.set i b :=
  match i with
  | 0 => rfl
  | 1 => rfl
  | 2 => rfl
  | 3 => rfl
  | 4 => rfl
  | 5 => rfl

/-- A member of a mapped group. -/
@[simp] theorem Six.get_mapIdx {α β : Type} (f : SlotId → α → β) (v : Six α) (i : SlotId) :
    (v.mapIdx f).get i = f i (v.get i) :=
  match i with
  | 0 => rfl
  | 1 => rfl
  | 2 => rfl
  | 3 => rfl
  | 4 => rfl
  | 5 => rfl

/-- A member of a filled group. -/
@[simp] theorem Six.get_fill {α : Type} (a : α) (i : SlotId) : (Six.fill a).get i = a :=
  match i with
  | 0 => rfl
  | 1 => rfl
  | 2 => rfl
  | 3 => rfl
  | 4 => rfl
  | 5 => rfl

end Sys2Proof

namespace Sys2Proof.Machine

/-! ## The field that each named update writes -/

/-- The port set. -/
@[simp] theorem State.setPort_tpi (t : Port) (p : TenantPort) (s : State) :
    (s.setPort t p).tpi = s.tpi.set t p := rfl

/-- The port of a response begun. -/
@[simp] theorem State.beginResponse_tpi (t : Port) (c : Byte) (g : Word16) (a : Answer) (s : State) :
    (s.beginResponse t c g a).tpi =
      s.tpi.set t
        { s.tpi.get t with
          state := .working { code := c, tag := g, outcome := a.outcome, overrun := false, body := a.body }
          clocked := .fill } := rfl

/-- The port of a frame discarded. -/
@[simp] theorem State.overrun_tpi (t : Port) (s : State) :
    (s.overrun t).tpi = s.tpi.set t { s.tpi.get t with overrun := true, clocked := .fill } := rfl

/-- The port of a request transaction ignored. -/
@[simp] theorem State.ignoreRequest_tpi (t : Port) (s : State) :
    (s.ignoreRequest t).tpi = s.tpi.set t { s.tpi.get t with clocked := .fill } := rfl

/-- The port returned to IDLE. -/
@[simp] theorem State.closePort_tpi (t : Port) (s : State) :
    (s.closePort t).tpi = s.tpi.set t { s.tpi.get t with state := .idle, overrun := false } := rfl

/-- The output set. -/
@[simp] theorem State.setOut_pou (o : OutId) (x : Output) (s : State) :
    (s.setOut o x).pou = s.pou.set o x := rfl

/-- The notice state set. -/
@[simp] theorem State.setNotices_nu (t : Port) (n : TenantNotices) (s : State) :
    (s.setNotices t n).nu = s.nu.set t n := rfl

/-- The tenant record set. -/
@[simp] theorem State.setTenant_tru (t : Port) (r : Tenant) (s : State) :
    (s.setTenant t r).tru = { s.tru with tenants := s.tru.tenants.set t r } := rfl

/-- The tolerance flag set. -/
@[simp] theorem State.setTol_sde (t : Port) (b : Bool) (s : State) :
    (s.setTol t b).sde = { s.sde with tol := s.sde.tol.set t b } := rfl

/-- The correction ordered. -/
@[simp] theorem State.orderFApp_tsg (f : Int) (s : State) :
    (s.orderFApp f).tsg = { s.tsg with fApp := clampCorr f } := rfl

/-- The anchor taken. -/
@[simp] theorem State.takeAnchor_sde (f : Int) (s : State) :
    (s.takeAnchor f).sde =
      { s.sde with anchorCorr := f, anchorBin := s.currentBin, anchorSeconds := s.tsg.seconds, hours := 0 } := rfl

/-- The latches armed. -/
@[simp] theorem State.armLatches_nu (t : Port) (s : State) :
    (s.armLatches t).nu = s.nu.set t { s.nu.get t with latches := s.armedLatches t } := rfl

/-- The write started. -/
@[simp] theorem State.startWrite_ols (s : State) :
    (s.startWrite).ols = { s.ols with writing := some ⟨s.retainedContent, .invalidate⟩ } := rfl

/-- The action ended. -/
@[simp] theorem State.endJoint_tru (r : JointRecord) (e : JointEnding) (s : State) :
    (s.endJoint r e).tru = { s.tru with joint := none, lastEnded := some ⟨r, e⟩ } := rfl

/-- Step-now pending. -/
@[simp] theorem State.setStepNow_sde (s : State) :
    (s.setStepNow).sde = { s.sde with stepNow := true } := rfl

/-- The outputs at a boundary. -/
@[simp] theorem State.adoptOutputs_pou (s : State) :
    (s.adoptOutputs).pou = s.pou.mapIdx fun _ o => o.adopt := rfl

/-- The instants marked after a crossing. -/
@[simp] theorem State.markPassed_pou (s : State) :
    (s.markPassed).pou = s.pou.mapIdx fun _ o => o.markPassed s.tsg := rfl

/-- The SPM at a boundary. -/
@[simp] theorem State.spmBoundary_spm (s : State) :
    (s.spmBoundary).spm = s.spm.boundary := rfl

/-- The age of a pending action at a boundary. -/
@[simp] theorem State.ageJoint_tru (s : State) :
    (s.ageJoint).tru =
      { s.tru with joint := s.tru.joint.map fun j => { j with age := satAdd 30 j.age 1 } } := rfl

/-- OUT3's pending record formed. -/
@[simp] theorem State.formOut3_pou (s : State) :
    (s.formOut3).pou = { s.pou with o3 := { s.pou.o3 with pending := some (.common s.tru.config) } } := rfl

/-- The present line set. -/
@[simp] theorem State.setPresent_pins (t : Port) (b : Bool) (s : State) :
    (s.setPresent t b).pins = { s.pins with present := s.pins.present.set t b } := rfl

/-- The pulse ended. -/
@[simp] theorem State.endPulse_pou (o : OutId) (s : State) :
    (s.endPulse o).pou = s.pou.set o { s.pou.get o with pulseLeft := none } := rfl

/-- The pins driven low. -/
@[simp] theorem State.dropPulses_pou (s : State) :
    (s.dropPulses).pou = s.pou.mapIdx fun _ o => { o with pulseLeft := none } := rfl

/-- The hold-off ended. -/
@[simp] theorem State.endHoldOff_rmu (n : SlotId) (s : State) :
    (s.endHoldOff n).rmu = s.rmu.setSlot n (s.rmu.slots.get n).endHoldOff := rfl

/-- The step applied to site time. -/
@[simp] theorem State.applyStep_tsg (d : Int) (s : State) :
    (s.applyStep d).tsg = s.tsg.step (limitStep d) := rfl

/-- The seconds set applied. -/
@[simp] theorem State.applySet_tsg (v : Seconds) (s : State) :
    (s.applySet v).tsg = { s.tsg with seconds := v } := rfl

/-- The policy resolved. -/
@[simp] theorem State.resolve_tru (s : State) :
    (s.resolve).tru =
      { s.tru with policy := resolvedPolicy s.tru.tenants, generation := s.tru.generation + 1 } := rfl

/-! ## What the operations over every tenant leave at one of them -/

/-- One tenant after post. -/
theorem State.post_nu_get (named : Port → Bool) (r : Report) (p : Port) (s : State) :
    (s.post named r).nu.get p = if s.attached p && named p then (s.nu.get p).file r else s.nu.get p := by
  simp [State.post]

/-- One tenant after postAll. -/
theorem State.postAll_nu_get (r : Report) (p : Port) (s : State) :
    (s.postAll r).nu.get p = if s.attached p then (s.nu.get p).file r else s.nu.get p := by
  simp [State.postAll, State.post]

/-- One tenant after postTo. -/
theorem State.postTo_nu_get (t : Port) (r : Report) (p : Port) (s : State) :
    (s.postTo t r).nu.get p = if s.attached p && p == t then (s.nu.get p).file r else s.nu.get p := by
  simp [State.postTo, State.post]

/-- One tenant after watchLatches. -/
theorem State.watchLatches_nu_get (p : Port) (s : State) :
    (s.watchLatches).nu.get p =
      if s.attached p then { s.nu.get p with latches := (s.nu.get p).latches.follow (s.armedLatches p) }
      else s.nu.get p := by
  simp [State.watchLatches]

/-- One tenant after latchRefFault. -/
theorem State.latchRefFault_nu_get (p : Port) (s : State) :
    (s.latchRefFault).nu.get p =
      if s.attached p then { s.nu.get p with latches := { (s.nu.get p).latches with refFault := true } }
      else s.nu.get p := by
  simp [State.latchRefFault]

/-- One tenant after latchStepped. -/
theorem State.latchStepped_nu_get (p : Port) (s : State) :
    (s.latchStepped).nu.get p =
      if s.attached p then { s.nu.get p with latches := { (s.nu.get p).latches with stepped := true } }
      else s.nu.get p := by
  simp [State.latchStepped]

/-! ## Derived readings -/

/-- Attachment is read from the tenant records alone. -/
theorem State.attached_congr {s t : State} (h : s.tru.tenants = t.tru.tenants) (p : Port) : s.attached p = t.attached p := by
  simp [State.attached, h]

/-- Service is read from the SPM alone. -/
theorem State.inService_congr {s t : State} (h : s.spm = t.spm) : s.inService = t.inService := by
  simp [State.inService, State.inStart, h]

/-- Being in service is being in RUN outside a start. -/
theorem State.inService_iff (s : State) : s.inService = true ↔ s.spm.startPending = none ∧ s.spm.power = .run := by
  cases h : s.spm.startPending <;> simp [State.inService, State.inStart, h]

/-- A start in progress is one whose pending cause is present. -/
theorem State.inStart_iff (s : State) : s.inStart = true ↔ s.spm.startPending ≠ none := by
  cases h : s.spm.startPending <;> simp [State.inStart, h]

/-- A port that is not WORKING holds no response in preparation. -/
theorem PortState.isWorking_iff (p : PortState) : p.isWorking = true ↔ ∃ r, p = .working r := by
  cases p <;> simp [PortState.isWorking]

end Sys2Proof.Machine
end

