-- ==== Sys2Proof/Laws/Boundary.lean ====
section
/-!
SUPPORT. What each part of an epoch boundary leaves unchanged. Each lemma says once what an operation keeps.
-/

namespace Sys2Proof.Machine

/-- State.rmuBoundary changes at most rmu. -/
@[simp] theorem State.rmuBoundary_frame (k : Seconds) (l : LineClock) (s : State) :
    (s.rmuBoundary k l).tsg = s.tsg ∧
      (s.rmuBoundary k l).sde = s.sde ∧
      (s.rmuBoundary k l).ols = s.ols ∧
      (s.rmuBoundary k l).tru = s.tru ∧
      (s.rmuBoundary k l).nu = s.nu ∧
      (s.rmuBoundary k l).pou = s.pou ∧
      (s.rmuBoundary k l).spm = s.spm ∧
      (s.rmuBoundary k l).tpi = s.tpi ∧
      (s.rmuBoundary k l).pins = s.pins ∧
      (s.rmuBoundary k l).freeIndex = s.freeIndex ∧
      (s.rmuBoundary k l).pending = s.pending := by
  exact ⟨rfl, rfl, rfl, rfl, rfl, rfl, rfl, rfl, rfl, rfl, rfl⟩

/-- State.formHours changes at most sde. -/
@[simp] theorem State.formHours_frame (s : State) :
    (s.formHours).tsg = s.tsg ∧
      (s.formHours).rmu = s.rmu ∧
      (s.formHours).ols = s.ols ∧
      (s.formHours).tru = s.tru ∧
      (s.formHours).nu = s.nu ∧
      (s.formHours).pou = s.pou ∧
      (s.formHours).spm = s.spm ∧
      (s.formHours).tpi = s.tpi ∧
      (s.formHours).pins = s.pins ∧
      (s.formHours).freeIndex = s.freeIndex ∧
      (s.formHours).pending = s.pending := by
  unfold State.formHours; split <;> simp

/-- State.predictionStep changes at most tsg. -/
@[simp] theorem State.predictionStep_frame (s : State) :
    (s.predictionStep).rmu = s.rmu ∧
      (s.predictionStep).sde = s.sde ∧
      (s.predictionStep).ols = s.ols ∧
      (s.predictionStep).tru = s.tru ∧
      (s.predictionStep).nu = s.nu ∧
      (s.predictionStep).pou = s.pou ∧
      (s.predictionStep).spm = s.spm ∧
      (s.predictionStep).tpi = s.tpi ∧
      (s.predictionStep).pins = s.pins ∧
      (s.predictionStep).freeIndex = s.freeIndex ∧
      (s.predictionStep).pending = s.pending := by
  unfold State.predictionStep; split <;> simp

/-- State.growE changes at most sde, nu. -/
@[simp] theorem State.growE_frame (s : State) :
    (s.growE).tsg = s.tsg ∧
      (s.growE).rmu = s.rmu ∧
      (s.growE).ols = s.ols ∧
      (s.growE).tru = s.tru ∧
      (s.growE).pou = s.pou ∧
      (s.growE).spm = s.spm ∧
      (s.growE).tpi = s.tpi ∧
      (s.growE).pins = s.pins ∧
      (s.growE).freeIndex = s.freeIndex ∧
      (s.growE).pending = s.pending := by
  unfold State.growE; split <;> simp

/-- State.countBridge changes at most sde. -/
@[simp] theorem State.countBridge_frame (s : State) :
    (s.countBridge).tsg = s.tsg ∧
      (s.countBridge).rmu = s.rmu ∧
      (s.countBridge).ols = s.ols ∧
      (s.countBridge).tru = s.tru ∧
      (s.countBridge).nu = s.nu ∧
      (s.countBridge).pou = s.pou ∧
      (s.countBridge).spm = s.spm ∧
      (s.countBridge).tpi = s.tpi ∧
      (s.countBridge).pins = s.pins ∧
      (s.countBridge).freeIndex = s.freeIndex ∧
      (s.countBridge).pending = s.pending := by
  unfold State.countBridge; split <;> simp

/-- State.sdeBoundary changes at most tsg, sde, nu. -/
@[simp] theorem State.sdeBoundary_frame (s : State) :
    (s.sdeBoundary).rmu = s.rmu ∧
      (s.sdeBoundary).ols = s.ols ∧
      (s.sdeBoundary).tru = s.tru ∧
      (s.sdeBoundary).pou = s.pou ∧
      (s.sdeBoundary).spm = s.spm ∧
      (s.sdeBoundary).tpi = s.tpi ∧
      (s.sdeBoundary).pins = s.pins ∧
      (s.sdeBoundary).freeIndex = s.freeIndex ∧
      (s.sdeBoundary).pending = s.pending := by
  simp [State.sdeBoundary]

/-- State.dayBoundary changes at most ols. -/
@[simp] theorem State.dayBoundary_frame (s : State) :
    (s.dayBoundary).tsg = s.tsg ∧
      (s.dayBoundary).rmu = s.rmu ∧
      (s.dayBoundary).sde = s.sde ∧
      (s.dayBoundary).tru = s.tru ∧
      (s.dayBoundary).nu = s.nu ∧
      (s.dayBoundary).pou = s.pou ∧
      (s.dayBoundary).spm = s.spm ∧
      (s.dayBoundary).tpi = s.tpi ∧
      (s.dayBoundary).pins = s.pins ∧
      (s.dayBoundary).freeIndex = s.freeIndex ∧
      (s.dayBoundary).pending = s.pending := by
  unfold State.dayBoundary; split <;> simp

/-- State.startRead changes at most ols, nu. -/
@[simp] theorem State.startRead_frame (s : State) :
    (s.startRead).tsg = s.tsg ∧
      (s.startRead).rmu = s.rmu ∧
      (s.startRead).sde = s.sde ∧
      (s.startRead).tru = s.tru ∧
      (s.startRead).pou = s.pou ∧
      (s.startRead).spm = s.spm ∧
      (s.startRead).tpi = s.tpi ∧
      (s.startRead).pins = s.pins ∧
      (s.startRead).freeIndex = s.freeIndex ∧
      (s.startRead).pending = s.pending := by
  unfold State.startRead; dsimp only; split <;> simp

/-- State.ageJoint changes at most tru. -/
@[simp] theorem State.ageJoint_frame (s : State) :
    (s.ageJoint).tsg = s.tsg ∧
      (s.ageJoint).rmu = s.rmu ∧
      (s.ageJoint).sde = s.sde ∧
      (s.ageJoint).ols = s.ols ∧
      (s.ageJoint).nu = s.nu ∧
      (s.ageJoint).pou = s.pou ∧
      (s.ageJoint).spm = s.spm ∧
      (s.ageJoint).tpi = s.tpi ∧
      (s.ageJoint).pins = s.pins ∧
      (s.ageJoint).freeIndex = s.freeIndex ∧
      (s.ageJoint).pending = s.pending := by
  exact ⟨rfl, rfl, rfl, rfl, rfl, rfl, rfl, rfl, rfl, rfl, rfl⟩

/-- State.adoptOutputs changes at most pou. -/
@[simp] theorem State.adoptOutputs_frame (s : State) :
    (s.adoptOutputs).tsg = s.tsg ∧
      (s.adoptOutputs).rmu = s.rmu ∧
      (s.adoptOutputs).sde = s.sde ∧
      (s.adoptOutputs).ols = s.ols ∧
      (s.adoptOutputs).tru = s.tru ∧
      (s.adoptOutputs).nu = s.nu ∧
      (s.adoptOutputs).spm = s.spm ∧
      (s.adoptOutputs).tpi = s.tpi ∧
      (s.adoptOutputs).pins = s.pins ∧
      (s.adoptOutputs).freeIndex = s.freeIndex ∧
      (s.adoptOutputs).pending = s.pending := by
  exact ⟨rfl, rfl, rfl, rfl, rfl, rfl, rfl, rfl, rfl, rfl, rfl⟩

/-- State.spmBoundary changes at most spm. -/
@[simp] theorem State.spmBoundary_frame (s : State) :
    (s.spmBoundary).tsg = s.tsg ∧
      (s.spmBoundary).rmu = s.rmu ∧
      (s.spmBoundary).sde = s.sde ∧
      (s.spmBoundary).ols = s.ols ∧
      (s.spmBoundary).tru = s.tru ∧
      (s.spmBoundary).nu = s.nu ∧
      (s.spmBoundary).pou = s.pou ∧
      (s.spmBoundary).tpi = s.tpi ∧
      (s.spmBoundary).pins = s.pins ∧
      (s.spmBoundary).freeIndex = s.freeIndex ∧
      (s.spmBoundary).pending = s.pending := by
  exact ⟨rfl, rfl, rfl, rfl, rfl, rfl, rfl, rfl, rfl, rfl, rfl⟩

/-- State.raiseBoundary changes at most tsg, rmu, sde, ols, tru, nu, pou, spm. -/
@[simp] theorem State.raiseBoundary_frame (l : LineClock) (s : State) :
    (s.raiseBoundary l).tpi = s.tpi ∧
      (s.raiseBoundary l).pins = s.pins ∧
      (s.raiseBoundary l).freeIndex = s.freeIndex ∧
      (s.raiseBoundary l).pending = s.pending := by
  simp [State.raiseBoundary]

/-- State.setOut changes at most pou. -/
@[simp] theorem State.setOut_frame (o : OutId) (x : Output) (s : State) :
    (s.setOut o x).tsg = s.tsg ∧
      (s.setOut o x).rmu = s.rmu ∧
      (s.setOut o x).sde = s.sde ∧
      (s.setOut o x).ols = s.ols ∧
      (s.setOut o x).tru = s.tru ∧
      (s.setOut o x).nu = s.nu ∧
      (s.setOut o x).spm = s.spm ∧
      (s.setOut o x).tpi = s.tpi ∧
      (s.setOut o x).pins = s.pins ∧
      (s.setOut o x).freeIndex = s.freeIndex ∧
      (s.setOut o x).pending = s.pending := by
  exact ⟨rfl, rfl, rfl, rfl, rfl, rfl, rfl, rfl, rfl, rfl, rfl⟩

/-- State.postSquelch changes at most nu. -/
@[simp] theorem State.postSquelch_frame (o : OutId) (st : OutputState) (s : State) :
    (s.postSquelch o st).tsg = s.tsg ∧
      (s.postSquelch o st).rmu = s.rmu ∧
      (s.postSquelch o st).sde = s.sde ∧
      (s.postSquelch o st).ols = s.ols ∧
      (s.postSquelch o st).tru = s.tru ∧
      (s.postSquelch o st).pou = s.pou ∧
      (s.postSquelch o st).spm = s.spm ∧
      (s.postSquelch o st).tpi = s.tpi ∧
      (s.postSquelch o st).pins = s.pins ∧
      (s.postSquelch o st).freeIndex = s.freeIndex ∧
      (s.postSquelch o st).pending = s.pending := by
  unfold State.postSquelch; split <;> simp

/-- State.evaluateOut changes at most nu, pou. -/
@[simp] theorem State.evaluateOut_frame (o : OutId) (past : Nat) (s : State) :
    (s.evaluateOut o past).tsg = s.tsg ∧
      (s.evaluateOut o past).rmu = s.rmu ∧
      (s.evaluateOut o past).sde = s.sde ∧
      (s.evaluateOut o past).ols = s.ols ∧
      (s.evaluateOut o past).tru = s.tru ∧
      (s.evaluateOut o past).spm = s.spm ∧
      (s.evaluateOut o past).tpi = s.tpi ∧
      (s.evaluateOut o past).pins = s.pins ∧
      (s.evaluateOut o past).freeIndex = s.freeIndex ∧
      (s.evaluateOut o past).pending = s.pending := by
  unfold State.evaluateOut; dsimp only; split <;> simp

/-- The output at an instant evaluated; the others stay. -/
@[simp] theorem State.evaluateOut_pou (o : OutId) (past : Nat) (s : State) :
    (s.evaluateOut o past).pou = s.pou.set o (s.outputAtInstant o past) := by
  unfold State.evaluateOut; dsimp only; split <;> simp [State.setOut]

/-- State.crossOutput changes at most nu, pou. -/
@[simp] theorem State.crossOutput_frame (o : OutId) (s : State) :
    (s.crossOutput o).tsg = s.tsg ∧
      (s.crossOutput o).rmu = s.rmu ∧
      (s.crossOutput o).sde = s.sde ∧
      (s.crossOutput o).ols = s.ols ∧
      (s.crossOutput o).tru = s.tru ∧
      (s.crossOutput o).spm = s.spm ∧
      (s.crossOutput o).tpi = s.tpi ∧
      (s.crossOutput o).pins = s.pins ∧
      (s.crossOutput o).freeIndex = s.freeIndex ∧
      (s.crossOutput o).pending = s.pending := by
  unfold State.crossOutput; split <;> simp

/-- State.crossSecond changes at most tsg, nu, pou. -/
@[simp] theorem State.crossSecond_frame (s : State) :
    (s.crossSecond).rmu = s.rmu ∧
      (s.crossSecond).sde = s.sde ∧
      (s.crossSecond).ols = s.ols ∧
      (s.crossSecond).tru = s.tru ∧
      (s.crossSecond).spm = s.spm ∧
      (s.crossSecond).tpi = s.tpi ∧
      (s.crossSecond).pins = s.pins ∧
      (s.crossSecond).freeIndex = s.freeIndex ∧
      (s.crossSecond).pending = s.pending := by
  simp [State.crossSecond, State.forOutputs]

/-- The TSG at the crossing is the TSG in the next second. -/
@[simp] theorem State.crossSecond_tsg (s : State) : s.crossSecond.tsg = s.passSecond.tsg := by
  simp [State.crossSecond, State.forOutputs]

/-- What an output does with a crossing is read from the TSG, the SDE, the policy, the SPM and that output. -/
theorem State.crossInstant_congr {s t : State} {o : OutId} (h1 : s.tsg = t.tsg) (h2 : s.spm = t.spm)
    (h3 : s.pou.get o = t.pou.get o) : s.crossInstant o = t.crossInstant o := by
  simp [State.crossInstant, State.actsAtInstants, State.inService, State.inStart, h1, h2, h3]

/-- The output at an instant is read from the TSG, the SDE, the policy and that output. -/
theorem State.outputAtInstant_congr {s t : State} {o : OutId} (h1 : s.tsg = t.tsg) (h2 : s.sde = t.sde)
    (h3 : s.tru = t.tru) (h4 : s.pou.get o = t.pou.get o) (past : Nat) :
    s.outputAtInstant o past = t.outputAtInstant o past := by
  simp [State.outputAtInstant, State.stateAtInstant, State.squelched, State.tenantSquelched, State.out3Squelched, h1, h2,
    h3, h4]
  exact ⟨rfl, rfl⟩

/-- Output o after its part of the crossing. -/
def State.crossedOutput (o : OutId) (s : State) : Output :=
  match s.crossInstant o with
  | some past => s.outputAtInstant o past
  | none => s.pou.get o

/-- Its part of the crossing changes output o alone. -/
theorem State.crossOutput_pou_get (o p : OutId) (s : State) :
    (s.crossOutput o).pou.get p = if p = o then s.crossedOutput o else s.pou.get p := by
  unfold State.crossOutput State.crossedOutput
  cases s.crossInstant o <;> dsimp only
  · split
    · next h => rw [h]
    · rfl
  · rw [State.evaluateOut_pou, Four.get_set]

/-- What an output does with a crossing is not changed by the crossing of another. -/
theorem State.crossedOutput_crossOutput {o p : OutId} (h : p ≠ o) (s : State) :
    (s.crossOutput o).crossedOutput p = s.crossedOutput p := by
  have hp : (s.crossOutput o).pou.get p = s.pou.get p := by rw [State.crossOutput_pou_get, if_neg h]
  unfold State.crossedOutput
  rw [State.crossInstant_congr (by simp) (by simp) hp]
  cases s.crossInstant p with
  | none => exact hp
  | some past => exact State.outputAtInstant_congr (by simp) (by simp) (by simp) hp past

/-- Every output after the crossing: evaluated at the instant it crossed, or as the passing of the second left it. -/
theorem State.crossSecond_pou_get (o : OutId) (s : State) :
    s.crossSecond.pou.get o = s.passSecond.crossedOutput o := by
  simp only [State.crossSecond, State.forOutputs, State.crossOutput_pou_get]
  match o with
  | 0 => simp
  | 1 => simp [State.crossedOutput_crossOutput]
  | 2 => simp [State.crossedOutput_crossOutput]
  | 3 => simp [State.crossedOutput_crossOutput]

/-- State.markPassed changes at most pou. -/
@[simp] theorem State.markPassed_frame (s : State) :
    (s.markPassed).tsg = s.tsg ∧
      (s.markPassed).rmu = s.rmu ∧
      (s.markPassed).sde = s.sde ∧
      (s.markPassed).ols = s.ols ∧
      (s.markPassed).tru = s.tru ∧
      (s.markPassed).nu = s.nu ∧
      (s.markPassed).spm = s.spm ∧
      (s.markPassed).tpi = s.tpi ∧
      (s.markPassed).pins = s.pins ∧
      (s.markPassed).freeIndex = s.freeIndex ∧
      (s.markPassed).pending = s.pending := by
  exact ⟨rfl, rfl, rfl, rfl, rfl, rfl, rfl, rfl, rfl, rfl, rfl⟩

/-- State.boundary changes at most tsg, rmu, sde, ols, tru, nu, pou, spm. -/
@[simp] theorem State.boundary_frame (l : LineClock) (s : State) :
    (s.boundary l).tpi = s.tpi ∧
      (s.boundary l).pins = s.pins ∧
      (s.boundary l).freeIndex = s.freeIndex ∧
      (s.boundary l).pending = s.pending := by
  unfold State.boundary; dsimp only; split <;> simp

end Sys2Proof.Machine
end

