-- ==== Sys2Proof/Laws/Advance.lean ====
section
/-!
SUPPORT. The advance of site time (R2, R3, R6): what passSecond and advanceCycles leave of the TSG, where site time stands
after them, and the two ways a boundary can go (R10). The two operations are cited through these lemmas and not unfolded,
since their numerals are large.
-/

namespace Sys2Proof.Machine

/-! ## Positions -/

/-- Moving site time within the second leaves the seconds count. -/
@[simp] theorem Tsg.atPosition_seconds (t : Tsg) (u : Nat) : (t.atPosition u).seconds = t.seconds := rfl

/-- Moving site time within the second leaves the applied correction. -/
@[simp] theorem Tsg.atPosition_fApp (t : Tsg) (u : Nat) : (t.atPosition u).fApp = t.fApp := rfl

/-- Moving site time within the second leaves the time-valid flag. -/
@[simp] theorem Tsg.atPosition_timeValid (t : Tsg) (u : Nat) : (t.atPosition u).timeValid = t.timeValid := rfl

/-- Moving site time within the second leaves the re-run flag. -/
@[simp] theorem Tsg.atPosition_reRun (t : Tsg) (u : Nat) : (t.atPosition u).reRun = t.reRun := rfl

/-- A position within the second is taken whole. -/
@[simp] theorem Tsg.position_atPosition (t : Tsg) (u : Nat) : (t.atPosition u).position = u := by
  simp only [Tsg.position, Tsg.atPosition]
  exact Nat.div_add_mod' u unitsPerPs

/-- Site time in its ranges lies within the second. -/
theorem Tsg.position_lt {t : Tsg} (h : t.phase < psPerSecond) (h' : t.frac < unitsPerPs) : t.position < unitsPerSecond := by
  have h1 : t.phase * unitsPerPs + unitsPerPs ≤ psPerSecond * unitsPerPs := by
    rw [← Nat.succ_mul]; exact Nat.mul_le_mul_right _ h
  simp only [Tsg.position, unitsPerSecond]; omega

/-- A position within the second gives a phase and a fraction in their ranges. -/
theorem Tsg.atPosition_inRange (t : Tsg) {u : Nat} (h : u < unitsPerSecond) :
    (t.atPosition u).phase < psPerSecond ∧ (t.atPosition u).frac < unitsPerPs := by
  constructor
  · exact Nat.div_lt_of_lt_mul (by rw [Nat.mul_comm]; exact h)
  · exact Nat.mod_lt _ (by decide)

/-- One cycle advances site time by little more or less than 50,000 ps. -/
theorem State.cycleAdvance_bounds {s : State} (h : s.timeInRange) :
    999980000000 ≤ s.tsg.cycleAdvance ∧ s.tsg.cycleAdvance ≤ 1000020000000 := by
  obtain ⟨_, _, h1, h2⟩ := h
  simp only [corrLimit] at h1 h2
  simp only [Tsg.cycleAdvance]; omega

/-- A division rounded up is the least count that reaches. -/
theorem ceilDiv_spec (a : Nat) {b : Nat} (h : 0 < b) : a ≤ ceilDiv a b * b ∧ ceilDiv a b * b < a + b := by
  unfold ceilDiv
  have h1 := Nat.div_add_mod (a + b - 1) b
  have h2 := Nat.mod_lt (a + b - 1) h
  rw [Nat.mul_comm] at h1
  omega

/-! ## The end of a second -/

/-- The cycles in which site time passes the end of the second. -/
def State.cyclesToSecond (s : State) : Nat := ceilDiv (unitsPerSecond - s.tsg.position) s.tsg.cycleAdvance

/-- passSecond: site time moves to a position in the next second, and the pulses in progress elapse. -/
theorem State.passSecond_eq (s : State) :
    s.passSecond =
      { s with
        tsg :=
          { s.tsg.atPosition
              ((s.tsg.position + s.cyclesToSecond * s.tsg.cycleAdvance - unitsPerSecond) % unitsPerSecond) with
            seconds := s.tsg.seconds + 1 }
        pou := s.pou.mapIdx fun _ o => o.elapse (s.cyclesToSecond * s.tsg.cycleAdvance) } := rfl

/-- passSecond: the TSG stands at some position of the next second, and is else unchanged. -/
theorem State.passSecond_tsg_shape (s : State) :
    ∃ u, s.passSecond.tsg = { s.tsg.atPosition u with seconds := s.tsg.seconds + 1 } := ⟨_, rfl⟩

/-- The seconds count rises by one. -/
@[simp] theorem State.passSecond_seconds (s : State) : s.passSecond.tsg.seconds = s.tsg.seconds + 1 := by
  obtain ⟨_, h⟩ := s.passSecond_tsg_shape; rw [h]

/-- The epoch that ends is the second that was current. -/
@[simp] theorem seconds_add_sub (c : Seconds) : c + 1 - 1 = c := BitVec.add_sub_cancel c 1

/-- The applied correction stays. -/
@[simp] theorem State.passSecond_fApp (s : State) : s.passSecond.tsg.fApp = s.tsg.fApp := by
  obtain ⟨_, h⟩ := s.passSecond_tsg_shape; rw [h]; simp

/-- The time-valid flag stays. -/
@[simp] theorem State.passSecond_timeValid (s : State) : s.passSecond.tsg.timeValid = s.tsg.timeValid := by
  obtain ⟨_, h⟩ := s.passSecond_tsg_shape; rw [h]; simp

/-- The re-run flag stays. -/
@[simp] theorem State.passSecond_reRun (s : State) : s.passSecond.tsg.reRun = s.tsg.reRun := by
  obtain ⟨_, h⟩ := s.passSecond_tsg_shape; rw [h]; simp

/-- Where passSecond puts site time within the new second. -/
theorem State.passSecond_position (s : State) :
    s.passSecond.tsg.position =
      (s.tsg.position + s.cyclesToSecond * s.tsg.cycleAdvance - unitsPerSecond) % unitsPerSecond := by
  rw [State.passSecond_eq]; exact Tsg.position_atPosition s.tsg _

/-- The pulses in progress elapse over those cycles. -/
theorem State.passSecond_pou (s : State) :
    s.passSecond.pou = s.pou.mapIdx fun _ o => o.elapse (s.cyclesToSecond * s.tsg.cycleAdvance) := by
  rw [State.passSecond_eq]

/-- The least number of whole cycles that passes the end of the second, and what lies beyond it. -/
theorem State.passSecond_spec {s : State} (h : s.timeInRange) :
    s.tsg.position + s.cyclesToSecond * s.tsg.cycleAdvance = unitsPerSecond + s.passSecond.tsg.position ∧
    s.passSecond.tsg.position < s.tsg.cycleAdvance := by
  have hb := State.cycleAdvance_bounds h
  have hp := Tsg.position_lt h.1 h.2.1
  have hc := ceilDiv_spec (unitsPerSecond - s.tsg.position) (b := s.tsg.cycleAdvance) (by omega)
  rw [State.passSecond_position]
  unfold State.cyclesToSecond
  generalize ceilDiv (unitsPerSecond - s.tsg.position) s.tsg.cycleAdvance * s.tsg.cycleAdvance = n at *
  have hu : unitsPerSecond = 20000000000000000000 := by decide
  rw [Nat.mod_eq_of_lt (by omega)]
  omega

/-! ## An advance within the second -/

/-- The cycles of n that fit within the current second. -/
def State.cyclesWithin (n : Nat) (s : State) : Nat :=
  min n ((unitsPerSecond - 1 - s.tsg.position) / s.tsg.cycleAdvance)

/-- Site time after an advance within the second. -/
def State.tsgAfter (n : Nat) (s : State) : Tsg := s.tsg.atPosition (s.tsg.position + s.cyclesWithin n * s.tsg.cycleAdvance)

/-- advanceCycles: site time moves within the second, the pulses in progress elapse, and the instants passed are marked. -/
theorem State.advanceCycles_eq (n : Nat) (s : State) :
    s.advanceCycles n =
      { s with
        tsg := s.tsgAfter n
        pou := s.pou.mapIdx fun _ o => o.advance (s.tsgAfter n) (s.cyclesWithin n) s.tsg.cycleAdvance } := rfl

/-- advanceCycles: the TSG stands at some position of the same second, and is else unchanged. -/
theorem State.advanceCycles_tsg_shape (n : Nat) (s : State) : ∃ u, (s.advanceCycles n).tsg = s.tsg.atPosition u :=
  ⟨_, rfl⟩

/-- The seconds count stays. -/
@[simp] theorem State.advanceCycles_seconds (n : Nat) (s : State) : (s.advanceCycles n).tsg.seconds = s.tsg.seconds := by
  obtain ⟨_, h⟩ := s.advanceCycles_tsg_shape n; rw [h]; simp

/-- The applied correction stays. -/
@[simp] theorem State.advanceCycles_fApp (n : Nat) (s : State) : (s.advanceCycles n).tsg.fApp = s.tsg.fApp := by
  obtain ⟨_, h⟩ := s.advanceCycles_tsg_shape n; rw [h]; simp

/-- The time-valid flag stays. -/
@[simp] theorem State.advanceCycles_timeValid (n : Nat) (s : State) :
    (s.advanceCycles n).tsg.timeValid = s.tsg.timeValid := by
  obtain ⟨_, h⟩ := s.advanceCycles_tsg_shape n; rw [h]; simp

/-- The re-run flag stays. -/
@[simp] theorem State.advanceCycles_reRun (n : Nat) (s : State) : (s.advanceCycles n).tsg.reRun = s.tsg.reRun := by
  obtain ⟨_, h⟩ := s.advanceCycles_tsg_shape n; rw [h]; simp

/-- Where advanceCycles puts site time. -/
theorem State.advanceCycles_position (n : Nat) (s : State) :
    (s.advanceCycles n).tsg.position = s.tsg.position + s.cyclesWithin n * s.tsg.cycleAdvance := by
  rw [State.advanceCycles_eq]; exact Tsg.position_atPosition _ _

/-- Every output advances over those cycles. -/
theorem State.advanceCycles_pou (n : Nat) (s : State) :
    (s.advanceCycles n).pou =
      s.pou.mapIdx fun _ o => o.advance (s.advanceCycles n).tsg (s.cyclesWithin n) s.tsg.cycleAdvance := by
  rw [State.advanceCycles_eq]

/-- An advance elapses the pulse in progress, whatever the count. -/
@[simp] theorem Output.advance_pulseLeft (t : Tsg) (n adv : Nat) (o : Output) :
    (o.advance t n adv).pulseLeft = o.pulseLeft.map (· - n * adv) := by
  unfold Output.advance; split
  · next h => subst h; cases o.pulseLeft <;> simp
  · rfl

/-- An advance changes of an output at most the width left and the mark. -/
@[simp] theorem Output.advance_frame (t : Tsg) (n adv : Nat) (o : Output) :
    (o.advance t n adv).current = o.current ∧ (o.advance t n adv).pending = o.pending ∧
      (o.advance t n adv).state = o.state ∧ (o.advance t n adv).resumeWait = o.resumeWait := by
  unfold Output.advance; split <;> simp [Output.elapse]

/-- advanceCycles stays within the second. -/
theorem State.advanceCycles_position_lt (n : Nat) {s : State} (h : s.tsg.position < unitsPerSecond) :
    (s.advanceCycles n).tsg.position < unitsPerSecond := by
  rw [State.advanceCycles_position]
  unfold State.cyclesWithin
  have h1 : min n ((unitsPerSecond - 1 - s.tsg.position) / s.tsg.cycleAdvance) * s.tsg.cycleAdvance ≤
      unitsPerSecond - 1 - s.tsg.position :=
    Nat.le_trans (Nat.mul_le_mul_right _ (Nat.min_le_right _ _)) (Nat.div_mul_le_self _ _)
  have hu : unitsPerSecond = 20000000000000000000 := by decide
  omega

/-- Site time stays in its ranges over an advance. -/
theorem State.advanceCycles_timeInRange (n : Nat) {s : State} (h : s.timeInRange) : (s.advanceCycles n).timeInRange := by
  have hp := State.advanceCycles_position_lt n (Tsg.position_lt h.1 h.2.1)
  refine ⟨?_, ?_, ?_, ?_⟩
  · obtain ⟨u, hu⟩ := s.advanceCycles_tsg_shape n
    rw [hu] at hp ⊢; exact (Tsg.atPosition_inRange _ (by rw [Tsg.position_atPosition] at hp; exact hp)).1
  · obtain ⟨u, hu⟩ := s.advanceCycles_tsg_shape n
    rw [hu] at hp ⊢; exact (Tsg.atPosition_inRange _ (by rw [Tsg.position_atPosition] at hp; exact hp)).2
  · rw [State.advanceCycles_fApp]; exact h.2.2.1
  · rw [State.advanceCycles_fApp]; exact h.2.2.2

/-! ## The two ways a boundary can go (R6, R10) -/

/-- A boundary with the re-run flag clear is raised. -/
theorem State.boundary_of_raises {s : State} (h : s.tsg.reRun = false) (line : LineClock) :
    s.boundary line = (s.crossSecond.raiseBoundary line).markPassed := by
  have h' : s.crossSecond.tsg.reRun = false := by simp [h]
  simp only [State.boundary, h', Bool.false_eq_true, if_false]

/-- EPOCH_BOUNDARY where it is raised. -/
theorem exec_epochBoundary_of_raises {s : State} (h : s.raises) (line : LineClock) :
    exec (.epochBoundary line) s = .next (s.crossSecond.raiseBoundary line).markPassed := by
  have h' := h.1
  simp [exec, execEpochBoundary, h', State.boundary_of_raises h.2]

/-- A raised boundary changes nothing more of the TSG than the applied correction. -/
theorem State.raiseBoundary_tsg_shape (line : LineClock) (s : State) :
    ∃ f, (s.raiseBoundary line).tsg = { s.tsg with fApp := f } := by
  have h : (s.raiseBoundary line).tsg = ((s.rmuBoundary (s.tsg.seconds - 1) line).formHours.predictionStep).tsg := by
    simp only [State.raiseBoundary, State.sdeBoundary, State.spmBoundary_frame, State.adoptOutputs_frame,
      State.ageJoint_frame, State.startRead_frame, State.dayBoundary_frame, State.countBridge_frame, State.growE_frame]
  rw [h]
  have h' : ∀ x : State, ∃ f, x.predictionStep.tsg = { x.tsg with fApp := f } := by
    intro x; unfold State.predictionStep; split
    · exact ⟨_, rfl⟩
    · exact ⟨x.tsg.fApp, rfl⟩
  obtain ⟨f, hf⟩ := h' (s.rmuBoundary (s.tsg.seconds - 1) line).formHours
  exact ⟨f, by rw [hf, (State.formHours_frame _).1, (State.rmuBoundary_frame _ _ _).1]⟩

/-- A boundary with the re-run flag set clears it and raises nothing. -/
theorem State.boundary_of_reRun {s : State} (h : s.tsg.reRun = true) (line : LineClock) :
    s.boundary line =
      State.markPassed { s.crossSecond with tsg := { s.crossSecond.tsg with reRun := false } } := by
  have h' : s.crossSecond.tsg.reRun = true := by simp [h]
  simp only [State.boundary, h', if_true]

end Sys2Proof.Machine
end

