-- ==== Sys2Proof/Laws/Joint.lean ====
section
/-!
SUPPORT. What joint actions and the detach leave unchanged. Each lemma says once what an operation keeps.
-/

namespace Sys2Proof.Machine

/-- State.changeEnable changes at most rmu, nu. -/
@[simp] theorem State.changeEnable_frame (n : SlotId) (on : Bool) (s : State) :
    (s.changeEnable n on).tsg = s.tsg ∧
      (s.changeEnable n on).sde = s.sde ∧
      (s.changeEnable n on).ols = s.ols ∧
      (s.changeEnable n on).tru = s.tru ∧
      (s.changeEnable n on).pou = s.pou ∧
      (s.changeEnable n on).spm = s.spm ∧
      (s.changeEnable n on).tpi = s.tpi ∧
      (s.changeEnable n on).pins = s.pins ∧
      (s.changeEnable n on).freeIndex = s.freeIndex ∧
      (s.changeEnable n on).pending = s.pending := by
  unfold State.changeEnable; dsimp only; split <;> simp

/-- State.formOut3 changes at most pou. -/
@[simp] theorem State.formOut3_frame (s : State) :
    (s.formOut3).tsg = s.tsg ∧
      (s.formOut3).rmu = s.rmu ∧
      (s.formOut3).sde = s.sde ∧
      (s.formOut3).ols = s.ols ∧
      (s.formOut3).tru = s.tru ∧
      (s.formOut3).nu = s.nu ∧
      (s.formOut3).spm = s.spm ∧
      (s.formOut3).tpi = s.tpi ∧
      (s.formOut3).pins = s.pins ∧
      (s.formOut3).freeIndex = s.freeIndex ∧
      (s.formOut3).pending = s.pending := by
  exact ⟨rfl, rfl, rfl, rfl, rfl, rfl, rfl, rfl, rfl, rfl, rfl⟩

/-- State.setStepNow changes at most sde. -/
@[simp] theorem State.setStepNow_frame (s : State) :
    (s.setStepNow).tsg = s.tsg ∧
      (s.setStepNow).rmu = s.rmu ∧
      (s.setStepNow).ols = s.ols ∧
      (s.setStepNow).tru = s.tru ∧
      (s.setStepNow).nu = s.nu ∧
      (s.setStepNow).pou = s.pou ∧
      (s.setStepNow).spm = s.spm ∧
      (s.setStepNow).tpi = s.tpi ∧
      (s.setStepNow).pins = s.pins ∧
      (s.setStepNow).freeIndex = s.freeIndex ∧
      (s.setStepNow).pending = s.pending := by
  exact ⟨rfl, rfl, rfl, rfl, rfl, rfl, rfl, rfl, rfl, rfl, rfl⟩

/-- State.endJoint changes at most tru. -/
@[simp] theorem State.endJoint_frame (r : JointRecord) (e : JointEnding) (s : State) :
    (s.endJoint r e).tsg = s.tsg ∧
      (s.endJoint r e).rmu = s.rmu ∧
      (s.endJoint r e).sde = s.sde ∧
      (s.endJoint r e).ols = s.ols ∧
      (s.endJoint r e).nu = s.nu ∧
      (s.endJoint r e).pou = s.pou ∧
      (s.endJoint r e).spm = s.spm ∧
      (s.endJoint r e).tpi = s.tpi ∧
      (s.endJoint r e).pins = s.pins ∧
      (s.endJoint r e).freeIndex = s.freeIndex ∧
      (s.endJoint r e).pending = s.pending := by
  exact ⟨rfl, rfl, rfl, rfl, rfl, rfl, rfl, rfl, rfl, rfl, rfl⟩

/-- State.setTenant changes at most tru. -/
@[simp] theorem State.setTenant_frame (t : Port) (r : Tenant) (s : State) :
    (s.setTenant t r).tsg = s.tsg ∧
      (s.setTenant t r).rmu = s.rmu ∧
      (s.setTenant t r).sde = s.sde ∧
      (s.setTenant t r).ols = s.ols ∧
      (s.setTenant t r).nu = s.nu ∧
      (s.setTenant t r).pou = s.pou ∧
      (s.setTenant t r).spm = s.spm ∧
      (s.setTenant t r).tpi = s.tpi ∧
      (s.setTenant t r).pins = s.pins ∧
      (s.setTenant t r).freeIndex = s.freeIndex ∧
      (s.setTenant t r).pending = s.pending := by
  exact ⟨rfl, rfl, rfl, rfl, rfl, rfl, rfl, rfl, rfl, rfl, rfl⟩

/-- State.setNotices changes at most nu. -/
@[simp] theorem State.setNotices_frame (t : Port) (n : TenantNotices) (s : State) :
    (s.setNotices t n).tsg = s.tsg ∧
      (s.setNotices t n).rmu = s.rmu ∧
      (s.setNotices t n).sde = s.sde ∧
      (s.setNotices t n).ols = s.ols ∧
      (s.setNotices t n).tru = s.tru ∧
      (s.setNotices t n).pou = s.pou ∧
      (s.setNotices t n).spm = s.spm ∧
      (s.setNotices t n).tpi = s.tpi ∧
      (s.setNotices t n).pins = s.pins ∧
      (s.setNotices t n).freeIndex = s.freeIndex ∧
      (s.setNotices t n).pending = s.pending := by
  exact ⟨rfl, rfl, rfl, rfl, rfl, rfl, rfl, rfl, rfl, rfl, rfl⟩

/-- State.raiseToFloor changes at most sde, nu. -/
@[simp] theorem State.raiseToFloor_frame (s : State) :
    (s.raiseToFloor).tsg = s.tsg ∧
      (s.raiseToFloor).rmu = s.rmu ∧
      (s.raiseToFloor).ols = s.ols ∧
      (s.raiseToFloor).tru = s.tru ∧
      (s.raiseToFloor).pou = s.pou ∧
      (s.raiseToFloor).spm = s.spm ∧
      (s.raiseToFloor).tpi = s.tpi ∧
      (s.raiseToFloor).pins = s.pins ∧
      (s.raiseToFloor).freeIndex = s.freeIndex ∧
      (s.raiseToFloor).pending = s.pending := by
  unfold State.raiseToFloor; split <;> simp

/-- State.configureEnable changes at most rmu, tru, nu. -/
@[simp] theorem State.configureEnable_frame (n : SlotId) (v : Int) (s : State) :
    ((s.configureEnable n v).1).tsg = s.tsg ∧
      ((s.configureEnable n v).1).sde = s.sde ∧
      ((s.configureEnable n v).1).ols = s.ols ∧
      ((s.configureEnable n v).1).pou = s.pou ∧
      ((s.configureEnable n v).1).spm = s.spm ∧
      ((s.configureEnable n v).1).tpi = s.tpi ∧
      ((s.configureEnable n v).1).pins = s.pins ∧
      ((s.configureEnable n v).1).freeIndex = s.freeIndex ∧
      ((s.configureEnable n v).1).pending = s.pending := by
  unfold State.configureEnable; split
  · dsimp only; split <;> simp
  · simp

/-- State.configureItem changes at most rmu, tru, nu. -/
@[simp] theorem State.configureItem_frame (final : Nat) (i : ConfigItem) (s : State) :
    ((s.configureItem final i).1).tsg = s.tsg ∧
      ((s.configureItem final i).1).sde = s.sde ∧
      ((s.configureItem final i).1).ols = s.ols ∧
      ((s.configureItem final i).1).pou = s.pou ∧
      ((s.configureItem final i).1).spm = s.spm ∧
      ((s.configureItem final i).1).tpi = s.tpi ∧
      ((s.configureItem final i).1).pins = s.pins ∧
      ((s.configureItem final i).1).freeIndex = s.freeIndex ∧
      ((s.configureItem final i).1).pending = s.pending := by
  unfold State.configureItem; split
  · split
    · simp
    · split <;> simp
  · simp

/-- State.configureItems changes at most rmu, tru, nu. -/
@[simp] theorem State.configureItems_frame (final : Nat) (is : List ConfigItem) (s : State) :
    ((State.configureItems final is s).1).tsg = s.tsg ∧
      ((State.configureItems final is s).1).sde = s.sde ∧
      ((State.configureItems final is s).1).ols = s.ols ∧
      ((State.configureItems final is s).1).pou = s.pou ∧
      ((State.configureItems final is s).1).spm = s.spm ∧
      ((State.configureItems final is s).1).tpi = s.tpi ∧
      ((State.configureItems final is s).1).pins = s.pins ∧
      ((State.configureItems final is s).1).freeIndex = s.freeIndex ∧
      ((State.configureItems final is s).1).pending = s.pending := by
  induction is generalizing s with
  | nil => simp [State.configureItems]
  | cons i is ih => simp [State.configureItems, ih]

/-- State.configure changes at most rmu, sde, ols, tru, nu, pou. -/
@[simp] theorem State.configure_frame (is : List ConfigItem) (s : State) :
    ((s.configure is).1).tsg = s.tsg ∧
      ((s.configure is).1).spm = s.spm ∧
      ((s.configure is).1).tpi = s.tpi ∧
      ((s.configure is).1).pins = s.pins ∧
      ((s.configure is).1).freeIndex = s.freeIndex ∧
      ((s.configure is).1).pending = s.pending := by
  unfold State.configure; dsimp only; split <;> simp

/-- State.clearLearning changes at most ols. -/
@[simp] theorem State.clearLearning_frame (s : State) :
    (s.clearLearning).tsg = s.tsg ∧
      (s.clearLearning).rmu = s.rmu ∧
      (s.clearLearning).sde = s.sde ∧
      (s.clearLearning).tru = s.tru ∧
      (s.clearLearning).nu = s.nu ∧
      (s.clearLearning).pou = s.pou ∧
      (s.clearLearning).spm = s.spm ∧
      (s.clearLearning).tpi = s.tpi ∧
      (s.clearLearning).pins = s.pins ∧
      (s.clearLearning).freeIndex = s.freeIndex ∧
      (s.clearLearning).pending = s.pending := by
  simp [State.clearLearning]

/-- State.restartClock changes at most tsg, rmu, sde, nu. -/
@[simp] theorem State.restartClock_frame (s : State) :
    (s.restartClock).ols = s.ols ∧
      (s.restartClock).tru = s.tru ∧
      (s.restartClock).pou = s.pou ∧
      (s.restartClock).spm = s.spm ∧
      (s.restartClock).tpi = s.tpi ∧
      (s.restartClock).pins = s.pins ∧
      (s.restartClock).freeIndex = s.freeIndex ∧
      (s.restartClock).pending = s.pending := by
  unfold State.restartClock; dsimp only; split <;> split <;> simp

/-- State.carryOut changes at most tsg, rmu, sde, ols, tru, nu, pou. -/
@[simp] theorem State.carryOut_frame (k : JointKind) (s : State) :
    ((s.carryOut k).1).spm = s.spm ∧
      ((s.carryOut k).1).tpi = s.tpi ∧
      ((s.carryOut k).1).pins = s.pins ∧
      ((s.carryOut k).1).freeIndex = s.freeIndex ∧
      ((s.carryOut k).1).pending = s.pending := by
  unfold State.carryOut; split
  · simp
  · simp
  · split <;> simp
  · simp

/-- State.executeJoint changes at most tsg, rmu, sde, ols, tru, nu, pou. -/
@[simp] theorem State.executeJoint_frame (r : JointRecord) (b : Bool) (s : State) :
    ((s.executeJoint r b).1).spm = s.spm ∧
      ((s.executeJoint r b).1).tpi = s.tpi ∧
      ((s.executeJoint r b).1).pins = s.pins ∧
      ((s.executeJoint r b).1).freeIndex = s.freeIndex ∧
      ((s.executeJoint r b).1).pending = s.pending := by
  simp [State.executeJoint]

/-- State.cancelJoint changes at most tru, nu. -/
@[simp] theorem State.cancelJoint_frame (w : CancelReason) (s : State) :
    (s.cancelJoint w).tsg = s.tsg ∧
      (s.cancelJoint w).rmu = s.rmu ∧
      (s.cancelJoint w).sde = s.sde ∧
      (s.cancelJoint w).ols = s.ols ∧
      (s.cancelJoint w).pou = s.pou ∧
      (s.cancelJoint w).spm = s.spm ∧
      (s.cancelJoint w).tpi = s.tpi ∧
      (s.cancelJoint w).pins = s.pins ∧
      (s.cancelJoint w).freeIndex = s.freeIndex ∧
      (s.cancelJoint w).pending = s.pending := by
  unfold State.cancelJoint; split <;> simp

/-- State.leaveJoint changes at most tsg, rmu, sde, ols, tru, nu, pou. -/
@[simp] theorem State.leaveJoint_frame (t : Port) (s : State) :
    (s.leaveJoint t).spm = s.spm ∧
      (s.leaveJoint t).tpi = s.tpi ∧
      (s.leaveJoint t).pins = s.pins ∧
      (s.leaveJoint t).freeIndex = s.freeIndex ∧
      (s.leaveJoint t).pending = s.pending := by
  unfold State.leaveJoint; split
  · simp
  · split
    · simp
    · split
      · simp
      · split <;> simp

/-- State.dropTenant changes at most tsg, rmu, sde, ols, tru, nu, pou. -/
@[simp] theorem State.dropTenant_frame (t : Port) (s : State) :
    (s.dropTenant t).spm = s.spm ∧
      (s.dropTenant t).tpi = s.tpi ∧
      (s.dropTenant t).pins = s.pins ∧
      (s.dropTenant t).freeIndex = s.freeIndex ∧
      (s.dropTenant t).pending = s.pending := by
  simp [State.dropTenant]

/-- State.detachTenant changes at most tsg, rmu, sde, ols, tru, nu, pou. -/
@[simp] theorem State.detachTenant_frame (t : Port) (s : State) :
    (s.detachTenant t).spm = s.spm ∧
      (s.detachTenant t).tpi = s.tpi ∧
      (s.detachTenant t).pins = s.pins ∧
      (s.detachTenant t).freeIndex = s.freeIndex ∧
      (s.detachTenant t).pending = s.pending := by
  simp [State.detachTenant]

end Sys2Proof.Machine
end

