-- ==== Sys2Proof/Laws/Notices.lean ====
section
/-!
SUPPORT. What a posting leaves of each tenant's notice state, that a filed report stands in the set it enters, what each latch
operation leaves, and that the invariant on latch-lows is kept by them.
-/

namespace Sys2Proof.Machine

/-! ## Postings -/

@[simp] theorem State.post_get (named : Port → Bool) (r : Report) (s : State) (t : Port) :
    (s.post named r).nu.get t = if s.attached t && named t then (s.nu.get t).file r else s.nu.get t :=
  Three.get_mapIdx _ _ _

@[simp] theorem State.postAll_get (r : Report) (s : State) (t : Port) :
    (s.postAll r).nu.get t = if s.attached t then (s.nu.get t).file r else s.nu.get t := by
  simp [State.postAll]

@[simp] theorem TenantNotices.file_latches (n : TenantNotices) (r : Report) : (n.file r).latches = n.latches := by
  unfold TenantNotices.file; split <;> [rfl; split <;> rfl]

@[simp] theorem TenantNotices.file_frozen (n : TenantNotices) (r : Report) : (n.file r).frozen = n.frozen := by
  unfold TenantNotices.file; split <;> [rfl; split <;> rfl]

@[simp] theorem TenantNotices.file_mask (n : TenantNotices) (r : Report) : (n.file r).mask = n.mask := by
  unfold TenantNotices.file; split <;> [rfl; split <;> rfl]

theorem State.post_latches (named : Port → Bool) (r : Report) (s : State) (t : Port) :
    ((s.post named r).nu.get t).latches = (s.nu.get t).latches := by
  rw [State.post_get]; split <;> simp

/-- A notice filed is in the set, or its merge into the notice of its kind is. -/
theorem mem_fileNotice (x : Notice) (ns : List Notice) :
    x ∈ fileNotice x ns ∨ ∃ y ∈ ns, y.kind = x.kind ∧ y.merge x ∈ fileNotice x ns := by
  induction ns with
  | nil => exact .inl (by simp [fileNotice])
  | cons m ms ih =>
    unfold fileNotice
    split
    · exact .inl (by simp)
    · split
      next h => exact .inr ⟨m, by simp, h.symm, by simp⟩
      next =>
        rcases ih with h | ⟨y, hy, hk, hm⟩
        · exact .inl (by simp [h])
        · exact .inr ⟨y, by simp [hy], hk, by simp [hm]⟩

/-- Every notice of a set but the one of the filed kind stays in it. -/
theorem mem_fileNotice_of_mem (x : Notice) {y : Notice} {ns : List Notice} (h : y ∈ ns) (hk : y.kind ≠ x.kind) :
    y ∈ fileNotice x ns := by
  induction ns with
  | nil => cases h
  | cons m ms ih =>
    unfold fileNotice
    split
    · exact List.mem_cons_of_mem _ h
    · split
      next hm =>
        rcases List.mem_cons.mp h with rfl | h
        · exact absurd hm.symm hk
        · exact List.mem_cons_of_mem _ h
      next =>
        rcases List.mem_cons.mp h with rfl | h
        · simp
        · exact List.mem_cons_of_mem _ (ih h)

/-! ## Latches -/

@[simp] theorem State.watchLatches_get (s : State) (t : Port) :
    s.watchLatches.nu.get t =
      if s.attached t then { s.nu.get t with latches := (s.nu.get t).latches.follow (s.armedLatches t) } else s.nu.get t :=
  Three.get_mapIdx _ _ _

@[simp] theorem State.armLatches_get (s : State) (t u : Port) :
    (s.armLatches t).nu.get u =
      if u = t then { s.nu.get t with latches := s.armedLatches t } else s.nu.get u := by
  simp [State.armLatches, Three.get_set]

@[simp] theorem State.latchRefFault_get (s : State) (t : Port) :
    s.latchRefFault.nu.get t =
      if s.attached t then { s.nu.get t with latches := { (s.nu.get t).latches with refFault := true } } else s.nu.get t :=
  Three.get_mapIdx _ _ _

@[simp] theorem State.latchStepped_get (s : State) (t : Port) :
    s.latchStepped.nu.get t =
      if s.attached t then { s.nu.get t with latches := { (s.nu.get t).latches with stepped := true } } else s.nu.get t :=
  Three.get_mapIdx _ _ _

/-- Once the latches have followed, each latch-low that stands at 1 has its condition true, whatever stood before. -/
theorem State.watchLatches_consistent (s : State) : s.watchLatches.latchesConsistent := by
  intro t h
  have h : s.attached t = true := h
  simp only [State.watchLatches_get, h, if_true, Latches.follow, State.armedLatches, Bool.and_eq_true, beq_iff_eq]
  exact ⟨And.right, And.right, And.right, And.right⟩

/-- The invariant on latch-lows reads the attachments, the conditions and the latches alone, and keeps under a fall of a latch. -/
theorem State.latchesConsistent_of_le {s s' : State} (h : s.latchesConsistent)
    (attached : ∀ t : Port, s'.attached t = true → s.attached t = true)
    (valid : s.tsg.timeValid = true → s'.tsg.timeValid = true)
    (tol : ∀ t : Port, s.sde.tol.get t = true → s'.sde.tol.get t = true)
    (locked : s.sde.clock = .locked → s'.sde.clock = .locked)
    (oven : s.spm.oven = .settled → s'.spm.oven = .settled)
    (lows : ∀ t : Port,
      let l := (s.nu.get t).latches
      let l' := (s'.nu.get t).latches
      (l'.timeValid = true → l.timeValid = true) ∧ (l'.inTolerance = true → l.inTolerance = true) ∧
      (l'.locked = true → l.locked = true) ∧ (l'.ovenSettled = true → l.ovenSettled = true)) :
    s'.latchesConsistent := by
  intro t ha
  obtain ⟨h1, h2, h3, h4⟩ := h t (attached t ha)
  obtain ⟨l1, l2, l3, l4⟩ := lows t
  exact ⟨valid ∘ h1 ∘ l1, tol t ∘ h2 ∘ l2, locked ∘ h3 ∘ l3, oven ∘ h4 ∘ l4⟩

/-- A posting keeps the invariant on latch-lows. -/
theorem State.post_latchesConsistent (named : Port → Bool) (r : Report) {s : State} (h : s.latchesConsistent) :
    (s.post named r).latchesConsistent :=
  State.latchesConsistent_of_le h (fun _ => id) id (fun _ => id) id id fun t => by
    simp only [State.post_latches]; exact ⟨id, id, id, id⟩

end Sys2Proof.Machine
end

