-- ==== Sys2Proof/Laws/Wire.lean ====
section
/-!
SUPPORT. Reading back what was written: an unsigned field of a frame, the bytes of a signed field that its value fits, and the header of a request frame (R210, Table 12-2).
-/

namespace Sys2Proof.Wire

open Sys2Proof.Machine

/-- A field of n bytes has n bytes. -/
@[simp] theorem unsignedBytes_length (n v : Nat) : (unsignedBytes n v).length = n := by
  induction n generalizing v with
  | zero => rfl
  | succ n ih => simp [unsignedBytes, ih]

/-- The number of a field read from an accumulator. -/
theorem number_from (bs : List Byte) (a : Nat) :
    bs.foldl (fun n b => 256 * n + b.toNat) a = 256 ^ bs.length * a + number bs := by
  induction bs generalizing a with
  | nil => simp [number]
  | cons b bs ih =>
    simp only [number, List.foldl_cons, List.length_cons]
    rw [ih, ih (256 * 0 + b.toNat)]
    rw [Nat.pow_succ, Nat.mul_add, Nat.mul_zero, Nat.zero_add, Nat.mul_assoc, Nat.add_assoc]

/-- The number of a byte followed by a field. -/
theorem number_cons (b : Byte) (bs : List Byte) : number (b :: bs) = 256 ^ bs.length * b.toNat + number bs := by
  show (b :: bs).foldl (fun n b => 256 * n + b.toNat) 0 = _
  rw [List.foldl_cons, number_from]; simp

/-- A field reads back as the value written, modulo its width. -/
theorem number_unsignedBytes (n v : Nat) : number (unsignedBytes n v) = v % 256 ^ n := by
  induction n with
  | zero => simp [unsignedBytes, number, Nat.mod_one]
  | succ n ih =>
    rw [unsignedBytes, number_cons, ih, unsignedBytes_length, BitVec.toNat_ofNat, Nat.pow_succ 256 n, Nat.mod_mul,
      Nat.add_comm]

/-- A signed field of n bytes has n bytes. -/
@[simp] theorem signedBytes_length (n : Nat) (v : Int) : (signedBytes n v).length = n := unsignedBytes_length n _

/-- A value that fits its signed field is sent as two's complement (R210); what any other is sent as stays free (log 34). -/
theorem signedBytes_of_fits {n : Nat} {v : Int} (h : fitsSigned n v = true) :
    signedBytes n v = unsignedBytes n (v % (256 ^ n : Nat)).toNat := by
  unfold signedBytes; rw [if_pos h]

/-- A field that stands whole inside a frame is found at its offset. -/
theorem field_mid (pre mid post : List Byte) : field (pre ++ mid ++ post) pre.length mid.length = mid := by
  unfold field
  simp

/-- A field that stands whole inside a frame, its offset and width given as numbers. -/
theorem field_at {frame pre mid post : List Byte} {o n : Nat} (h : frame = pre ++ mid ++ post) (ho : pre.length = o)
    (hn : mid.length = n) : field frame o n = mid := by
  subst h ho hn; exact field_mid pre mid post

/-- A two-byte field reads back as the word written. -/
theorem word16At_of {frame pre post : List Byte} {o : Nat} (w : Word16)
    (h : frame = pre ++ unsignedBytes 2 w.toNat ++ post) (ho : pre.length = o) : word16At frame o = w := by
  unfold word16At
  rw [field_at h ho (unsignedBytes_length _ _), number_unsignedBytes]
  apply BitVec.eq_of_toNat_eq; simp; omega

/-- A four-byte field reads back as the value written. -/
theorem word32At_of {frame pre post : List Byte} {o : Nat} (w : BitVec 32)
    (h : frame = pre ++ unsignedBytes 4 w.toNat ++ post) (ho : pre.length = o) : word32At frame o = w := by
  unfold word32At
  rw [field_at h ho (unsignedBytes_length _ _), number_unsignedBytes]
  apply BitVec.eq_of_toNat_eq; simp; omega

/-- A six-byte field reads back as the value written. -/
theorem word48At_of {frame pre post : List Byte} {o : Nat} (w : BitVec 48)
    (h : frame = pre ++ unsignedBytes 6 w.toNat ++ post) (ho : pre.length = o) : word48At frame o = w := by
  unfold word48At
  rw [field_at h ho (unsignedBytes_length _ _), number_unsignedBytes]
  apply BitVec.eq_of_toNat_eq; simp; omega

/-- A one-byte field reads back as the byte written. -/
theorem byteAt_of {frame pre post : List Byte} {o : Nat} (b : Byte) (h : frame = pre ++ [b] ++ post)
    (ho : pre.length = o) : byteAt frame o = b := by
  unfold byteAt
  rw [show field frame o 1 = [b] from field_at h ho rfl, number_cons]
  apply BitVec.eq_of_toNat_eq; simp [number]

/-- A request frame is its header and its body. -/
@[simp] theorem requestFrame_length (code : Byte) (tag : Word16) (body : List Byte) :
    (requestFrame code tag body).length = 4 + body.length := by
  simp [requestFrame]; omega

/-- The first byte of a request frame is its length. -/
@[simp] theorem requestFrame_lengthByte (code : Byte) (tag : Word16) (body : List Byte) :
    byteAt (requestFrame code tag body) 0 = BitVec.ofNat 8 (4 + body.length) :=
  byteAt_of (pre := []) (post := code :: unsignedBytes 2 tag.toNat ++ body) _ (by simp [requestFrame]) rfl

/-- The second byte of a request frame is its code. -/
@[simp] theorem requestFrame_code (code : Byte) (tag : Word16) (body : List Byte) :
    byteAt (requestFrame code tag body) 1 = code :=
  byteAt_of (pre := [BitVec.ofNat 8 (4 + body.length)]) (post := unsignedBytes 2 tag.toNat ++ body) _
    (by simp [requestFrame]) rfl

/-- The next two bytes of a request frame are its tag. -/
@[simp] theorem requestFrame_tag (code : Byte) (tag : Word16) (body : List Byte) :
    word16At (requestFrame code tag body) 2 = tag :=
  word16At_of (pre := [BitVec.ofNat 8 (4 + body.length), code]) (post := body) _ (by simp [requestFrame]) rfl

/-- The items of a proposal take six bytes each. -/
@[simp] theorem items_length (items : List ConfigItem) : (items.flatMap ConfigItem.bytes).length = 6 * items.length := by
  induction items with
  | nil => rfl
  | cons i is ih => simp only [List.flatMap_cons, List.length_append, ih, List.length_cons]; simp [ConfigItem.bytes]; omega

/-- An advertisement takes ten bytes. -/
@[simp] theorem advertisementBytes_length (f : AdvertisementFields) : (advertisementBytes f).length = 10 := by
  simp [advertisementBytes]

/-- A report takes thirteen bytes, or nineteen with a label. -/
theorem reportBytes_length (f : ReportFields) :
    (reportBytes f).length = if f.label.isSome then 19 else 13 := by
  cases h : f.label <;> simp [reportBytes, h]

/-- A SET_OUTPUT body takes twelve bytes. -/
@[simp] theorem outputBytes_length (f : OutputFields) : (outputBytes f).length = 12 := by
  simp [outputBytes]

/-- A PROPOSE body takes two bytes and its items. -/
@[simp] theorem proposeBytes_length (kind : Byte) (items : List ConfigItem) :
    (proposeBytes kind items).length = 2 + 6 * items.length := by
  rw [proposeBytes, List.length_append, items_length]; rfl

end Sys2Proof.Wire
end

