-- ==== Sys2Proof/Laws/PerInstr.lean ====
section
/-!
SUPPORT. The form of the transaction that carries a request (R183, R187, Table 12-2), command by command: its direction byte,
its length byte, and a frame of 4 to 64 bytes.
-/

namespace Sys2Proof.Laws.WireForm

open Sys2Proof Sys2Proof.Machine Sys2Proof.Wire

/-- A well-formed request is carried by the direction byte of a request and a frame of 4 to 64 bytes whose first byte is its
length. -/
def Statement (i : Instr) : Prop :=
  ∀ (t : Port) (bytes : List Byte), i.wellFormed = true → encodeTransaction i = some (t, bytes) →
    ∃ frame : List Byte,
      bytes = requestDirection :: frame ∧ 4 ≤ frame.length ∧ frame.length ≤ 64 ∧
      byteAt frame 0 = BitVec.ofNat 8 frame.length

/-- The form of a command that is carried by no request. -/
theorem of_none {i : Instr} (h : requestOf i = none) : Statement i := by
  intro t bytes _ he; simp [encodeTransaction, h] at he

/-- The form of a request frame whose body is short enough. -/
theorem of_frame {i : Instr} {p : Port} {code : Byte} {tag : Word16} {body : List Byte}
    (h : requestOf i = some (p, requestFrame code tag body)) (hb : i.wellFormed = true → body.length ≤ 60) :
    Statement i := by
  intro t bytes hw he
  simp only [encodeTransaction, h, Option.map_some, Option.some.injEq, Prod.mk.injEq] at he
  refine ⟨requestFrame code tag body, he.2.symm, ?_, ?_, ?_⟩
  · simp
  · rw [requestFrame_length]; have := hb hw; omega
  · simp

theorem powerOn : Statement .powerOn := of_none rfl

theorem resetNFalls : Statement .resetNFalls := of_none rfl

theorem brownOut : Statement .brownOut := of_none rfl

theorem startSequence (read : SensorResult) : Statement (.startSequence read) := of_none rfl

theorem epochBoundary (line : LineClock) : Statement (.epochBoundary line) := of_none rfl

theorem holdOffExpiry (slot : SlotId) : Statement (.holdOffExpiry slot) := of_none rfl

theorem bridgeExpiry : Statement .bridgeExpiry := of_none rfl

theorem jointExpiry : Statement .jointExpiry := of_none rfl

theorem ovenFault : Statement .ovenFault := of_none rfl

theorem soakEnd : Statement .soakEnd := of_none rfl

theorem sensorReadDone (read : SensorResult) : Statement (.sensorReadDone read) := of_none rfl

theorem epochClose : Statement .epochClose := of_none rfl

theorem writeCompletion (result : StoreResult) : Statement (.writeCompletion result) := of_none rfl

theorem pulse (input : PulseInput) (cycles : Nat) : Statement (.pulse input cycles) := of_none rfl

theorem labelMessage (link : PulseInput) (message : LinkMessage) : Statement (.labelMessage link message) := of_none rfl

theorem pulseInstant (out : OutId) : Statement (.pulseInstant out) := of_none rfl

theorem pulseWidthEnd (out : OutId) : Statement (.pulseWidthEnd out) := of_none rfl

theorem mainsGoodFalls : Statement .mainsGoodFalls := of_none rfl

theorem mainsGoodRises : Statement .mainsGoodRises := of_none rfl

theorem battLowRises : Statement .battLowRises := of_none rfl

theorem battLowFalls : Statement .battLowFalls := of_none rfl

theorem ovenOkRises : Statement .ovenOkRises := of_none rfl

theorem ovenOkFalls : Statement .ovenOkFalls := of_none rfl

theorem presentLineFalls (t : Port) : Statement (.presentLineFalls t) := of_none rfl

theorem presentLineRises (t : Port) : Statement (.presentLineRises t) := of_none rfl

theorem readTransaction (t : Port) (bytes : Nat) : Statement (.readTransaction t bytes) := of_none rfl

theorem responseCompleted (t : Port) : Statement (.responseCompleted t) := of_none rfl

theorem malformedFrame (t : Port) (code : Byte) (tag : Word16) : Statement (.malformedFrame t code tag) := of_none rfl

theorem attach (t : Port) (tag : Word16) (adv : AdvertisementFields) : Statement (.attach t tag adv) := of_frame rfl (by simp)

theorem advertise (t : Port) (tag : Word16) (adv : AdvertisementFields) : Statement (.advertise t tag adv) := of_frame rfl (by simp)

theorem detach (t : Port) (tag : Word16) : Statement (.detach t tag) := of_frame rfl (by simp)

theorem readTime (t : Port) (tag : Word16) : Statement (.readTime t tag) := of_frame rfl (by simp)

theorem readStatus (t : Port) (tag : Word16) : Statement (.readStatus t tag) := of_frame rfl (by simp)

theorem reportPhase (t : Port) (tag : Word16) (report : ReportFields) : Statement (.reportPhase t tag report) := of_frame rfl (by intro _; rw [reportBytes_length]; split <;> decide)

theorem readReference (t : Port) (tag : Word16) (slot : Byte) : Statement (.readReference t tag slot) := of_frame rfl (by simp)

theorem readLearning (t : Port) (tag : Word16) (first number : Byte) : Statement (.readLearning t tag first number) := of_frame rfl (by simp)

theorem readAging (t : Port) (tag : Word16) : Statement (.readAging t tag) := of_frame rfl (by simp)

theorem readConfig (t : Port) (tag : Word16) : Statement (.readConfig t tag) := of_frame rfl (by simp)

theorem setOutput (t : Port) (tag : Word16) (fields : OutputFields) : Statement (.setOutput t tag fields) := of_frame rfl (by simp)

theorem propose (t : Port) (tag : Word16) (kind : Byte) (items : List ConfigItem) : Statement (.propose t tag kind items) := of_frame rfl (by intro h; rw [proposeBytes_length]; simp [Instr.wellFormed, proposeLengthOk] at h; omega)

theorem concur (t : Port) (tag : Word16) (serial : Byte) : Statement (.concur t tag serial) := of_frame rfl (by simp)

theorem decline (t : Port) (tag : Word16) (serial : Byte) : Statement (.decline t tag serial) := of_frame rfl (by simp)

theorem readJoint (t : Port) (tag : Word16) : Statement (.readJoint t tag) := of_frame rfl (by simp)

theorem readNotices (t : Port) (tag : Word16) : Statement (.readNotices t tag) := of_frame rfl (by simp)

theorem nextNotice (t : Port) (tag : Word16) : Statement (.nextNotice t tag) := of_frame rfl (by simp)

theorem clearNotices (t : Port) (tag : Word16) (kinds : List Byte) : Statement (.clearNotices t tag kinds) := of_frame rfl (by intro h; simp [Instr.wellFormed, clearLengthOk] at h; omega)

theorem noticesDone (t : Port) (tag : Word16) : Statement (.noticesDone t tag) := of_frame rfl (by simp)

theorem setNoticeMask (t : Port) (tag : Word16) (mask : Word16) : Statement (.setNoticeMask t tag mask) := of_frame rfl (by simp)

end Sys2Proof.Laws.WireForm
end

