-- ==== Sys2Proof/Laws/Ports.lean ====
section
/-!
SUPPORT. What the port operations leave unchanged, and every way the take of a request can go.
-/

namespace Sys2Proof.Machine

/-- State.setPort changes at most tpi. -/
@[simp] theorem State.setPort_frame (t : Port) (p : TenantPort) (s : State) :
    (s.setPort t p).tsg = s.tsg ∧
      (s.setPort t p).rmu = s.rmu ∧
      (s.setPort t p).sde = s.sde ∧
      (s.setPort t p).ols = s.ols ∧
      (s.setPort t p).tru = s.tru ∧
      (s.setPort t p).nu = s.nu ∧
      (s.setPort t p).pou = s.pou ∧
      (s.setPort t p).spm = s.spm ∧
      (s.setPort t p).pins = s.pins ∧
      (s.setPort t p).freeIndex = s.freeIndex ∧
      (s.setPort t p).pending = s.pending := by
  exact ⟨rfl, rfl, rfl, rfl, rfl, rfl, rfl, rfl, rfl, rfl, rfl⟩

/-- State.beginResponse changes at most tpi. -/
@[simp] theorem State.beginResponse_frame (t : Port) (c : Byte) (g : Word16) (a : Answer) (s : State) :
    (s.beginResponse t c g a).tsg = s.tsg ∧
      (s.beginResponse t c g a).rmu = s.rmu ∧
      (s.beginResponse t c g a).sde = s.sde ∧
      (s.beginResponse t c g a).ols = s.ols ∧
      (s.beginResponse t c g a).tru = s.tru ∧
      (s.beginResponse t c g a).nu = s.nu ∧
      (s.beginResponse t c g a).pou = s.pou ∧
      (s.beginResponse t c g a).spm = s.spm ∧
      (s.beginResponse t c g a).pins = s.pins ∧
      (s.beginResponse t c g a).freeIndex = s.freeIndex ∧
      (s.beginResponse t c g a).pending = s.pending := by
  exact ⟨rfl, rfl, rfl, rfl, rfl, rfl, rfl, rfl, rfl, rfl, rfl⟩

/-- State.overrun changes at most tpi. -/
@[simp] theorem State.overrun_frame (t : Port) (s : State) :
    (s.overrun t).tsg = s.tsg ∧
      (s.overrun t).rmu = s.rmu ∧
      (s.overrun t).sde = s.sde ∧
      (s.overrun t).ols = s.ols ∧
      (s.overrun t).tru = s.tru ∧
      (s.overrun t).nu = s.nu ∧
      (s.overrun t).pou = s.pou ∧
      (s.overrun t).spm = s.spm ∧
      (s.overrun t).pins = s.pins ∧
      (s.overrun t).freeIndex = s.freeIndex ∧
      (s.overrun t).pending = s.pending := by
  exact ⟨rfl, rfl, rfl, rfl, rfl, rfl, rfl, rfl, rfl, rfl, rfl⟩

/-- State.ignoreRequest changes at most tpi. -/
@[simp] theorem State.ignoreRequest_frame (t : Port) (s : State) :
    (s.ignoreRequest t).tsg = s.tsg ∧
      (s.ignoreRequest t).rmu = s.rmu ∧
      (s.ignoreRequest t).sde = s.sde ∧
      (s.ignoreRequest t).ols = s.ols ∧
      (s.ignoreRequest t).tru = s.tru ∧
      (s.ignoreRequest t).nu = s.nu ∧
      (s.ignoreRequest t).pou = s.pou ∧
      (s.ignoreRequest t).spm = s.spm ∧
      (s.ignoreRequest t).pins = s.pins ∧
      (s.ignoreRequest t).freeIndex = s.freeIndex ∧
      (s.ignoreRequest t).pending = s.pending := by
  exact ⟨rfl, rfl, rfl, rfl, rfl, rfl, rfl, rfl, rfl, rfl, rfl⟩

/-- State.closePort changes at most tpi. -/
@[simp] theorem State.closePort_frame (t : Port) (s : State) :
    (s.closePort t).tsg = s.tsg ∧
      (s.closePort t).rmu = s.rmu ∧
      (s.closePort t).sde = s.sde ∧
      (s.closePort t).ols = s.ols ∧
      (s.closePort t).tru = s.tru ∧
      (s.closePort t).nu = s.nu ∧
      (s.closePort t).pou = s.pou ∧
      (s.closePort t).spm = s.spm ∧
      (s.closePort t).pins = s.pins ∧
      (s.closePort t).freeIndex = s.freeIndex ∧
      (s.closePort t).pending = s.pending := by
  exact ⟨rfl, rfl, rfl, rfl, rfl, rfl, rfl, rfl, rfl, rfl, rfl⟩

/-! ## The take of a request -/

/-- A request that the port takes is dispatched, and its response begun. -/
theorem State.takeRequest_of_takes {s : State} {t : Port} (h : s.takes t) (may : Bool) (c : Byte) (g : Word16) (r : Body)
    (act : State → State × Answer) :
    s.takeRequest may t c g r act =
      (s.dispatch may t r act).1.beginResponse t c g (s.dispatch may t r act).2 := by
  simp [State.takeRequest, h.1, h.2]

/-- A request that the port takes from its attached tenant acts. -/
theorem State.takeRequest_of_attached {s : State} {t : Port} (h : s.takesAttached t) (may : Bool) (c : Byte) (g : Word16)
    (r : Body) (act : State → State × Answer) :
    s.takeRequest may t c g r act = (act s).1.beginResponse t c g (act s).2 := by
  rw [State.takeRequest_of_takes h.1]; simp [State.dispatch, h.2]

/-- A request that a detached port may send acts whenever the port takes it. -/
theorem State.takeRequest_of_may {s : State} {t : Port} (h : s.takes t) (c : Byte) (g : Word16) (r : Body)
    (act : State → State × Answer) :
    s.takeRequest true t c g r act = (act s).1.beginResponse t c g (act s).2 := by
  rw [State.takeRequest_of_takes h]; simp [State.dispatch]

/-- A request of another kind is refused NOT_ATTACHED at a detached port. -/
theorem State.takeRequest_of_detached {s : State} {t : Port} (h : s.takes t) (h' : s.attached t = false) (c : Byte)
    (g : Word16) (r : Body) (act : State → State × Answer) :
    s.takeRequest false t c g r act = s.beginResponse t c g ⟨.notAttached, r⟩ := by
  rw [State.takeRequest_of_takes h]; simp [State.dispatch, h']

/-- Out of service a request is ignored. -/
theorem State.takeRequest_of_closed {s : State} (h : s.inService = false) (may : Bool) (t : Port) (c : Byte) (g : Word16)
    (r : Body) (act : State → State × Answer) : s.takeRequest may t c g r act = s.ignoreRequest t := by
  simp [State.takeRequest, h]

/-- In WORKING a request only sets the overrun flag and has fill clocked out. -/
theorem State.takeRequest_of_working {s : State} {t : Port} (h : s.inService = true)
    (h' : (s.tpi.get t).state.isWorking = true) (may : Bool) (c : Byte) (g : Word16) (r : Body)
    (act : State → State × Answer) : s.takeRequest may t c g r act = s.overrun t := by
  simp [State.takeRequest, h, h']

/-- The policy-unread indication is a comparison of generations. -/
theorem State.policyUnread_eq (s : State) (t : Port) :
    s.policyUnread t = decide ((s.tru.tenants.get t).ackGen ≠ s.tru.generation) := by
  rw [Bool.eq_iff_iff]; simp [State.policyUnread]

end Sys2Proof.Machine
end

