-- ==== Sys2Proof/Tests/Slice0.lean ====
section
/-!
SUPPORT. Tests of the model on small states: the checks of WellFormed, transactions written out, the worked examples of the
spec one step at a time, and for each statement of the certificates that has hypotheses a state and operands that meet them.
-/

namespace Sys2Proof.Tests

open Sys2Proof Sys2Proof.Machine

/-! ## States to test on -/

/-- The command answers a next state that passes a check. -/
def ran (o : Host.Outcome State Fault Refusal) (check : State → Bool) : Bool :=
  match o with
  | .next s => check s
  | .fault _ => false
  | .refused _ => false

/-- The state with board t present and attached with the default advertisement. -/
def board (t : Port) (s : State) : State :=
  { s with
    pins := { s.pins with present := s.pins.present.set t true }
    tru := { s.tru with tenants := s.tru.tenants.set t { attached := true, adv := .default, ackGen := 0 } } }

/-- One board attached. -/
def one : State := board 0 State.reset

/-- Two boards attached. -/
def two : State := board 1 one

/-- One slot's record changed. -/
def slot (n : SlotId) (f : Slot → Slot) (s : State) : State :=
  { s with rmu := { s.rmu with slots := s.rmu.slots.set n (f (s.rmu.slots.get n)) } }

/-- One port's state changed. -/
def port (t : Port) (p : PortState) (s : State) : State := s.setPort t { s.tpi.get t with state := p }

/-- Site time set to a second and a phase, with the epoch before the one that would close next closed. -/
def clockAt (seconds : Seconds) (phase : Nat) (s : State) : State :=
  { s with
    tsg := { s.tsg with seconds := seconds, phase := phase }
    rmu := { s.rmu with lastClosed := seconds - 2 } }

/-- The SDE drives from PA in a clock state, with the values of section 4.7. -/
def onPA (c : ClockState) (s : State) : State :=
  slot 0 (fun sl => { sl with state := .selected, lastValue := some 120, usableRun := 2300 })
    { s with
      tsg := { s.tsg with timeValid := c != .freerun && c != .acquire, fApp := 3400 }
      tru := { s.tru with policy := { s.tru.policy with sRes := 100000 } }
      sde :=
        { s.sde with
          selected := some 0, lastSelected := some 0, clock := c, fInt := 3400, fAvg := 3392, residual := 60
          e := if c = .freerun then eCap else 23000, lockedSinceStart := c != .freerun && c != .acquire
          lfRestart := false } }

/-- An entry waits for the epoch before the current second in slot n. -/
def waiting (n : SlotId) (value : Int) (s : State) : State :=
  slot n (fun sl => { sl with queue := [.entry ⟨s.tsg.seconds - 1, value, none, none⟩] }) s

/-- LOCKED on PA in second 5,001, one board attached, the close of epoch 5,000 due. -/
def locked : State := onPA .locked (clockAt 5001 0 one)

/-- HOLDOVER of section 6.2: the anchor of Table 6-3, five hours in, a warm oven. -/
def holdover : State :=
  { clockAt 23400 0 State.reset with
    tsg := { (clockAt 23400 0 State.reset).tsg with timeValid := true, fApp := 3520 }
    sde :=
      { State.reset.sde with
        clock := .holdover, anchorCorr := 3400, anchorBin := some 14, anchorSeconds := 5400, e := 23000, residual := 6 }
    ols :=
      { State.reset.ols with
        theta := some 472, failures := 0, aging := -30, agingEst := true
        bins := (emptyBins.set 14 ⟨70, 3380, 6⟩).set 17 ⟨16, 3520, 5⟩ }
    spm := { State.reset.spm with oven := .settled } }

/-- A start in progress. -/
def starting : State := { State.reset with spm := { State.reset.spm with startPending := some .brownout } }

/-- The part in KEEPALIVE. -/
def keepAlive : State :=
  { State.reset with
    pins := { State.reset.pins with mainsGood := false }
    spm := { State.reset.spm with power := .keepalive } }

/-- The part in COLDKEEP. -/
def coldKeep : State := { keepAlive with spm := { State.reset.spm with power := .coldkeep, oven := .off } }

/-- A STEP_NOW of tenant 0 that waits for tenant 1. -/
def asked : JointRecord :=
  { serial := 17, kind := .stepNow, initiator := 0, required := ⟨true, true, false⟩, concurred := ⟨true, false, false⟩
    age := 0 }

/-- Two boards and a pending action of the age given. -/
def pendingAction (age : Nat) : State := { two with tru := { two.tru with joint := some { asked with age := age } } }

/-- A report with a phase. -/
def reportOf (stamp : Seconds) (phase : BitVec 48) (quality : Byte) : ReportFields := ⟨stamp, phase, quality, none⟩

/-! ## WellFormed (R187) -/

theorem test_nine_items_ill_formed :
    (Instr.propose 0 1 1 (List.replicate 9 ⟨0x14, 0, 30⟩)).wellFormed = false := by decide

theorem test_eight_items_well_formed :
    (Instr.propose 0 1 1 (List.replicate 8 ⟨0x14, 0, 30⟩)).wellFormed = true := by decide

theorem test_no_kinds_ill_formed : (Instr.clearNotices 0 1 []).wellFormed = false := by decide

theorem test_seventeen_kinds_ill_formed : (Instr.clearNotices 0 1 (List.replicate 17 3)).wellFormed = false := by decide

theorem test_sixteen_kinds_well_formed : (Instr.clearNotices 0 1 (List.replicate 16 3)).wellFormed = true := by decide

/-! ## Transactions written out byte by byte (chapter 12) -/

theorem test_detach_frame : decodeTransaction 1 [0x01, 0x04, 0x12, 0x12, 0x34] = some (.detach 1 0x1234) := by decide

theorem test_labelled_report_frame :
    decodeTransaction 2
      ([0x01, 0x17, 0x15, 0x00, 0x02, 0x00, 0x00, 0x00, 0x00, 0x9C, 0x40] ++
        [0x00, 0x00, 0x00, 0x00, 0x10, 0x69, 0x00, 0x00, 0x00, 0x00, 0x00, 0x9C, 0x40]) =
      some (.reportPhase 2 2 { stamp := 40000, phase := 4201, quality := 0, label := some 40000 }) := by decide

theorem test_set_output_frame :
    decodeTransaction 0
      [0x01, 0x10, 0x1A, 0x00, 0x09, 0x01, 0x00, 0xFA, 0x00, 0x00, 0x00, 0x64, 0xFF, 0xFF, 0xFF, 0xFE, 0x02] =
      some (.setOutput 0 9 { enable := 1, interval := 250, width := 100, offset := -2, mode := 2 }) := by decide

theorem test_clear_notices_frame :
    decodeTransaction 0 [0x01, 0x06, 0x32, 0x00, 0x01, 0x03, 0x06] = some (.clearNotices 0 1 [3, 6]) := by decide

theorem test_unknown_code_malformed :
    decodeTransaction 0 [0x01, 0x04, 0x7F, 0x00, 0x01] = some (.malformedFrame 0 0x7F 1) := by decide

theorem test_kept_length_malformed :
    decodeTransaction 0 [0x01, 0x41, 0x13, 0x00, 0x01] = some (.malformedFrame 0 0x13 1) := by decide

theorem test_no_word_spells_a_command : decodeTableWord 16 0x1234 = none := rfl

/-! ## Starts (section 9.3) -/

theorem test_start_sequence_takes_lines :
    ran (exec (.startSequence (.value 256))
        { starting with pins := { starting.pins with mainsGood := false, battLow := true } })
      (fun t => t.spm.power == .coldkeep && t.spm.oven == .off && t.spm.startCause == .brownout &&
        t.spm.startPending == none && t.ols.theta == some 256 && t.ols.outcome == .defaults) = true := by decide

theorem test_brown_out_keeps_power_on_cause :
    ran (exec .brownOut { State.reset with spm := { State.reset.spm with startPending := some .powerOn } })
      (fun t => t.spm.startPending == some .powerOn && t.ovenEnable && !t.pins.vddOk) = true := by decide

/-! ## Site time (chapter 1) -/

theorem test_boundary_raises :
    ran (exec (.epochBoundary .inGap) (clockAt 41006 0 one))
      (fun t => t.tsg.seconds == 41007 && t.tsg.phase == 0 && t.ols.reading) = true := by decide

theorem test_re_run_boundary_is_not_raised :
    ran (exec (.epochBoundary .inGap)
        { one with tsg := { one.tsg with seconds := 41005, phase := 850000000000, reRun := true } })
      (fun t => t.tsg.seconds == 41006 && t.tsg.phase == 0 && !t.tsg.reRun && !t.ols.reading) = true := by decide

/-- The backward step of Table 1-4. -/
theorem test_backward_step_across_boundary :
    ran (exec .epochClose
        (let s := waiting 0 (-400000000000) (onPA .acquire (clockAt 41006 250000000000 one))
         { s with
           tsg := { s.tsg with timeValid := true, fApp := 0 }
           sde := { s.sde with stepDecisionPending := true, fInt := 0 } }))
      (fun t => t.tsg.seconds == 41005 && t.tsg.phase == 850000000000 && t.tsg.reRun &&
        (t.rmu.slots.get 0).lastValue == some 0 && t.sde.fInt == 0) = true := by decide

/-- The seconds set that follows a step (section 1.4), with L = 700,000. -/
theorem test_set_follows_step :
    ran (exec .epochClose
        (let s := onPA .acquire (clockAt 8113 250000000000 one)
         slot 0 (fun sl => { sl with lastValue := none, queue := [.entry ⟨8112, -300000000000, none, some 700000⟩] })
           { s with tsg := { s.tsg with fApp := 0 }, sde := { s.sde with stepDecisionPending := true, fInt := 0 } }))
      (fun t => t.tsg.seconds == 700000 && t.tsg.phase == 950000000000 && t.tsg.reRun && t.rmu.lastClosed == 700000 &&
        (t.nu.get 0).latches.stepped) = true := by decide

/-! ## References (chapter 2) -/

theorem test_median_of_report_epoch : median [4050, 12000, 3900, 4201] = 4125 := by decide

/-- The pulse for epoch 5,000 of Table 2-6. -/
theorem test_pulse_beyond_gate :
    ran (exec (.pulse .pb 0) (slot 1 (fun sl => { sl with state := .usable, lastValue := some 1200 })
        (clockAt 4999 999996400000 one)))
      (fun t => (tallyOf 5000 (t.rmu.slots.get 1).tallies).faults.gate &&
        (t.rmu.slots.get 1).queue.isEmpty && t.rmu.targetB == some ⟨5000, false, none⟩) = true := by decide

/-- The close of 5,002 in Table 2-6. -/
theorem test_third_fault_disqualifies :
    ran (exec .epochClose (slot 1
        (fun sl => { sl with
          state := .usable, faultCount := 2, streak := 1, usableRun := 2302, lastValue := some 1200
          tallies := [⟨5002, { gate := true }, 1⟩] }) (clockAt 5003 0 one)))
      (fun t => (t.rmu.slots.get 1).state == .disqualified && (t.rmu.slots.get 1).faultCount == 3 &&
        (t.rmu.slots.get 1).streak == 2 && (t.rmu.slots.get 1).holdOff == 120 &&
        (t.nu.get 0).latches.refFault) = true := by decide

theorem test_report_entry :
    ran (exec (.reportPhase 0 7 (reportOf 40000 4201 3))
        (slot 3 (fun sl => { sl with state := .usable }) (clockAt 40001 0 one)))
      (fun t => (t.rmu.slots.get 3).queue == [.entry ⟨40000, 4201, some 3, none⟩] &&
        (t.tpi.get 0).state == .working ⟨0x15, 7, .ok, false, .report (some .entry)⟩) = true := by decide

theorem test_label_joins_entry :
    ran (exec (.labelMessage .pa (.whole 5000 true))
        { waiting 0 120 locked with rmu := { (waiting 0 120 locked).rmu with targetA := some ⟨5000, true, none⟩ } })
      (fun t => (t.rmu.slots.get 0).queue == [.entry ⟨5000, 120, none, some 5000⟩] &&
        t.rmu.targetA == some ⟨5000, true, some 5000⟩) = true := by decide

/-! ## The loop (chapter 4) -/

/-- Section 4.7: one update at class 3. -/
theorem test_update_at_class_3 :
    ran (exec .epochClose (waiting 0 5000 locked))
      (fun t => t.sde.fInt == 3401 && t.tsg.fApp == 3479 && t.sde.e == 25000 && t.rmu.lastClosed == 5000) = true := by
  decide

/-- Section 4.7: the slew limit in ACQUIRE with steps forbidden. -/
theorem test_slew_limit :
    ran (exec .epochClose
        (let s := waiting 0 2000000000 (onPA .acquire (clockAt 5001 0 one))
         { s with
           tsg := { s.tsg with timeValid := true }
           sde := { s.sde with stepDecisionPending := true }
           tru := { s.tru with policy := { s.tru.policy with stepsPermitted := false } } }))
      (fun t => t.sde.fInt == 247541 && t.tsg.fApp == 347541 && !t.sde.stepDecisionPending) = true := by decide

/-- R63: a STEP_NOW steps below the step threshold with steps forbidden and time valid. -/
theorem test_step_now_ignores_threshold_and_permission :
    ran (exec .epochClose
        (let s := waiting 0 5000 (onPA .acquire (clockAt 5001 250000000000 one))
         { s with
           tsg := { s.tsg with timeValid := true, fApp := 0 }
           sde := { s.sde with stepNow := true, lockCount := 15 }
           tru := { s.tru with policy := { s.tru.policy with stepsPermitted := false } } }))
      (fun t => t.tsg.phase == 250000005000 && t.sde.clock == .acquire && t.sde.lockCount == 0 && !t.sde.stepNow &&
        t.sde.fInt == 3400 && t.tsg.fApp == 3400 && t.sde.e == 25000) = true := by decide

/-- R81: the update at which the clock first locks seeds F_avg from F_int. -/
theorem test_first_lock_seeds_average :
    ran (exec .epochClose
        (let s := waiting 0 5000 (onPA .acquire (clockAt 5001 0 one))
         { s with sde := { s.sde with lockCount := 15 } }))
      (fun t => t.sde.clock == .locked && t.tsg.timeValid && t.sde.fInt == 3401 && t.sde.fAvg == 3401 &&
        t.sde.residual == 369) = true := by decide

/-- Epoch 2 of Table 4-6: an EMPTY epoch withdraws the proportional term. -/
theorem test_empty_epoch :
    ran (exec .epochClose { locked with tsg := { locked.tsg with fApp := 3402 } })
      (fun t => t.tsg.fApp == 3400 && t.sde.fInt == 3400 && t.sde.e == 20120 && t.sde.residual == 60) = true := by decide

/-! ## Learning (chapter 5) -/

/-- Table 5-4: three results in an empty bin. -/
theorem test_bin_fills :
    ((((Ols.atStart none).fileResult 3400 680).fileResult 3410 680).fileResult 3396 680).bins.get (binOf 680) =
      ⟨3, 3402, 6⟩ := by decide

/-- Table 5-6 with the record of day 819 appended. -/
theorem test_aging_slope :
    agingOf [⟨812, 3520, 281, 86112⟩, ⟨813, 3492, 290, 85930⟩, ⟨818, 3342, 295, 85780⟩, ⟨819, 3310, 295, 80000⟩] =
      (-30, true) := by decide

/-- The end of day 819. -/
theorem test_day_ends :
    ran (exec (.epochBoundary .inGap)
        (let s := clockAt 70847999 0 one
         { s with
           ols :=
             { s.ols with
               ring := [⟨812, 3520, 281, 86112⟩, ⟨818, 3342, 295, 85780⟩]
               dayLocked := 80000, dayCorr := 264822000, dayTemp := 23568000 } }))
      (fun t => t.ols.ring.getLast? == some ⟨819, 3310, 295, 80000⟩ && t.ols.aging == -30 && t.ols.agingEst &&
        t.ols.dayLocked == 0 && t.ols.writing.isSome) = true := by decide

theorem test_sensor_smoothing :
    ran (exec (.sensorReadDone (.value 272)) { one with ols := { one.ols with reading := true, theta := some 256 } })
      (fun t => t.ols.theta == some 258 && t.ols.failures == 0 && !t.ols.reading) = true := by decide

/-- R87, R89: a read still in progress at a raised boundary is abandoned as failed; here it is the tenth failure. -/
theorem test_unfinished_read_is_abandoned :
    ran (exec (.epochBoundary .inGap) { one with ols := { one.ols with reading := true, failures := 9 } })
      (fun t => t.ols.reading && t.ols.failures == 10 && t.ols.sensorFault &&
        (t.nu.get 0).notices == [⟨.sensorFault true, 1⟩]) = true := by decide

theorem test_failed_write_is_tried_again :
    ran (exec (.writeCompletion .failed) one.startWrite)
      (fun t => t.ols.writing.isSome && t.ols.retryDue && t.ols.lastWrite == .failed &&
        (t.nu.get 0).notices == [⟨.retainedFault false, 1⟩]) = true := by decide

/-- From the end of the first phase the copy in the store is invalid (R99). -/
theorem test_first_phase_invalidates :
    ran (exec (.writeCompletion .phaseWritten)
        { one with ols := { one.startWrite.ols with store := some one.retainedContent.record } })
      (fun t => (t.ols.store.map (·.valid)) == some false && (t.ols.writing.map (·.phase)) == some .content) = true := by
  decide +kernel

/-- From the end of the second phase the store holds the new content, still invalid (R99). -/
theorem test_second_phase_stores_content :
    let old : StoredRecord := ({ one.retainedContent with anchor := 1 } : RetainedContent).record.invalidated
    ran (exec (.writeCompletion .phaseWritten)
        { one with ols := { one.ols with writing := some ⟨one.retainedContent, .content⟩, store := some old } })
      (fun t => t.ols.store == some one.retainedContent.record.invalidated && old.content != one.retainedContent &&
        (t.ols.store.map (·.valid)) == some false && (t.ols.writing.map (·.phase)) == some .integrity) = true := by
  decide +kernel

/-- The end of the third phase is a completion with result OK (R99). -/
theorem test_third_phase_completes :
    ran (exec (.writeCompletion .phaseWritten)
        { one with ols := { one.ols with writing := some ⟨one.retainedContent, .integrity⟩ } })
      (fun t => t.ols.writing == none && t.ols.lastWrite == .ok && t.ols.store == some one.retainedContent.record) = true := by
  decide +kernel

/-- A halt of LF that ends enabled again restarts the calibration (R41, R84). -/
theorem test_lf_halt_restarts_calibration :
    ran (exec .epochClose (slot 2 (fun sl => { sl with state := .halting }) locked))
      (fun t => (t.rmu.slots.get 2).state == .qualifying && t.sde.lfRestart) = true := by decide

/-! ## Holdover (chapter 6) -/

/-- Table 6-3: the prediction at h = 5. -/
theorem test_prediction :
    ran (exec (.epochBoundary .inGap) holdover) (fun t => t.sde.hours == 5 && t.tsg.fApp == 3534) = true := by decide

/-- Table 6-8, h = 0: each boundary adds 16 with θs in bin 14. -/
theorem test_growth :
    ran (exec (.epochBoundary .inGap)
        { holdover with
          sde := { holdover.sde with anchorSeconds := 23400 }, ols := { holdover.ols with theta := some 256 } })
      (fun t => t.sde.hours == 0 && t.sde.e == 23016 && t.tsg.fApp == 3400) = true := by decide

theorem test_bridge_ends_in_holdover :
    ran (exec .bridgeExpiry (onPA .bridge one))
      (fun t => t.sde.clock == .holdover && t.sde.anchorCorr == 3392 && t.sde.e == 23000) = true := by decide

/-! ## Tenants (chapter 7) -/

/-- Table 7-8: three tenants, the third clamped. -/
theorem test_resolution :
    resolvedPolicy
        ⟨⟨true, ⟨300000, true, 100000, false⟩, 0⟩, ⟨true, ⟨1100000, false, 50000, true⟩, 0⟩,
          ⟨true, ⟨100000, true, 10000000, false⟩, 0⟩⟩ =
      { stepsPermitted := false, sRes := 50000, lCom := 100000, squelch := true } := by decide

theorem test_clamped_attach :
    ran (exec (.attach 2 1 ⟨80000, 0, 20000000, 0⟩)
        { one with pins := { one.pins with present := ⟨true, false, true⟩ } })
      (fun t => (t.tru.tenants.get 2).adv == ⟨100000, true, 10000000, false⟩ && t.tru.generation == 1 &&
        (t.tpi.get 2).state == .working ⟨0x10, 1, .clamped, false, .advertised true true t.tru.policy 1⟩) = true := by
  decide

/-- Table 7-11: the results of the four items. -/
theorem test_configure_results :
    ran (exec (.propose 0 1 1 [⟨0x11, 0, 4⟩, ⟨0x14, 0, 900⟩, ⟨0x02, 1, 3⟩, ⟨0x77, 0, 0⟩]) one)
      (fun t => t.tru.config.bandwidth == 4 && t.tru.config.bridgeTime == 600 &&
        (t.tru.config.slots.get 1).settings.priority == 3 &&
        (t.tpi.get 0).state ==
          .working ⟨0x20, 1, .ok, false, .proposed (some 1) (some [.ok, .clamped, .ok, .ignored]) false⟩) = true := by
  decide

theorem test_concur_executes :
    ran (exec (.concur 1 5 17) { pendingAction 2 with sde := { two.sde with clock := .acquire } })
      (fun t => t.sde.stepNow && t.tru.joint == none && (t.nu.get 0).notices == [⟨.jointDone 17 [.ok], 1⟩]) = true := by
  decide

/-! ## Outputs (chapter 8) -/

/-- Section 8.7: OUT1 passes its instant at 250 ms. -/
theorem test_pulse_instant :
    ran (exec (.pulseInstant 1)
        { locked with
          tsg := { locked.tsg with phase := 249999990000, fApp := 0 }
          pou := locked.pou.set 1 (.atStart ⟨true, 250, 100, 0, .invalid⟩) })
      (fun t => (t.pou.get 1).state == .active && t.tsg.phase == 250000040000 &&
        (t.pou.get 1).pulseLeft == some ((10000000 - 40000) * 20000000)) = true := by decide

theorem test_pulse_width_end :
    ran (exec (.pulseWidthEnd 1)
        { one with pou := one.pou.set 1 { one.pou.o1 with pulseLeft := some (10000000 * 20000000) } })
      (fun t => (t.pou.get 1).pulseLeft == none && t.tsg.phase == 10000000) = true := by decide

/-- OUT1 enabled with the interval and the offset given, site time at a phase. -/
def pulsing (phase interval : Nat) (offset : Int) : State :=
  { locked with
    tsg := { locked.tsg with phase := phase, fApp := 0 }
    pou := locked.pou.set 1 (.atStart ⟨true, interval, 100, offset, .invalid⟩) }

/-- A second PULSE_INSTANT goes on to the next instant. -/
theorem test_pulse_instant_goes_on :
    ran (exec (.pulseInstant 1) ((pulsing 249999990000 250 0).advanceToInstant 1))
      (fun t => t.tsg.phase == 500000040000) = true := by decide

/-- The instant that the latest cycle passed is acted on without an advance, and once. -/
theorem test_passed_instant_is_acted_on_once :
    let passed := (pulsing 249999990000 250 0).advanceCycles 1
    ran (exec (.pulseInstant 1) passed)
      (fun t => (passed.pou.get 1).passed == some (40000 * 20000000) && t.tsg.phase == 250000040000 &&
        (t.pou.get 1).passed == none && (t.pou.get 1).state == .active) = true := by decide

/-- An instant passed while the pin is still driven keeps it high, where the pulse ends later in the same cycle (R161, log 25). -/
theorem test_instant_before_pulse_end :
    let s := pulsing 249999990000 250 0
    let passed := (s.setOut 1 { s.pou.get 1 with pulseLeft := some (45000 * 20000000) }).advanceCycles 1
    (passed.pou.get 1).pulseLeft = some 0 ∧ (passed.pou.get 1).passed = some (40000 * 20000000) ∧
    ran (step passed) (fun t => (t.pou.get 1).pulseLeft == some ((10000000 - 40000) * 20000000)) = true := by decide

/-- Table 8-3: an instant that a phase step lands on is not evaluated; the next is. -/
theorem test_pulse_instant_landed_on :
    let landed := (pulsing 250000000000 250 0).applyStep 250000000000
    ran (exec (.pulseInstant 1) landed)
      (fun t => landed.tsg.phase == 500000000000 && decide (750000000000 ≤ t.tsg.phase)) = true := by decide

/-- An instant 10,000 ps before the boundary is acted on by the old record in the cycle that crosses it. -/
theorem test_instant_before_the_boundary :
    ran (exec (.epochBoundary .inGap) (pulsing 999999960000 1000 (-10000)))
      (fun t => t.tsg.phase == 10000 && (t.pou.get 1).state == .active && (t.pou.get 1).passed == none &&
        (t.pou.get 1).pulseLeft == some ((10000000 - 20000) * 20000000)) = true := by decide

/-- An instant 10,000 ps before the boundary that ends the wait to resume drives no pulse (R167). -/
theorem test_no_instant_before_the_resuming_boundary :
    ran (exec (.epochBoundary .inGap)
        (let s := pulsing 999999960000 1000 (-10000)
         s.setOut 1 { s.pou.get 1 with resumeWait := true }))
      (fun t => (t.pou.get 1).pulseLeft == none && (t.pou.get 1).passed == none && !(t.pou.get 1).resumeWait) = true := by
  decide

/-! ## Ports (chapter 10) -/

/-- Table 10-5 at 20 µs. -/
theorem test_request_while_working :
    ran (exec (.readTime 0 2) (port 0 (.working ⟨0x15, 1, .ok, false, .report (some .entry)⟩) one))
      (fun t => (t.tpi.get 0).overrun && (t.tpi.get 0).clocked == .fill &&
        (t.tpi.get 0).state == .working ⟨0x15, 1, .ok, false, .report (some .entry)⟩) = true := by decide

/-- Table 10-5 at 170 µs: NOT_READY, working. -/
theorem test_not_ready_working :
    ran (exec (.readTransaction 0 8) (port 0 (.working ⟨0x13, 1, .ok, false, .empty⟩) one))
      (fun t => (t.tpi.get 0).clocked == .bytes [6, 0, 0, 0, 0x0E, 2, 0xFF, 0xFF]) = true := by decide

/-- R210: a negative value as two's complement. -/
theorem test_signed_field : signedBytes 4 (-5000000) = [0xFF, 0xB3, 0xB4, 0xC0] := by decide

/-- The bytes of the response to a report judged GATE, with the overrun indication. -/
theorem test_response_clocked_out :
    ran (exec (.readTransaction 0 7) (port 0 (.ready ⟨0x15, 0x1234, .ok, true, .report (some .gate)⟩) one))
      (fun t => (t.tpi.get 0).clocked == .bytes [7, 0x15, 0x12, 0x34, 0, 1, 1] && (t.tpi.get 0).state == .idle) = true := by
  decide

/-! ## Notices (chapter 11) -/

/-- Table 11-4: NOTICES_DONE with CLOCK_STATE masked. -/
theorem test_release :
    ran (exec (.noticesDone 0 1)
        (one.setNotices 0
          { TenantNotices.detached with
            frozen := true, mask := 0xFFFB
            pending := [⟨.clockState .acquire false true, 1⟩, ⟨.phaseStep (-3500000), 1⟩] }))
      (fun t => (t.nu.get 0).notices == [⟨.phaseStep (-3500000), 1⟩] && (t.nu.get 0).pending == [] &&
        t.noticeLine 0) = true := by decide

theorem test_union_merge :
    fileNotice ⟨.refDisqualified (oneSlot 1), 1⟩ [⟨.refDisqualified (oneSlot 4), 255⟩] =
      [⟨.refDisqualified ⟨false, true, false, false, true, false⟩, 255⟩] := by decide

/-- A malformed frame with the code of a report is answered BAD_REQUEST without a body (log 11). -/
theorem test_malformed_report_has_no_body :
    ran (exec (.malformedFrame 0 0x15 7) one)
      (fun t => (t.tpi.get 0).state == .working ⟨0x15, 7, .badRequest, false, .empty⟩) = true := by decide

/-! ## Power (chapter 9) -/

theorem test_mains_failure_on_low_battery :
    ran (exec .mainsGoodFalls { locked with pins := { locked.pins with battLow := true } })
      (fun t => t.spm.power == .coldkeep && t.spm.oven == .off && t.sde.clock == .holdover && t.sde.e == 20120 &&
        !t.attached 0 && t.tru.generation == 1 && (t.rmu.slots.get 0).state == .qualifying) = true := by decide

/-! ## The queue -/

theorem test_step_takes_front :
    ran (step { one with pending := [.ovenOkRises, .soakEnd] })
      (fun t => t.pending == [.soakEnd] && t.spm.oven == .settled && t.spm.soak == 1800) = true := by decide

theorem test_idle_advances_one_cycle :
    ran (step one) (fun t => t.tsg.phase == 50000 && t.pending == []) = true := by decide

/-! ## Witnesses: for each statement with hypotheses, states and operands that meet them, clause by clause -/

/-- A site at work: LOCKED on PA, two boards, a notice, two day records, an action pending, a command waiting. -/
def site : State :=
  let s := onPA .locked (clockAt 5001 0 two)
  { s with
    tru := { s.tru with joint := some asked }
    nu := s.nu.set 0 { s.nu.t0 with notices := [⟨.selection (some 0), 1⟩] }
    ols := { s.ols with ring := [⟨812, 3520, 281, 86112⟩, ⟨813, 3492, 290, 85930⟩] }
    pending := [.soakEnd] }

theorem witness_StepRunsFrontCommand : site.pending = .soakEnd :: [] := rfl

/-- A part with the factory configuration and an empty store has its configurations in their ranges. -/
theorem factory_configsInRange {s : State} (config : s.tru.config = .factory) (writing : s.ols.writing = none)
    (store : s.ols.store = none)
    (settings : ∀ n, (s.rmu.slots.get n).settings = (SiteConfig.factory.slots.get n).settings)
    (nominal : s.rmu.lfNominal = 10000000) (basis : s.sde.lfBasis = 10000000) : s.configsInRange := by
  have factory : SiteConfig.factory.inRange := by decide
  refine ⟨config ▸ factory, by simp [writing], by simp [store], fun n => ?_, by rw [nominal]; decide, by rw [basis]; decide⟩
  rw [settings n]
  exact factory.1 n

theorem witness_StepKeepsValuesInRange : site.valuesInRange ∧ ∃ t, step site = .next t :=
  ⟨⟨by unfold State.timeInRange; decide, factory_configsInRange (by decide) rfl rfl (by decide) rfl rfl,
    by unfold State.slotsInRange; decide, by decide⟩, _, rfl⟩

theorem witness_StepKeepsTenantsConsistent : site.tenantsConsistent ∧ ∃ t, step site = .next t :=
  ⟨by unfold State.tenantsConsistent; decide, _, rfl⟩

theorem witness_StepKeepsClockConsistent : site.clockConsistent ∧ ∃ t, step site = .next t :=
  ⟨by unfold State.clockConsistent; decide, _, rfl⟩

theorem witness_StepKeepsNoticesConsistent : site.noticesConsistent ∧ ∃ t, step site = .next t :=
  ⟨by unfold State.noticesConsistent noticeSetOk; decide, _, rfl⟩

theorem witness_StepKeepsJointConsistent : site.jointConsistent ∧ ∃ t, step site = .next t :=
  ⟨by intro r h; cases h; decide, _, rfl⟩

theorem witness_StepKeepsQuietOutOfService :
    site.quietOutOfService ∧ keepAlive.quietOutOfService ∧ keepAlive.inService = false ∧ ∃ t, step site = .next t :=
  ⟨by unfold State.quietOutOfService; decide, by unfold State.quietOutOfService; decide, rfl, _, rfl⟩

theorem witness_StepKeepsDaysConsistent : site.daysConsistent ∧ ∃ t, step site = .next t := by
  refine ⟨⟨⟨by decide, by decide⟩, ?_, ?_⟩, _, rfl⟩ <;> (intro _ h; cases h)

theorem witness_StepKeepsLatchesConsistent :
    (let s : State := { site with nu := site.nu.set 0 { site.nu.t0 with latches := site.armedLatches 0 } }
     s.latchesConsistent ∧ s.attached 0 = true ∧ (s.nu.get 0).latches.locked = true ∧ ∃ t, step s = .next t) :=
  ⟨by unfold State.latchesConsistent; decide, by decide, by decide, _, rfl⟩

theorem witness_StepKeepsSelectionConsistent : site.selectionConsistent ∧ ∃ t, step site = .next t :=
  ⟨by unfold State.selectionConsistent; decide, _, rfl⟩

theorem witness_TransactionsRoundTrip :
    (Instr.propose 2 1 1 (List.replicate 8 ⟨0x14, 0, 30⟩)).wellFormed = true ∧
    ∃ p, encodeTransaction (.propose 2 1 1 (List.replicate 8 ⟨0x14, 0, 30⟩)) = some p := ⟨by decide, _, rfl⟩

theorem witness_StartSequenceEndsStart :
    one.spm.startPending = none ∧ starting.spm.startPending = some .brownout ∧ (-880 : Int) ≤ -880 ∧ (-880 : Int) ≤ 2000 ∧
    (-881 : Int) < -880 ∧ 2000 < (2001 : Int) := by decide

/-- A start with a store that holds the given record. -/
def startingFrom (r : Option StoredRecord) : State := { starting with ols := { starting.ols with store := r } }

theorem witness_StartRestoresRetainedRecord :
    (startingFrom none).spm.startPending ≠ none ∧
    (let r := site.retainedContent.record
     let w : Word16 := r.integrity.getD 0
     r.integrity = some w ∧ r.format = 0x5A34 ∧ wordSum (r.format :: r.content.words) + w = 0xFFFF ∧
     wordSum (r.format :: r.content.words) + 0 ≠ 0xFFFF) ∧
    site.retainedContent.record.invalidated.integrity = none := by decide +kernel

theorem witness_BoundaryPassesSecond :
    starting.inStart = true ∧ site.inStart = false ∧ site.timeInRange ∧
    (let s : State := { site with tsg := { site.tsg with phase := 999999999999, reRun := true } }
     s.inStart = false ∧ s.timeInRange ∧ s.tsg.reRun = true) := by
  unfold State.timeInRange; decide

theorem witness_BoundaryPredictsAndGrows :
    holdover.raises ∧ holdover.sde.clock = .holdover ∧
    (onPA .bridge one).raises ∧ (onPA .bridge one).sde.clock = .bridge ∧
    locked.raises ∧ locked.sde.clock ≠ .holdover ∧ locked.sde.clock ≠ .bridge := by
  unfold State.raises; decide

/-- Eight day records, the newest of day 8. -/
def fullRing : List DayRecord := (List.range 8).map fun d => ⟨d + 1, 3400, 256, 86400⟩

/-- The last second of a day, with so many locked results in it. -/
def dayEnd (day results : Nat) (ring : List DayRecord) : State :=
  let s := clockAt (BitVec.ofNat 48 (86400 * day + 86399)) 0 one
  { s with ols := { s.ols with dayLocked := results, ring := ring } }

theorem witness_BoundaryEndsDay :
    (dayEnd 9 72000 fullRing).raises ∧ ((dayEnd 9 72000 fullRing).tsg.seconds + 1).toNat % 86400 = 0 ∧
    72000 ≤ (dayEnd 9 72000 fullRing).ols.dayLocked ∧
    (∃ r, fullRing.getLast? = some r ∧ r.day < (dayEnd 9 72000 fullRing).tsg.seconds.toNat / 86400) ∧
    (dayEnd 9 72000 fullRing).ols.ring.length = 8 ∧ (dayEnd 9 72000 []).ols.ring.length < 8 ∧
    (dayEnd 9 71999 []).ols.dayLocked < 72000 ∧
    (∃ r, fullRing.getLast? = some r ∧ (dayEnd 8 72000 fullRing).tsg.seconds.toNat / 86400 ≤ r.day) ∧
    (dayEnd 9 72000 []).ols.writing = none ∧ (dayEnd 9 72000 []).startWrite.ols.writing ≠ none ∧
    (locked.tsg.seconds + 1).toNat % 86400 ≠ 0 := by
  refine ⟨by unfold State.raises; decide, by decide, by decide, ⟨⟨8, 3400, 256, 86400⟩, by decide⟩, by decide, by decide,
    by decide, ⟨⟨8, 3400, 256, 86400⟩, by decide⟩, by decide, by decide, by decide⟩

theorem witness_BoundaryAdoptsOutputs :
    one.raises ∧ (one.pou.get 0).pending = none ∧ one.inStart = false ∧ one.timeInRange ∧ one.tsg.reRun = false ∧
    ((pulsing 999999960000 1000 (-10000)).inStart = false ∧ (pulsing 999999960000 1000 (-10000)).timeInRange ∧
      (pulsing 999999960000 1000 (-10000)).actsAtInstants 1 = true ∧
      (pulsing 999999960000 1000 (-10000)).squelched 1 = false ∧
      (let a := (pulsing 999999960000 1000 (-10000)).passSecond
       a.tsg.position < pastInstant a.tsg (a.pou.get 1).current ∧
       pastInstant a.tsg (a.pou.get 1).current < a.tsg.cycleAdvance)) ∧
    ({ one with tsg := { one.tsg with reRun := true } } : State).tsg.reRun = true ∧
    (let s := one.setOut 1 { one.pou.o1 with pending := some { one.pou.o1.current with enable := false } }
     s.raises ∧ (s.pou.get 1).pending = some { one.pou.o1.current with enable := false }) := by
  unfold State.raises State.timeInRange; decide

theorem witness_BoundaryCounts :
    one.raises ∧ one.spm.power = .run ∧ keepAlive.raises ∧ keepAlive.spm.power ≠ .run := by
  unfold State.raises; decide

/-- PB disqualified with the hold-off given. -/
def heldOff (n : Nat) : State := slot 1 (fun sl => { sl with state := .disqualified, holdOff := n }) one

theorem witness_ExpiriesAct :
    ((heldOff 0).inStart = false ∧ ((heldOff 0).rmu.slots.get 1).state = .disqualified ∧
      ((heldOff 0).rmu.slots.get 1).holdOff = 0 ∧ ((heldOff 1).rmu.slots.get 1).holdOff ≠ 0 ∧
      (one.rmu.slots.get 1).state ≠ .disqualified) ∧
    ((onPA .bridge one).inStart = false ∧ (onPA .bridge one).sde.clock = .bridge ∧
      (onPA .bridge one).sde.bridgeRemaining = 0 ∧ (onPA .bridge one).attached 1 = false) ∧
    ((pendingAction 30).inStart = false ∧ ∃ r, (pendingAction 30).tru.joint = some r ∧ r.age = 30) ∧
    (let s : State := { keepAlive with spm := { keepAlive.spm with warmUp := 1800, summary := some keepAlive.openSummary } }
     s.inStart = false ∧ s.spm.oven = .warming ∧ s.spm.warmUp = 1800 ∧ s.spm.ovenFault = false ∧
     ∃ k, s.spm.summary = some k ∧ k.ended = false) :=
  ⟨by decide, by decide, ⟨rfl, _, rfl, rfl⟩, rfl, rfl, rfl, rfl, _, rfl, rfl⟩

theorem witness_EpochCloseCloses :
    keepAlive.closeDue = false ∧
    (let s : State := { locked with tsg := { locked.tsg with phase := 250000000000 } }
     s.closeDue = true ∧ s.timeInRange ∧ s.tsg.phase ≤ 250000000000 ∧ s.tsg.reRun = false ∧
     s.sde.selected = some 0 ∧ s.tsg.timeValid = true ∧ s.sde.labelMismatch < 2) ∧
    (let s := slot 1 (fun sl => { sl with state := .halting }) locked
     s.closeDue = true ∧ (s.rmu.slots.get 1).state = .halting ∧ s.attached 0 = true ∧ (s.nu.get 0).frozen = false ∧
     (s.nu.get 0).mask.getLsbD (Report.refHalted (oneSlot 1)).kind = true ∧
     s.tru.config.lfNominal = s.rmu.lfNominal) ∧
    (let s : State := { locked with rmu := { locked.rmu with lfNominal := 8000 } }
     s.closeDue = true ∧ s.tru.config.lfNominal ≠ s.rmu.lfNominal) := by
  unfold State.timeInRange; decide

/-- PB in the state given at the close of epoch 5,000, with the fault count, the empty run and the fault kinds given, no slot selected. -/
def judged (state : SlotState) (faults silent : Nat) (marks : FaultSet) : State :=
  slot 1
    (fun sl => { sl with state := state, faultCount := faults, emptyRun := silent, tallies := [⟨5000, marks, 1⟩] })
    (clockAt 5001 0 one)

theorem witness_EmptyAndFaultyEpochsCount :
    (judged .off 0 0 {}).closeDue = true ∧ ((judged .off 0 0 {}).rmu.slots.get 1).state = .off ∧
    (∀ state : SlotState, state = .qualifying ∨ state = .usable ∨ state = .selected ∨ state = .halting →
      (judged state 0 1 {}).closesEmpty 1 ∧ (judged state 2 1 {}).closesEmpty 1 ∧
      (judged state 0 2 {}).closesFaulty 1 ∧ (judged state 1 0 { gate := true }).closesFaulty 1 ∧
      (judged state 2 2 {}).closesFaulty 1 ∧ (judged state 2 0 { gate := true }).closesFaulty 1 ∧
      ((judged state 2 0 { gate := true }).rmu.slots.get 1).faultCount = 2 ∧
      ((judged state 1 0 { gate := true }).rmu.slots.get 1).faultCount < 2 ∧
      ((judged state 0 0 {}).rmu.slots.get 1).state = state) ∧
    (judged .usable 0 0 {}).sde.selected = none ∧ (waiting 1 120 (judged .halting 2 0 {})).closesGood 1 := by
  refine ⟨by decide, by decide, ?_, by decide, by decide⟩
  intro state h; rcases h with h | h | h | h <;> subst h <;> decide

theorem witness_GoodEpochCounts :
    let s := slot 1 (fun sl => { sl with state := .usable, queue := [.entry ⟨5000, 120, none, none⟩] }) (clockAt 5001 0 one)
    s.closeDue = true ∧ (s.rmu.slots.get 1).state = .usable ∧ s.closesGood 1 ∧ s.sde.selected = none := by decide

/-- Slot n QUALIFYING with the count given and a GOOD epoch to close. -/
def qualifying (n : SlotId) (count : Nat) : State :=
  slot n (fun sl => { sl with state := .qualifying, qualifyCount := count, queue := [.entry ⟨5000, 120, none, none⟩] })
    (clockAt 5001 0 one)

theorem witness_GoodEpochCounts_qualifying :
    (qualifying 1 9).closeDue = true ∧ ((qualifying 1 9).rmu.slots.get 1).state = .qualifying ∧
    (qualifying 1 9).closesGood 1 ∧
    ((qualifying 1 9).rmu.slots.get 1).settings.qualify ≤ ((qualifying 1 9).rmu.slots.get 1).qualifyCount + 1 ∧
    ((qualifying 1 8).rmu.slots.get 1).qualifyCount + 1 < ((qualifying 1 8).rmu.slots.get 1).settings.qualify ∧
    (qualifying 2 8).closesGood 2 ∧ (qualifying 2 8).sde.selected = none := by decide

/-- What the statements on notices told ask of a tenant: attached and frozen, or not frozen with the kind enabled. -/
theorem witness_told :
    one.attached 0 = true ∧ (one.nu.get 0).frozen = false ∧
    (∀ kind : Fin 16, (one.nu.get 0).mask.getLsbD kind.val = true) ∧
    ((one.setNotices 0 { one.nu.t0 with frozen := true }).nu.get 0).frozen = true := by decide

/-- A clock driven by PA in second 5,001, the close due. -/
def driven (c : ClockState) : State := onPA c (clockAt 5001 0 one)

/-- PA halting at the close that is due. -/
def halting (s : State) : State := slot 0 (fun sl => { sl with state := .halting }) s

/-- PA's closing epoch marked faulty, with the fault count given before it. -/
def faulty (count : Nat) (s : State) : State :=
  slot 0 (fun sl => { sl with faultCount := count, tallies := [⟨5000, { gate := true }, 1⟩] }) s

theorem witness_EmptyAndFaultyEpochsHold :
    (∀ c : ClockState, c = .acquire ∨ c = .locked →
      (driven c).drivenBy 0 ∧ (driven c).sde.clock = c ∧ (driven c).closesEmpty 0 ∧
      (faulty 1 (driven c)).drivenBy 0 ∧ (faulty 1 (driven c)).closesFaulty 0 ∧ ¬(faulty 1 (driven c)).losesAt 0 ∧
      (faulty 2 (driven c)).drivenBy 0 ∧ (faulty 2 (driven c)).losesAt 0 ∧
      ((faulty 2 (driven c)).rmu.slots.get 0).faultCount < 3 ∧
      (halting (driven c)).drivenBy 0 ∧ (halting (driven c)).losesAt 0) ∧
    (driven .locked).sde.lastSelected = some 0 ∧
    ran (exec .epochClose (faulty 1 (driven .locked)))
      (fun t => t.sde.selected == some 0 && t.sde.e == 20120 && t.tsg.fApp == 3400) = true ∧
    ran (exec .epochClose (faulty 2 (driven .locked)))
      (fun t => t.sde.selected == none && t.sde.clock == .bridge && t.sde.e == 20000) = true := by
  unfold State.drivenBy; refine ⟨?_, by decide⟩
  intro c h; rcases h with h | h <;> subst h <;> decide

/-- PA's sixteenth epoch in a row within the lock threshold, of the value given, in ACQUIRE. -/
def sixteenth (e : Int) : State :=
  { waiting 0 e (driven .acquire) with sde := { (driven .acquire).sde with lockCount := 15 } }

theorem witness_GoodEpochUpdates :
    ∀ c : ClockState, c = .acquire ∨ c = .locked ∨ c = .bridge →
      (waiting 0 (-100000) (driven c)).drivenBy 0 ∧ (waiting 0 (-100000) (driven c)).closesGood 0 ∧
      (waiting 0 (-100000) (driven c)).sde.clock = c ∧ ¬(waiting 0 (-100000) (driven c)).stepsAt (-100000) ∧
      (waiting 0 100001 (driven c)).drivenBy 0 ∧ (waiting 0 100001 (driven c)).closesGood 0 ∧
      ¬(waiting 0 100001 (driven c)).stepsAt 100001 ∧
      (waiting 0 100001 (driven c)).closingValues 0 = [100001] ∧
      (halting (waiting 0 5 (driven c))).drivenBy 0 ∧ (halting (waiting 0 5 (driven c))).closesGood 0 := by
  unfold State.drivenBy
  intro c h; rcases h with h | h | h <;> subst h <;> decide

theorem witness_GoodEpochUpdates_locks :
    ¬(driven .acquire).updatesLockedAt (-100000) ∧ (driven .locked).updatesLockedAt (-100000) ∧
    (driven .locked).updatesLockedAt 100001 ∧ ¬(driven .locked).locksAt (-100000) ∧ (driven .bridge).locksAt (-100000) ∧
    ¬(driven .bridge).updatesLockedAt 100001 ∧
    (sixteenth 100000).locksAt 100000 ∧ (sixteenth 100000).sde.lockedSinceStart = false := by
  refine ⟨?_, ?_, ?_, ?_, ?_, ?_, ?_, ?_⟩ <;> decide

theorem witness_GoodEpochUpdates_sixteenth :
    (sixteenth 100000).drivenBy 0 ∧ (sixteenth 100000).closesGood 0 ∧ ¬(sixteenth 100000).stepsAt 100000 ∧
    (locked.rmu.slots.get 2).state = .qualifying ∧ ¬locked.closesGood 2 := by
  unfold State.drivenBy; decide

/-- An entry of the value given waits in PA with a label. -/
def labelled (value : Int) (label : Seconds) (s : State) : State :=
  slot 0 (fun sl => { sl with queue := [.entry ⟨s.tsg.seconds - 1, value, none, some label⟩] }) s

/-- A driven LOCKED close with a label: none set by an equal label or a first mismatch, one by a third; learning enabled. -/
theorem witness_GoodEpochUpdates_labelled :
    (labelled 100 5000 locked).drivenBy 0 ∧ (labelled 100 5000 locked).closingValues 0 = [100] ∧
    (labelled 100 5000 locked).settingLabel 0 true = none ∧ (labelled 100 7000 locked).settingLabel 0 true = none ∧
    (labelled 100 7000 (driven .acquire)).settingLabel 0 false = some 7000 ∧
    (let s : State := { labelled 100 700000 locked with sde := { locked.sde with labelMismatch := 2 } }
     s.drivenBy 0 ∧ s.settingLabel 0 true = some 700000 ∧
     s.tsg.seconds.toNat / 86400 ≠ ((700000 : Seconds) + 1).toNat / 86400) ∧
    (let s : State := { labelled 100 7000 locked with
      spm := { locked.spm with oven := .settled, soak := 0 }
      ols := { locked.ols with theta := some 256, sensorFault := false } }
     s.drivenBy 0 ∧ s.spm.power = .run ∧ s.ols.theta = some 256) := by
  unfold State.drivenBy; decide

/-- LOCKED on PA with a GOOD epoch, and a GOOD LF epoch beside it. -/
def tracking (lf : SlotState) : State :=
  slot 2 (fun sl => { sl with state := lf, queue := [.entry ⟨5000, 4, none, none⟩] }) (waiting 0 100 locked)

theorem witness_GoodEpochUpdates_tracking :
    (tracking .usable).drivenBy 0 ∧ (tracking .usable).closesGood 0 ∧ (tracking .usable).closingValues 0 = [100] ∧
    (tracking .usable).updatesLockedAt 100 ∧ (tracking .usable).closesGood 2 ∧
    (tracking .usable).sde.lfRestart = false ∧ (tracking .usable).sde.lfBasis = (tracking .usable).rmu.lfNominal ∧
    (let s : State := { tracking .usable with sde := { (tracking .usable).sde with lfRestart := true } }
     s.drivenBy 0 ∧ s.sde.lfRestart = true) ∧
    (tracking .halting).drivenBy 0 ∧ ((tracking .halting).rmu.slots.get 2).state = .halting ∧
    (tracking .off).drivenBy 0 ∧ ((tracking .off).rmu.slots.get 2).state = .off := by
  unfold State.drivenBy; decide

/-- ACQUIRE on PA at 250 ms with a GOOD epoch of the value given, a step decision and a STEP_NOW pending or not. -/
def deciding (e : Int) (regular now : Bool) : State :=
  let s := waiting 0 e (onPA .acquire (clockAt 5001 250000000000 one))
  { s with sde := { s.sde with stepDecisionPending := regular, stepNow := now } }

theorem witness_StepDecisionAndStepNowStep :
    (deciding 1000001 true false).drivenBy 0 ∧ (deciding 1000001 true false).closesGood 0 ∧
    (deciding 1000001 true false).closingValues 0 = [1000001] ∧ (deciding 1000001 true false).stepsAt 1000001 ∧
    (deciding 1000001 true false).tsg.phase ≤ 250000000000 ∧ ¬(deciding 1000000 true false).stepsAt 1000000 := by
  unfold State.drivenBy; decide

theorem witness_StepDecisionAndStepNowStep_now :
    (deciding 1 false true).drivenBy 0 ∧ (deciding 1 false true).closesGood 0 ∧ (deciding 1 false true).stepsAt 1 ∧
    ¬(deciding 0 false true).stepsAt 0 := by
  unfold State.drivenBy; decide

theorem witness_StepDecisionAndStepNowStep_bridge :
    (driven .bridge).stepsAt 1000001 ∧ (waiting 0 1000001 (driven .bridge)).drivenBy 0 ∧
    (waiting 0 1000001 (driven .bridge)).closesGood 0 := by
  unfold State.drivenBy; decide

theorem witness_StepDecisionAndStepNowStep_inRange :
    (deciding 1000001 true false).valuesInRange ∧ (deciding 1 false true).valuesInRange ∧
    (waiting 0 1000001 (driven .bridge)).valuesInRange := by
  refine ⟨?_, ?_, ?_⟩ <;> exact
    ⟨by unfold State.timeInRange; decide, factory_configsInRange (by decide) rfl rfl (by decide) rfl rfl,
    by unfold State.slotsInRange; decide, by decide⟩

theorem witness_StepDecisionAndStepNowStep_labelled :
    let s : State := { labelled 1000001 7000 (onPA .acquire (clockAt 5001 250000000000 one)) with
      sde := { (onPA .acquire (clockAt 5001 250000000000 one)).sde with stepDecisionPending := true } }
    s.drivenBy 0 ∧ s.closingValues 0 = [1000001] ∧ s.tsg.timeValid = false ∧ s.settingLabel 0 false = some 7000 := by
  unfold State.drivenBy; decide

theorem witness_AgingSlopeFromEndRecords :
    ([] : List DayRecord).length < 2 ∧
    (∃ o n : DayRecord, fullRing.head? = some o ∧ fullRing.getLast? = some n ∧ 2 ≤ fullRing.length ∧ o.day + 2 ≤ n.day) ∧
    ∃ o n : DayRecord, [o, n].head? = some o ∧ [o, n].getLast? = some n ∧ 2 ≤ [o, n].length ∧ n.day < o.day + 2 :=
  ⟨by decide, ⟨⟨1, 3400, 256, 86400⟩, ⟨8, 3400, 256, 86400⟩, by decide⟩,
    ⟨⟨1, 3400, 256, 86400⟩, ⟨2, 3400, 256, 86400⟩, by decide⟩⟩

theorem witness_ResultFiledInBin :
    ({ State.reset.ols with dayLocked := 86399 } : Ols).dayLocked < 86400 ∧
    86400 ≤ ({ State.reset.ols with dayLocked := 86400 } : Ols).dayLocked ∧ (0 : BinId) ≠ binOf 680 ∧
    (State.reset.ols.bins.get (binOf 680)).count = 0 ∧ (State.reset.ols.bins.get (binOf 680)).mean ≤ 20000000 ∧
    (20000000 : Int) ≤ 20000000 ∧ 0 ≤ (State.reset.ols.bins.get (binOf 680)).spread := by decide

theorem witness_ConfigItemsByTable :
    7 ≤ (0x07 : Byte).toNat ∧ (0x0F : Byte).toNat ≤ 15 ∧ 0x19 ≤ (0x19 : Byte).toNat ∧ (0x1F : Byte).toNat ≤ 0x1F ∧
    0x23 ≤ (0xFF : Byte).toNat ∧ 1 ≤ (0x06 : Byte).toNat ∧ 6 ≤ (0x06 : Byte).toNat ∧ (2 : BitVec 32).toInt ≠ 0 ∧
    (2 : BitVec 32).toInt ≠ 1 ∧ (0x05 : Byte).toNat = (5 : SlotId).val ∧ (5 : SlotId) ≠ 2 ∧
    (0 : BitVec 32).toInt = (if false then 1 else 0) ∧ (1 : BitVec 32).toInt = (if true then 1 else 0) ∧
    (SiteConfig.factory.slots.get 5).enable = true ∧ (SiteConfig.factory.slots.get 5).enable ≠ false := by decide

theorem witness_ResolutionIsMostCareful :
    (∀ t : Port, (State.reset.tru.tenants.get t).attached = false) ∧ (two.tru.tenants.get 1).attached = true := by decide

theorem witness_PulseIsTaken :
    starting.inStart = true ∧ keepAlive.inStart = false ∧ keepAlive.spm.power ≠ .run ∧ locked.inService = true ∧
    (locked.rmu.slots.get (pulseSlot .pa)).state = .selected ∧ locked.rmu.isOpen 5001 = true ∧
    locked.rmu.isOpen 4999 = false ∧
    (slot 0 (fun sl => { sl with state := .off }) locked).rmu.slots.s0.state = .off ∧
    1 ≤ (tallyOf 5001 (slot 0 (fun sl => { sl with tallies := [⟨5001, {}, 1⟩] }) locked).rmu.slots.s0.tallies).pulses ∧
    (locked.rmu.slots.get 0).settings.gate < mag (2000121 - 120) := by decide

/-- PA's latest pulse was taken for epoch 5,001. -/
def pulsed (hasEntry : Bool) (label : Option Seconds) (s : State) : State :=
  { s with rmu := { s.rmu with targetA := some ⟨5001, hasEntry, label⟩ } }

theorem witness_LabelIsJudged :
    keepAlive.inService = false ∧ locked.rmu.target .pa = none ∧
    (pulsed true none locked).inService = true ∧ (pulsed true none locked).rmu.target .pa = some ⟨5001, true, none⟩ ∧
    (pulsed true none locked).rmu.isOpen 5001 = true ∧ ((pulsed true none locked).rmu.slots.get 0).state = .selected ∧
    (pulsed true (some 5001) locked).rmu.target .pa = some ⟨5001, true, some 5001⟩ ∧
    (pulsed false none locked).rmu.target .pa = some ⟨5001, false, none⟩ ∧
    (let s := slot 0 (fun sl => { sl with state := .usable }) (pulsed true none locked)
     s.tsg.timeValid = true ∧ (s.rmu.slots.get 0).state ≠ .selected ∧ (5000 : Seconds) ≠ 5001) := by decide

theorem witness_SensorReadEnds :
    one.raises ∧ one.startRead.raises ∧
    min 10 (({ one.ols with failures := 9 } : Ols).failures + 1) = 10 ∧ one.ols.sensorFault = false ∧
    one.ols.reading = false ∧ (one.startRead).ols.reading = true ∧ (one.startRead).inStart = false ∧
    (-880 ≤ (-880 : Int) ∧ (-880 : Int) ≤ 2000) ∧ (2000 : Int) ≤ 2000 ∧ (-881 : Int) < -880 ∧ 2000 < (2001 : Int) := by
  unfold State.raises; decide

theorem witness_WriteCompletes :
    one.ols.writing = none ∧ one.startWrite.inStart = false ∧
    one.startWrite.ols.writing = some ⟨one.retainedContent, .invalidate⟩ ∧
    (⟨one.retainedContent, .content⟩ : RetainedWrite).phase = .content ∧
    (⟨one.retainedContent, .integrity⟩ : RetainedWrite).phase = .integrity := by
  decide

theorem witness_PulsesBeginAndEnd :
    locked.actsAtInstants 1 = false ∧ (pulsing 0 250 0).actsAtInstants 1 = true ∧
    (((pulsing 249999990000 250 0).advanceCycles 1).pou.get 1).passed = some (40000 * 20000000) ∧
    ((pulsing 0 250 0).pou.get 1).passed = none ∧
    fitsInSecond (pulsing 0 250 0).tsg (cyclesToInstant (pulsing 0 250 0).tsg ((pulsing 0 250 0).pou.get 1).current) = true ∧
    fitsInSecond (pulsing 750000000000 250 0).tsg
      (cyclesToInstant (pulsing 750000000000 250 0).tsg ((pulsing 750000000000 250 0).pou.get 1).current) = false ∧
    (pulsing 0 250 0).timeInRange ∧ 1 ≤ ((pulsing 0 250 0).pou.get 1).current.interval ∧
    (one.pou.get 1).pulseLeft = none ∧
    (let s := one.setOut 1 { one.pou.o1 with pulseLeft := some 0 }
     (s.pou.get 1).pulseLeft = some 0 ∧ fitsInSecond s.tsg (ceilDiv 0 s.tsg.cycleAdvance) = true ∧
     fitsInSecond s.tsg (ceilDiv unitsPerSecond s.tsg.cycleAdvance) = false) := by
  unfold State.timeInRange; decide

theorem witness_SetOutputTakesFields :
    one.takesAttached 0 ∧ 2 < (3 : Byte).toNat ∧ SquelchMode.tolerance.code = 2 ∧
    1 ≤ ((one.pou.get (tenantOut 0)).pending.getD (one.pou.get (tenantOut 0)).current).interval := by
  unfold State.takesAttached State.takes; decide

theorem witness_PostingIsFiled :
    one.attached 1 = false ∧ one.attached 0 = true ∧ (one.nu.get 0).frozen = false ∧
    (one.nu.get 0).mask.getLsbD (Report.selection none).kind = true ∧
    (0xFFF7 : Word16).getLsbD (Report.selection none).kind = false ∧
    ((one.setNotices 0 { one.nu.t0 with frozen := true }).nu.get 0).frozen = true ∧
    (let x : Notice := ⟨.refDisqualified (oneSlot 1), 1⟩
     let y : Notice := ⟨.refDisqualified (oneSlot 4), 255⟩
     let before : List Notice := [⟨.selection (some 0), 1⟩]
     let after : List Notice := [⟨.phaseStep 5, 2⟩]
     (∀ z ∈ before, z.kind < x.kind) ∧ (∀ z ∈ after, x.kind < z.kind) ∧ y.kind = x.kind) ∧
    (⟨.refHalted (oneSlot 1), 1⟩ : Notice).kind = (⟨.refHalted (oneSlot 4), 1⟩ : Notice).kind ∧
    (⟨.outputSquelch ⟨some .active, none, none, none⟩, 1⟩ : Notice).kind =
      (⟨.outputSquelch ⟨some .squelched, none, none, none⟩, 1⟩ : Notice).kind ∧
    (⟨.phaseStep 5, 1⟩ : Notice).kind = (⟨.phaseStep (-5), 1⟩ : Notice).kind := by decide

theorem witness_MainsFailureEntersKeepAlive :
    keepAlive.inService = false ∧ starting.inService = false ∧ locked.inService = true ∧ locked.attached 0 = true ∧ (pendingAction 0).inService = true ∧
    (∃ r, (pendingAction 0).tru.joint = some r) ∧ locked.sde.clock = .locked ∧
    (onPA .acquire one).inService = true ∧ (onPA .acquire one).tsg.timeValid = false ∧ holdover.inService = true ∧
    holdover.sde.assisted = false ∧ locked.ols.writing = none ∧ locked.startWrite.ols.writing ≠ none :=
  ⟨rfl, rfl, rfl, rfl, rfl, ⟨_, rfl⟩, by decide⟩

theorem witness_MainsFailureEntersKeepAlive_others :
    (let s : State := { holdover with sde := { holdover.sde with assisted := true } }
     s.inService = true ∧ s.sde.clock = .holdover ∧ s.sde.assisted = true) ∧
    (halting locked).inService = true ∧ ((halting locked).rmu.slots.get 0).state = .halting ∧
    State.reset.inService = true ∧ (∀ p : Port, State.reset.attached p = false) ∧ State.reset.tru.joint = none ∧
    State.reset.sde.clock = .freerun := by decide

theorem witness_PowerAndOvenLinesAct :
    starting.inStart = true ∧ one.spm.power = .run ∧ keepAlive.inStart = false ∧ keepAlive.spm.power ≠ .run ∧
    keepAlive.spm.oven ≠ .off ∧ coldKeep.spm.oven = .off ∧ coldKeep.spm.power ≠ .run ∧
    one.spm.power ≠ .keepalive ∧ keepAlive.spm.power ≠ .coldkeep ∧ keepAlive.spm.power = .keepalive ∧
    coldKeep.inStart = false ∧ coldKeep.spm.power = .coldkeep ∧ coldKeep.pins.ovenOk = false ∧
    ({ coldKeep with pins := { coldKeep.pins with ovenOk := true } } : State).pins.ovenOk = true ∧
    one.inStart = false ∧ one.spm.oven = .warming ∧ holdover.inStart = false ∧ holdover.spm.oven = .settled ∧
    one.spm.oven ≠ .settled ∧ holdover.spm.oven ≠ .warming ∧ one.attached 0 = true := by decide

theorem witness_DetachReturnsDefaults :
    starting.inStart = true ∧ State.reset.inStart = false ∧ State.reset.attached 0 = false ∧ one.takesAttached 0 ∧
    one.tru.joint = none ∧ (pendingAction 0).takesAttached 0 ∧ (pendingAction 0).takesAttached 1 ∧ asked.initiator = 0 ∧
    asked.required.get 1 = true ∧ asked.required.set 1 false = asked.concurred.set 1 false ∧
    asked.required.get 2 = false ∧ (board 2 (pendingAction 0)).takesAttached 2 ∧
    (let r : JointRecord := { asked with required := ⟨true, true, true⟩ }
     r.required.get 1 = true ∧ r.required.set 1 false ≠ r.concurred.set 1 false) := by
  unfold State.takesAttached State.takes; decide

/-- The withdrawal of the initiator's action is told before the new policy (R149, R150, R138). -/
theorem test_withdrawal_is_told :
    ran (exec (.detach 0 1) (pendingAction 0))
      (fun t => (t.nu.get 1).notices.map (·.report) == [.resolved ((pendingAction 0).tru.generation + 1), .jointCancelled 17 .withdrawn]) = true := by decide

/-- A response held. -/
def held : Response := ⟨0x13, 1, .ok, false, .empty⟩

theorem witness_ReadTransactionClocksOut :
    starting.inStart = true ∧ (port 0 (.ready held) one).inService = true ∧
    ((port 0 (.ready held) one).tpi.get 0).state = .ready held ∧ keepAlive.inStart = false ∧ keepAlive.spm.power ≠ .run ∧
    one.inStart = false ∧ (one.tpi.get 0).state = .idle ∧
    (let fits (width : Nat) (v : Int) : Prop := -(128 * 256 ^ (width - 1)) ≤ v ∧ v < 128 * 256 ^ (width - 1)
     fits 6 locked.tsg.phase ∧ fits 4 locked.tsg.fApp ∧ fits 6 locked.sde.e ∧ fits 6 eCap ∧ fits 4 locked.tru.policy.sRes ∧
     fits 4 locked.tru.policy.lCom) := by decide

theorem witness_ResponsesCompleteAndMalformedAnswered :
    ((port 0 (.working held) one).tpi.get 0).state = .working held ∧ (one.tpi.get 0).state = .idle ∧ one.takes 0 ∧
    keepAlive.inService = false ∧ (port 0 (.working held) one).inService = true ∧
    ((port 0 (.working held) one).tpi.get 0).state.isWorking = true := by
  unfold State.takes; decide

theorem witness_RequestsAreTurnedAway :
    (∃ frame, Wire.requestOf (.readJoint 1 9) = some (1, frame) ∧ Wire.byteAt frame 1 ∉ ([0x10, 0x13, 0x16, 0x19] : List Byte)) ∧
    (Instr.readJoint 1 9).wellFormed = true ∧ keepAlive.inService = false ∧ one.takes 1 ∧ one.attached 1 = false ∧
    (port 0 (.working held) one).inService = true ∧ ((port 0 (.working held) one).tpi.get 0).state.isWorking = true :=
  ⟨⟨_, rfl, by decide⟩, by unfold State.takes; decide⟩

/-- Board 1 present and not attached. -/
def presented : State := { one with pins := { one.pins with present := ⟨true, true, false⟩ } }

theorem witness_AttachAndAdvertiseTakeAdvertisement :
    one.takes 1 ∧ one.attached 1 = false ∧ one.pins.present.get 1 = false ∧ presented.takes 1 ∧
    presented.attached 1 = false ∧ presented.pins.present.get 1 = true ∧ (2 : Byte) ≠ 0 ∧ (2 : Byte) ≠ 1 ∧
    one.takesAttached 0 ∧
    max 100000 (min 50000000 (1100000 : BitVec 32).toInt) = (one.tru.tenants.get 0).adv.limit ∧
    max 100000 (min 50000000 (99999 : BitVec 32).toInt) ≠ (99999 : BitVec 32).toInt := by
  unfold State.takesAttached State.takes; decide

theorem witness_TimeAndConfigAreRead : one.takes 0 ∧ one.attached 0 = true ∧ one.takes 1 ∧ one.attached 1 = false := by
  unfold State.takes; decide

theorem witness_StatusIsReadAndArmed : one.takesAttached 0 := by unfold State.takesAttached State.takes; decide

theorem witness_ReferenceAndLearningAreRead :
    one.takes 1 ∧ 5 < (6 : Byte).toNat ∧ (5 : Byte).toNat = (5 : SlotId).val ∧ one.takesAttached 0 ∧
    ((31 : Byte).toNat ≤ 31 ∧ 1 ≤ (8 : Byte).toNat ∧ (8 : Byte).toNat ≤ 8) ∧ ¬(32 : Byte).toNat ≤ 31 := by
  unfold State.takesAttached State.takes; decide

/-- Tenant 0's report slot takes reports, in second 5,001. -/
def reporting : State := slot 3 (fun sl => { sl with state := .usable, lastValue := some 0 }) locked

theorem witness_ReportIsJudged :
    one.takesAttached 0 ∧ reporting.takesAttached 0 ∧ (reporting.rmu.slots.get (reportSlot 0)).state = .usable ∧
    (slot 3 (fun sl => { sl with state := .off }) locked).rmu.slots.s3.state = .off ∧
    (reporting.rmu.isOpen 5001 = true ∧ reporting.rmu.isOpen 5000 = true) ∧
    (1 ≤ ((5002 : Seconds) - 5001).toNat ∧ ((5002 : Seconds) - 5001).toNat ≤ 140737488355328) ∧
    ¬((4999 : Seconds) - 5001).toNat ≤ 140737488355328 ∧
    499999999999 < (500000000000 : BitVec 48).toInt ∧ 7 < (8 : Byte).toNat ∧
    (entriesStamped 5001 (List.replicate 16 (.entry ⟨5001, 0, none, none⟩))).length = 16 ∧
    (reporting.rmu.slots.get 3).settings.gate < mag (5000001 - 0) ∧ reporting.tsg.timeValid = true := by
  unfold State.takesAttached State.takes; decide

theorem witness_ProposalIsTaken :
    one.takesAttached 0 ∧ ([] : List ConfigItem).length ≤ 8 ∧ (0 : Byte).toNat = 0 ∧ 4 < (5 : Byte).toNat ∧
    (pendingAction 0).takesAttached 0 ∧ (pendingAction 0).tru.joint ≠ none ∧ two.takesAttached 0 ∧
    two.tru.joint = none ∧ two.attached 1 = true ∧ (∀ q : Port, q ≠ 0 → one.attached q = false) ∧
    one.tru.joint = none ∧ one.ols.writing = none ∧ one.startWrite.takesAttached 0 ∧ one.startWrite.ols.writing ≠ none := by
  unfold State.takesAttached State.takes; decide

/-- What a CONFIGURE asks of a state: a floor raised above E and one not, OUT3's interval changed and not; and what the other kinds
ask: a tenant in tolerance, a clock with a selection, and one in ACQUIRE. -/
theorem witness_carriedOut :
    ran (exec (.propose 0 1 1 [⟨0x18, 0, 30000⟩]) locked)
      (fun t => decide (locked.sde.e < t.tru.config.eFloor) && t.tru.config.out3Interval == locked.tru.config.out3Interval) =
        true ∧
    ran (exec (.propose 0 1 1 [⟨0x20, 0, 250⟩]) locked)
      (fun t => decide (t.tru.config.eFloor ≤ locked.sde.e) && t.tru.config.out3Interval != locked.tru.config.out3Interval) =
        true ∧
    locked.judgeAll.takesAttached 0 ∧ locked.judgeAll.sde.tol.get 0 = true ∧ locked.judgeAll.sde.selected ≠ none ∧
    locked.sde.clock ≠ .freerun ∧ locked.sde.clock ≠ .acquire ∧ (onPA .acquire one).sde.clock = .acquire := by
  unfold State.takesAttached State.takes; decide

theorem witness_JointActionIsAnswered :
    one.takesAttached 0 ∧ one.tru.joint = none ∧ (pendingAction 0).takesAttached 1 ∧ (pendingAction 0).takesAttached 0 ∧
    (∃ r, (pendingAction 0).tru.joint = some r ∧ r.serial = 17 ∧ r.serial ≠ 16 ∧ r.required.get 1 = true ∧
      r.concurred.get 1 = false ∧ r.concurred.get 0 = true ∧ r.required.get 2 = false ∧
      r.required = r.concurred.set 1 true) ∧
    ({ asked with required := ⟨true, true, true⟩ } : JointRecord).required ≠ asked.concurred.set 1 true := by
  refine ⟨by unfold State.takesAttached State.takes; decide, rfl, by unfold State.takesAttached State.takes; decide,
    by unfold State.takesAttached State.takes; decide, ⟨_, rfl, by decide⟩, by decide⟩

theorem witness_NoticeRequestsAct :
    one.takesAttached 0 ∧ (one.nu.get 0).notices = [] ∧ (site.nu.get 0).notices = [⟨.selection (some 0), 1⟩] ∧
    1 ≤ [(15 : Byte)].length ∧ (List.replicate 16 (15 : Byte)).length ≤ 16 ∧ (∀ k ∈ [(15 : Byte)], k.toNat ≤ 15) ∧
    ∃ k ∈ [(16 : Byte)], 15 < k.toNat := by
  unfold State.takesAttached State.takes; decide

/-- An LF mark of the boundary before, with LF in the state given. -/
def marked (lf : SlotState) : State :=
  let s := slot 2 (fun sl => { sl with state := lf, lastValue := some 0 }) locked
  { s with rmu := { s.rmu with lfMark := some 0 } }

theorem witness_BoundaryMeasuresLineClock :
    keepAlive.raises ∧ keepAlive.spm.power ≠ .run ∧ locked.raises ∧ locked.spm.power = .run ∧
    locked.rmu.lfMark = none ∧ (marked .off).raises ∧ (marked .off).rmu.lfMark = some 0 ∧
    ((marked .off).rmu.slots.get 2).state = .off ∧ (marked .usable).raises ∧ (marked .usable).spm.power = .run ∧
    (marked .usable).rmu.lfVoid = false ∧ ((marked .usable).rmu.slots.get 2).state = .usable ∧
    (let sl := (marked .usable).rmu.slots.get 2
     let f (mark : Int) := 1000000000000 - mark
     (∃ l, sl.lastValue = some l ∧ sl.settings.gate < mag (f 0 - l)) ∧
     ∀ l, sl.lastValue = some l → mag (f 1000000000000 - l) ≤ sl.settings.gate) := by
  refine ⟨?_, by decide, ?_, by decide, by decide, ?_, by decide, by decide, ?_, by decide, by decide, by decide, ?_⟩
  case' refine_5 => exact ⟨⟨0, by decide⟩, by intro l h; cases h; decide⟩
  all_goals unfold State.raises; decide

/-- The slot items of a selection: PA on priority 3, PB on priority 1 usable for the seconds given, the rest OFF. -/
def choices (a : SlotState) (run : Nat) : Six SlotItem :=
  let off : SlotItem := ⟨.off, .empty, 0, 0, false⟩
  { s0 := ⟨a, .empty, 3, 100, false⟩, s1 := ⟨.usable, .empty, 1, run, false⟩, s2 := off, s3 := off, s4 := off, s5 := off }

theorem witness_SelectionIsArbitrated :
    ((choices .halting 0).get 0).state ≠ .selected ∧
    ((choices .selected 0).get 0).state = .selected ∧ SiteConfig.factory.revertive = true ∧
    ({ SiteConfig.factory with revertive := false } : SiteConfig).revertive = false ∧
    SiteConfig.factory.waitToRestore ≤ ((choices .selected SiteConfig.factory.waitToRestore).get 1).usableRun ∧
    ((choices .selected 0).get 1).priority < ((choices .selected 0).get 0).priority := by decide

/-- The items of the close that is due, and the slot chosen at it. -/
def closing (s : State) : Six SlotItem × Option SlotId :=
  let items := (s.slotCloses (s.tsg.seconds - 1)).mapIdx fun _ c => c.item
  (items, chooseSlot items s.tru.config s.sde.selected)

/-- PB usable at the close that is due. -/
def another (s : State) : State := slot 1 (fun sl => { sl with state := .usable, usableRun := 100 }) s

/-- No slot selected. -/
def unselected (s : State) : State := { s with sde := { s.sde with selected := none } }

theorem witness_ClockFollowsEpochs_driven :
    (∀ c : ClockState, c = .acquire ∨ c = .locked ∨ c = .bridge →
      (waiting 0 5 (driven c)).closeDue = true ∧ (waiting 0 5 (driven c)).sde.clock = c ∧
      (waiting 0 5 (driven c)).sde.selected = some 0 ∧ (closing (waiting 0 5 (driven c))).2 = some 0 ∧
      ((closing (waiting 0 5 (driven c))).1.get 0).outcome = .good 5 none ∧
      (closing (waiting 0 100001 (driven c))).2 = some 0 ∧
      ((closing (waiting 0 100001 (driven c))).1.get 0).outcome = .good 100001 none) ∧
    mag 5 ≤ (driven .locked).tru.config.lockThreshold ∧ ¬mag 100001 ≤ (driven .locked).tru.config.lockThreshold ∧
    (driven .acquire).sde.lockCount < 15 ∧ (driven .acquire).sde.stepNow = false ∧
    (driven .acquire).sde.stepDecisionPending = false ∧ (driven .locked).sde.decisionPending = false ∧
    (driven .locked).sde.lockLoss < 3 := by
  refine ⟨?_, by decide⟩
  intro c h; rcases h with h | h | h <;> subst h <;> decide

/-- Bridge time 0. -/
def bridgeless (s : State) : State := { s with tru := { s.tru with config := { s.tru.config with bridgeTime := 0 } } }

/-- PA's halt, with its final epoch in the queue. -/
def halted (s : State) : State := halting (waiting 0 5 s)

/-- PA on the priority 3, so that PB, on 2, restores the site. -/
def outranked (s : State) : State := another (slot 0 (fun sl => { sl with settings := { sl.settings with priority := 3 } }) s)

/-- The selection moves at a GOOD epoch: a halted slot's final epoch, and a restoration. -/
theorem witness_ClockFollowsEpochs_moved :
    (∀ c : ClockState, c = .acquire ∨ c = .locked ∨ c = .bridge →
      (halted (driven c)).closeDue = true ∧ ((closing (halted (driven c))).1.get 0).outcome = .good 5 none ∧
      (closing (halted (driven c))).2 = none ∧ (closing (another (halted (driven c)))).2 = some 1 ∧
      ((closing (outranked (waiting 0 5 (driven c)))).1.get 0).outcome = .good 5 none ∧
      (closing (outranked (waiting 0 5 (driven c)))).2 = some 1 ∧
      ((closing (outranked (waiting 0 100001 (driven c)))).1.get 0).outcome = .good 100001 none ∧
      (closing (outranked (waiting 0 100001 (driven c)))).2 = some 1) ∧
    (halted (driven .acquire)).tsg.timeValid = false ∧ (halted (driven .locked)).tsg.timeValid = true := by
  refine ⟨?_, by decide⟩
  intro c h; rcases h with h | h | h <;> subst h <;> decide

/-- A loss from LOCKED with bridge time 0, without a GOOD epoch and at one (log 16). -/
theorem witness_ClockFollowsEpochs_bridgeless :
    let s := bridgeless (halting locked)
    let g := bridgeless (halted locked)
    s.closeDue = true ∧ s.sde.clock = .locked ∧ s.tru.config.bridgeTime = 0 ∧ s.sde.selected = some 0 ∧
    (closing s).2 = none ∧ ((closing s).1.get 0).outcome = .empty ∧
    g.closeDue = true ∧ g.tru.config.bridgeTime = 0 ∧ (closing g).2 = none ∧
    ((closing g).1.get 0).outcome = .good 5 none ∧
    ran (exec .epochClose s) (fun t => t.sde.clock == .holdover && !t.sde.decisionPending) = true := by decide

theorem witness_ClockFollowsEpochs_followed :
    (∀ c : ClockState, c = .acquire ∨ c = .locked ∨ c = .bridge →
      (halting (driven c)).closeDue = true ∧ (closing (halting (driven c))).2 = none ∧
      ((closing (halting (driven c))).1.get 0).outcome = .empty ∧
      (closing (another (halting (driven c)))).2 = some 1) ∧
    (∀ c : ClockState, c = .freerun ∨ c = .holdover →
      (unselected (driven c)).closeDue = true ∧ (closing (unselected (halting (driven c)))).2 = none ∧
      (closing (another (unselected (halting (driven c))))).2 = some 1) ∧
    (driven .acquire).tsg.timeValid = false ∧
    ({ driven .acquire with tsg := { locked.tsg with timeValid := true } } : State).tsg.timeValid = true ∧
    0 < (driven .locked).tru.config.bridgeTime ∧ (driven .locked).attached 0 = true ∧
    ((driven .locked).nu.get 0).frozen = false ∧
    ((driven .locked).nu.get 0).mask.getLsbD (Report.clockState .bridge false true).kind = true := by
  refine ⟨?_, ?_, by decide⟩
  · intro c h; rcases h with h | h | h <;> subst h <;> decide
  · intro c h; rcases h with h | h <;> subst h <;> decide

theorem witness_AssistanceSteers :
    (let s : State := { holdover with sde := { holdover.sde with lfCount := 600 } }
     let lf : SlotItem := ⟨.usable, .good 4 none, 1, 0, false⟩
     lf.outcome = .good 4 none ∧ s.sde.lfCount = 600 ∧ lf.priority ≠ 0 ∧ lf.state ≠ .off ∧ s.spm.power = .run ∧
     s.spm.oven = .settled ∧ s.sde.assisted = false ∧
     ({ s with sde := { s.sde with assisted := true } } : State).sde.assisted = true) ∧
    holdover.sde.lfCount ≠ 600 := by decide

theorem witness_SecondsSetFollowsLabels :
    one.tsg.timeValid = false ∧ locked.tsg.timeValid = true ∧ locked.sde.labelMismatch < 2 ∧
    2 ≤ ({ locked.sde with labelMismatch := 2 } : Sde).labelMismatch ∧ (5001 : Seconds) ≠ 5000 ∧
    locked.tsg.seconds.toNat / 86400 ≠ (700000 : Seconds).toNat / 86400 ∧ locked.attached 0 = true := by decide

theorem witness_ToleranceIsJudged :
    locked.attached 0 = true ∧ locked.attached 1 = false ∧
    (let flag (s : State) := s.tsg.timeValid && decide (s.sde.e ≤ (s.tru.tenants.get 0).adv.limit)
     flag locked = true ∧ flag locked ≠ locked.sde.tol.get 0 ∧ locked.judgeAll.sde.tol.get 0 = true ∧
     flag { locked.judgeAll with sde := { locked.judgeAll.sde with e := eCap } } = false) := by decide

end Sys2Proof.Tests
end

section
/-!
PROOFS. REPORT_PHASE (R28, R29, R192): the conditions of Table 2-4 and of the four dispositions as propositions, the judgement of a
report case by case, and the command as its judgement's effect on the slot and the port.
-/

namespace Sys2Proof.Machine

/-! ## The conditions a report is judged by -/

/-- The states that take no observation (R24, R25, R28). -/
theorem SlotState.takes_eq_false_iff (st : SlotState) :
    st.takes = false ↔ st = .off ∨ st = .halting ∨ st = .disqualified := by
  cases st <;> simp [SlotState.takes]

/-- A magnitude above a bound lies outside the bound on one side. -/
theorem lt_mag_iff (b x : Int) : b < mag x ↔ x < -b ∨ b < x := by
  unfold mag; omega

/-- The order of the wrap, as a proposition. -/
theorem liesAfter_iff (a b : Seconds) :
    liesAfter a b = true ↔ 1 ≤ (a - b).toNat ∧ (a - b).toNat ≤ 140737488355328 := by
  simp [liesAfter]

/-- A stamp is open for the current second or the one before, and only of an epoch not closed (R28). -/
theorem Rmu.stampOpen_iff (r : Rmu) (c k : Seconds) :
    r.stampOpen c k = true ↔ (k = c ∨ k = c - 1) ∧ r.isOpen k = true := by
  simp [Rmu.stampOpen]

/-- Only a slot that has a last value gates. -/
theorem Slot.gated_iff (sl : Slot) (v : Int) :
    sl.gated v = true ↔ ∃ l, sl.lastValue = some l ∧ sl.settings.gate < mag (v - l) := by
  cases h : sl.lastValue <;> simp [Slot.gated, h]

/-- Table 2-4, BAD_VALUE: the phase or the quality class is out of its range. -/
def reportOutOfRange (f : ReportFields) : Prop := 499999999999 < mag (signed f.phase) ∨ 7 < f.quality.toNat

/-- The two bounds of the phase, written out. -/
theorem reportOutOfRange_iff (f : ReportFields) :
    reportOutOfRange f ↔ f.phase.toInt < -499999999999 ∨ 499999999999 < f.phase.toInt ∨ 7 < f.quality.toNat := by
  rw [reportOutOfRange, lt_mag_iff, or_assoc, signed]

/-- R29, LABEL: the report's label contradicts its stamp, time is valid and the slot is not the selected one. -/
def Slot.mislabelled (sl : Slot) (timeValid : Bool) (f : ReportFields) : Prop :=
  (∃ l, f.label = some l ∧ l ≠ f.stamp) ∧ timeValid = true ∧ sl.state ≠ .selected

/-- The model's test of the label decides it. -/
theorem Slot.mislabelled_iff (sl : Slot) (timeValid : Bool) (f : ReportFields) :
    sl.mislabelled timeValid f ↔
      (f.label.isSome && timeValid && f.label != some f.stamp && sl.state != .selected) = true := by
  cases h : f.label with
  | none => simp [Slot.mislabelled, h]
  | some l => simp [Slot.mislabelled, h, and_assoc, and_left_comm]

/-! ## The judgement, case by case -/

section
variable {r : Rmu} {n : SlotId} {c : Seconds} {tv : Bool} {f : ReportFields}

/-- Table 2-4, first case. -/
theorem Rmu.judgeReport_ignored (idle : (r.slots.get n).state.takes = false) :
    r.judgeReport n c tv f = .refused .ignored := by
  simp [Rmu.judgeReport, idle]

/-- Table 2-4, second case. -/
theorem Rmu.judgeReport_badValue (takes : (r.slots.get n).state.takes = true) (bad : reportOutOfRange f) :
    r.judgeReport n c tv f = .refused .badValue := by
  unfold reportOutOfRange at bad
  simp [Rmu.judgeReport, takes, bad]

/-- Table 2-4, third case. -/
theorem Rmu.judgeReport_early (takes : (r.slots.get n).state.takes = true) (good : ¬reportOutOfRange f)
    (shut : r.stampOpen c f.stamp = false) (after : liesAfter f.stamp c = true) :
    r.judgeReport n c tv f = .refused .early := by
  unfold reportOutOfRange at good
  simp [Rmu.judgeReport, takes, good, shut, after]

/-- Table 2-4, fourth case. -/
theorem Rmu.judgeReport_late (takes : (r.slots.get n).state.takes = true) (good : ¬reportOutOfRange f)
    (shut : r.stampOpen c f.stamp = false) (notAfter : liesAfter f.stamp c = false) :
    r.judgeReport n c tv f = .refused .late := by
  unfold reportOutOfRange at good
  simp [Rmu.judgeReport, takes, good, shut, notAfter]

/-- Table 2-4, fifth case. -/
theorem Rmu.judgeReport_full (takes : (r.slots.get n).state.takes = true) (good : ¬reportOutOfRange f)
    (opened : r.stampOpen c f.stamp = true) (full : 16 ≤ (entriesStamped f.stamp (r.slots.get n).queue).length) :
    r.judgeReport n c tv f = .refused .full := by
  unfold reportOutOfRange at good
  simp [Rmu.judgeReport, takes, good, opened, full]

/-- A report that no case of Table 2-4 refuses. -/
structure Rmu.PassesTable (r : Rmu) (n : SlotId) (c : Seconds) (f : ReportFields) : Prop where
  takes : (r.slots.get n).state.takes = true
  good : ¬reportOutOfRange f
  opened : r.stampOpen c f.stamp = true
  room : ¬16 ≤ (entriesStamped f.stamp (r.slots.get n).queue).length

/-- A report that passes Table 2-4 is judged in the steps of R29. -/
theorem Rmu.judgeReport_of_passes (pass : r.PassesTable n c f) :
    r.judgeReport n c tv f =
      if (r.slots.get n).gated (reportPhase (r.slots.get n) f) then .judged .gate
      else if f.label.isSome && tv && f.label != some f.stamp && (r.slots.get n).state != .selected then .judged .label
      else if f.quality.toNat = 7 then .judged .quality
      else .judged .entry := by
  obtain ⟨takes, good, opened, room⟩ := pass
  unfold reportOutOfRange at good
  simp only [Rmu.judgeReport, takes, opened, room, Bool.or_eq_true, decide_eq_true_eq, gt_iff_lt, good, Bool.not_true,
    Bool.false_and, Bool.false_eq_true, if_false]

/-- R29, first step. -/
theorem Rmu.judgeReport_gate (pass : r.PassesTable n c f)
    (gate : (r.slots.get n).gated (reportPhase (r.slots.get n) f) = true) :
    r.judgeReport n c tv f = .judged .gate := by
  rw [Rmu.judgeReport_of_passes pass, if_pos gate]

/-- R29, second step. -/
theorem Rmu.judgeReport_label (pass : r.PassesTable n c f)
    (gate : ¬(r.slots.get n).gated (reportPhase (r.slots.get n) f) = true)
    (label : (r.slots.get n).mislabelled tv f) :
    r.judgeReport n c tv f = .judged .label := by
  rw [Rmu.judgeReport_of_passes pass, if_neg gate, if_pos ((Slot.mislabelled_iff _ _ _).mp label)]

/-- R29, third step. -/
theorem Rmu.judgeReport_quality (pass : r.PassesTable n c f)
    (gate : ¬(r.slots.get n).gated (reportPhase (r.slots.get n) f) = true)
    (label : ¬(r.slots.get n).mislabelled tv f) (unusable : f.quality.toNat = 7) :
    r.judgeReport n c tv f = .judged .quality := by
  rw [Rmu.judgeReport_of_passes pass, if_neg gate, if_neg (mt (Slot.mislabelled_iff _ _ _).mpr label), if_pos unusable]

/-- R29, fourth step. -/
theorem Rmu.judgeReport_entry (pass : r.PassesTable n c f)
    (gate : ¬(r.slots.get n).gated (reportPhase (r.slots.get n) f) = true)
    (label : ¬(r.slots.get n).mislabelled tv f) (usable : f.quality.toNat ≠ 7) :
    r.judgeReport n c tv f = .judged .entry := by
  rw [Rmu.judgeReport_of_passes pass, if_neg gate, if_neg (mt (Slot.mislabelled_iff _ _ _).mpr label), if_neg usable]

end

/-! ## The command -/

section
variable {s : State} {p : Port} {tag : Word16} {f : ReportFields}

/-- From an attached tenant at a port that takes it, a report acts on its slot by its judgement, which also answers it. -/
theorem exec_reportPhase (h : s.takesAttached p) :
    exec (.reportPhase p tag f) s =
      .next ((s.actReport p f).1.beginResponse p codeReportPhase tag (s.actReport p f).2) :=
  congrArg Host.Outcome.next (State.takeRequest_of_attached h _ _ _ _ _)

/-- A refused report changes nothing but the port (R28). -/
theorem exec_reportPhase_refused (h : s.takesAttached p) {o : OutcomeCode}
    (refused : s.rmu.judgeReport (reportSlot p) s.tsg.seconds s.tsg.timeValid f = .refused o) :
    exec (.reportPhase p tag f) s = .next (s.beginResponse p codeReportPhase tag ⟨o, .report none⟩) := by
  rw [exec_reportPhase h]
  simp [State.actReport, refused, Slot.takeReport, Rmu.setSlot, ReportJudgement.answer]

/-- A judged report changes its slot by its disposition and is answered OK with it (R29). -/
theorem exec_reportPhase_judged (h : s.takesAttached p) {d : Disposition}
    (judged : s.rmu.judgeReport (reportSlot p) s.tsg.seconds s.tsg.timeValid f = .judged d) :
    exec (.reportPhase p tag f) s =
      .next
        ({ s with
            rmu := s.rmu.setSlot (reportSlot p) ((s.rmu.slots.get (reportSlot p)).takeReport f (.judged d)) }.beginResponse
          p codeReportPhase tag ⟨.ok, .report (some d)⟩) := by
  rw [exec_reportPhase h]
  simp only [State.actReport, judged, ReportJudgement.answer]

end

/-- Settles O51: each clause is the judgement's case of the same condition, and what that judgement does to the slot. -/
theorem reportIsJudged : Obligations.ReportIsJudged := by
  intro s p tag f h sl e used c isOpen after idle bad full gate label done mark run
  have takes_of (busy : ¬idle) : sl.state.takes = true := by
    rwa [← Bool.not_eq_false, SlotState.takes_eq_false_iff]
  have good_of (good : ¬bad) : ¬reportOutOfRange f := mt (reportOutOfRange_iff f).mp good
  have shut_of (shut : ¬isOpen) : s.rmu.stampOpen c f.stamp = false :=
    Bool.eq_false_iff.mpr (mt (s.rmu.stampOpen_iff c f.stamp).mp shut)
  have notAfter_of (notAfter : ¬after) : liesAfter f.stamp c = false :=
    Bool.eq_false_iff.mpr (mt (liesAfter_iff f.stamp c).mp notAfter)
  have ungated_of (ungated : ¬gate) : ¬sl.gated (reportPhase sl f) = true := mt (sl.gated_iff _).mp ungated
  refine ⟨rfl, ?ignored, ?badValue, ?early, ?late, ?full, ?judged⟩
  case ignored =>
    intro idle
    exact exec_reportPhase_refused h (Rmu.judgeReport_ignored ((SlotState.takes_eq_false_iff _).mpr idle))
  case badValue =>
    intro busy bad
    exact exec_reportPhase_refused h (Rmu.judgeReport_badValue (takes_of busy) ((reportOutOfRange_iff f).mpr bad))
  case early =>
    intro busy good shut after
    exact exec_reportPhase_refused h
      (Rmu.judgeReport_early (takes_of busy) (good_of good) (shut_of shut) ((liesAfter_iff _ _).mpr after))
  case late =>
    intro busy good shut notAfter
    exact exec_reportPhase_refused h
      (Rmu.judgeReport_late (takes_of busy) (good_of good) (shut_of shut) (notAfter_of notAfter))
  case full =>
    intro busy good opened full
    exact exec_reportPhase_refused h
      (Rmu.judgeReport_full (takes_of busy) (good_of good) ((Rmu.stampOpen_iff _ _ _).mpr opened) full)
  case judged =>
    intro busy good opened room
    have pass : s.rmu.PassesTable (reportSlot p) c f :=
      ⟨takes_of busy, good_of good, (Rmu.stampOpen_iff _ _ _).mpr opened, room⟩
    refine ⟨?gate, ?label, ?quality, ?entry⟩
    case gate =>
      intro gated
      exact exec_reportPhase_judged h (Rmu.judgeReport_gate pass ((sl.gated_iff _).mpr gated))
    case label =>
      intro ungated mislabelled
      exact exec_reportPhase_judged h (Rmu.judgeReport_label pass (ungated_of ungated) mislabelled)
    case quality =>
      intro ungated labelled unusable
      exact exec_reportPhase_judged h (Rmu.judgeReport_quality pass (ungated_of ungated) labelled unusable)
    case entry =>
      intro ungated labelled usable
      exact exec_reportPhase_judged h (Rmu.judgeReport_entry pass (ungated_of ungated) labelled usable)

end Sys2Proof.Machine
end

section
/-!
PROOFS. READ_TIME (R190), READ_CONFIG (R194) and READ_STATUS (R191, R209): what the response carries, and what the take leaves of
the sender's record, its acknowledged generation or its latches.
-/

namespace Sys2Proof.Machine

/-! ## The generation acknowledged (R138) -/

section
variable {s : State} {p : Port}

/-- An attached tenant acknowledges the current generation, and nothing else of the part changes. -/
theorem State.acknowledge_of_attached (h : s.attached p = true) :
    s.acknowledge p =
      { s with
        tru := { s.tru with tenants := s.tru.tenants.set p { s.tru.tenants.get p with ackGen := s.tru.generation } } } :=
  if_pos h

/-- A detached port acknowledges nothing. -/
theorem State.acknowledge_of_detached (h : ¬s.attached p = true) : s.acknowledge p = s :=
  if_neg h

end

/-! ## The latches armed (R209) -/

/-- Arming gives each latch-low the truth of its condition and clears both latch-highs. -/
theorem State.armedLatches_eq (s : State) (p : Port) :
    s.armedLatches p =
      { timeValid := s.tsg.timeValid, inTolerance := s.sde.tol.get p
        locked := decide (s.sde.clock = .locked), ovenSettled := decide (s.spm.oven = .settled)
        refFault := false, stepped := false } := by
  simp only [State.armedLatches, beq_eq_decide]

/-! ## The commands -/

section
variable {s : State} {p : Port} {tag : Word16}

/-- READ_TIME answers with the reading as it stands at the take, from an attached tenant and from a detached port. -/
theorem exec_readTime (h : s.takes p) :
    exec (.readTime p tag) s =
      .next ((s.acknowledge p).beginResponse p codeReadTime tag ⟨.ok, .time (s.timeReading p)⟩) :=
  congrArg Host.Outcome.next (State.takeRequest_of_may h _ _ _ _)

/-- READ_CONFIG answers with the reading as it stands at the take, from an attached tenant and from a detached port. -/
theorem exec_readConfig (h : s.takes p) :
    exec (.readConfig p tag) s =
      .next ((s.acknowledge p).beginResponse p codeReadConfig tag ⟨.ok, .config s.configReading⟩) :=
  congrArg Host.Outcome.next (State.takeRequest_of_may h _ _ _ _)

/-- READ_STATUS answers with the latches from before the arming that it does. -/
theorem exec_readStatus (h : s.takesAttached p) :
    exec (.readStatus p tag) s =
      .next ((s.armLatches p).beginResponse p codeReadStatus tag ⟨.ok, .status (s.statusReading p)⟩) :=
  congrArg Host.Outcome.next (State.takeRequest_of_attached h _ _ _ _ _)

end

/-- Settles O48: both reads leave the state that the acknowledgement leaves, which an attached tenant makes and a detached port
does not. -/
theorem timeAndConfigAreRead : Obligations.TimeAndConfigAreRead := by
  intro s p tag takes a
  have acknowledged : s.acknowledge p = a := by
    by_cases attached : s.attached p = true
    case pos => rw [State.acknowledge_of_attached attached]; exact (if_pos attached).symm
    case neg => rw [State.acknowledge_of_detached attached]; exact (if_neg attached).symm
  rw [← acknowledged]
  exact ⟨exec_readTime takes, exec_readConfig takes⟩

/-- Settles O49: the answer reads the state before the arming, and the arming sets the latches by their conditions. -/
theorem statusIsReadAndArmed : Obligations.StatusIsReadAndArmed := by
  intro s p tag attached
  rw [← State.armedLatches_eq s p]
  exact exec_readStatus attached

end Sys2Proof.Machine
end

section
/-!
PROOFS. Posting (R199 to R201): what the merge of two notices reports and counts, where a notice joins a set in kind order, and what
a posting leaves of a tenant by its frozen flag and mask.
-/

namespace Sys2Proof.Machine

/-! ## The merge of two notices (R200, Table 11-2) -/

/-- A slot of a union is named where either set names it. -/
@[simp] theorem slotUnion_get (a b : Six Bool) (n : SlotId) : (slotUnion a b).get n = (a.get n || b.get n) :=
  Six.get_mapIdx _ _ _

/-- An output of a union takes the newer state where the newer set names it. -/
theorem outputUnion_get (old new : Four (Option OutputState)) (o : OutId) :
    (outputUnion old new).get o = if (new.get o).isSome then new.get o else old.get o := by
  have either : (outputUnion old new).get o = (new.get o).or (old.get o) := Four.get_mapIdx _ _ _
  rw [either]
  cases new.get o with
  | none => rfl
  | some _ => rfl

/-- Outside the three kinds that merge by union, the newer report stands. -/
theorem Report.merge_of_not_union {old new : Report}
    (notDisqualified : ∀ a b, old = .refDisqualified a → new = .refDisqualified b → False)
    (notHalted : ∀ a b, old = .refHalted a → new = .refHalted b → False)
    (notSquelch : ∀ a b, old = .outputSquelch a → new = .outputSquelch b → False) :
    old.merge new = new := by
  unfold Report.merge
  split
  case h_1 a b => exact (notDisqualified a b rfl rfl).elim
  case h_2 a b => exact (notHalted a b rfl rfl).elim
  case h_3 a b => exact (notSquelch a b rfl rfl).elim
  case h_4 => rfl

/-- The counts of merged notices add up to at most 255. -/
theorem Notice.merge_count (old new : Notice) : (old.merge new).count = min 255 (old.count + new.count) :=
  rfl

/-! ## A set in kind order (R200) -/

section
variable {x : Notice} {before after : List Notice}

/-- The notices of lower kinds are passed over. -/
theorem fileNotice_append_of_lt (lower : ∀ m ∈ before, m.kind < x.kind) (rest : List Notice) :
    fileNotice x (before ++ rest) = before ++ fileNotice x rest := by
  induction before with
  | nil => rfl
  | cons m ms ih =>
    have hm : m.kind < x.kind := lower m List.mem_cons_self
    have below : fileNotice x (ms ++ rest) = ms ++ fileNotice x rest :=
      ih fun k hk => lower k (List.mem_cons_of_mem _ hk)
    rw [List.cons_append, fileNotice, if_neg (Nat.lt_asymm hm), if_neg (Nat.ne_of_gt hm), below, List.cons_append]

/-- A notice stands before those of higher kinds. -/
theorem fileNotice_of_lt (higher : ∀ m ∈ after, x.kind < m.kind) : fileNotice x after = x :: after := by
  cases after with
  | nil => rfl
  | cons m ms => exact if_pos (higher m List.mem_cons_self)

/-- A notice is merged into the one of its kind. -/
theorem fileNotice_cons_of_eq {y : Notice} (same : y.kind = x.kind) (rest : List Notice) :
    fileNotice x (y :: rest) = y.merge x :: rest := by
  rw [fileNotice, if_neg (same ▸ Nat.lt_irrefl _), if_pos same.symm]

end

/-! ## One tenant's filing (R201) -/

section
variable {n : TenantNotices} {r : Report}

/-- While frozen, a posting goes to the pending set, whatever the mask. -/
theorem TenantNotices.file_of_frozen (frozen : n.frozen = true) :
    n.file r = { n with pending := fileNotice ⟨r, 1⟩ n.pending } :=
  if_pos frozen

/-- While not frozen, a posting of an enabled kind goes to the notice set. -/
theorem TenantNotices.file_of_enabled (thawed : n.frozen = false) (enabled : n.mask.getLsbD r.kind = true) :
    n.file r = { n with notices := fileNotice ⟨r, 1⟩ n.notices } := by
  rw [TenantNotices.file, if_neg (Bool.eq_false_iff.mp thawed)]
  exact if_pos enabled

/-- While not frozen, a posting of a kind that is not enabled is forgotten. -/
theorem TenantNotices.file_of_masked (thawed : n.frozen = false) (masked : n.mask.getLsbD r.kind = false) :
    n.file r = n := by
  rw [TenantNotices.file, if_neg (Bool.eq_false_iff.mp thawed)]
  exact if_neg (Bool.eq_false_iff.mp masked)

end

section
variable {s : State} {named : Port → Bool} {r : Report} {p : Port}

/-- A posting reaches a named tenant that is attached (R199). -/
theorem State.post_get_of_reached (attached : s.attached p = true) (isNamed : named p = true) :
    (s.post named r).nu.get p = (s.nu.get p).file r := by
  simp [attached, isNamed]

/-- A posting leaves a tenant that is detached or not named as it was (R199). -/
theorem State.post_get_of_not_reached (h : s.attached p = false ∨ named p = false) :
    (s.post named r).nu.get p = s.nu.get p := by
  rw [State.post_get, if_neg (Bool.eq_false_iff.mp (Bool.and_eq_false_iff.mpr h))]

end

/-- Settles O40: the tenant's part goes by whether the posting reaches it, then by the frozen flag and the mask; a notice is filed past
the lower kinds, and the merge is read off by the pair of reports. -/
theorem postingIsFiled : Obligations.PostingIsFiled := by
  intro s named r p n n'
  refine ⟨State.post_get_of_not_reached, ?reached, ?set⟩
  case reached =>
    intro attached isNamed
    have filed : n' = n.file r := State.post_get_of_reached attached isNamed
    exact ⟨fun frozen => filed.trans (TenantNotices.file_of_frozen frozen),
      fun thawed enabled => filed.trans (TenantNotices.file_of_enabled thawed enabled),
      fun thawed masked => filed.trans (TenantNotices.file_of_masked thawed masked)⟩
  case set =>
    intro x before after lower
    constructor
    case left =>
      intro higher
      rw [fileNotice_append_of_lt lower, fileNotice_of_lt higher]
    case right =>
      intro y same
      have merged : fileNotice x (before ++ y :: after) = before ++ y.merge x :: after := by
        rw [fileNotice_append_of_lt lower, fileNotice_cons_of_eq same]
      refine ⟨y.merge x, merged, Notice.merge_count y x, ?report⟩
      have report : (y.merge x).report = y.report.merge x.report := rfl
      rw [report]
      split
      case h_1 a b hy hx => exact ⟨slotUnion a b, by rw [hy, hx, Report.merge], slotUnion_get a b⟩
      case h_2 a b hy hx => exact ⟨slotUnion a b, by rw [hy, hx, Report.merge], slotUnion_get a b⟩
      case h_3 a b hy hx => exact ⟨outputUnion a b, by rw [hy, hx, Report.merge], outputUnion_get a b⟩
      case h_4 notDisqualified notHalted notSquelch =>
        exact Report.merge_of_not_union notDisqualified notHalted notSquelch

end Sys2Proof.Machine
end

section
/-!
PROOFS. What a change of one block keeps: the ranges of the values block by block, the relation of two states under which every
invariant passes from the one to the other, and the change of each block in that relation.
-/

namespace Sys2Proof.Machine

/-! ## The ranges, block by block -/

/-- The settings and the counters of slot n lie in their ranges (Tables 7-5 and 2-1). -/
def Slot.InRange (n : SlotId) (sl : Slot) : Prop :=
  sl.settings.inRange n ∧ sl.faultCount ≤ 3 ∧ sl.emptyRun ≤ 65535 ∧ sl.holdOff ≤ 960 ∧ sl.streak ≤ 4 ∧
  sl.usableRun ≤ 3600 ∧ sl.qualifyCount ≤ 600 ∧ (sl.state = .qualifying → sl.qualifyCount < sl.settings.qualify) ∧
  (sl.faultCount = 3 → sl.state = .disqualified ∨ sl.state = .off)

/-- The values of the RMU lie in their ranges. -/
def Rmu.InRange (r : Rmu) : Prop := nominalInRange r.lfNominal ∧ ∀ n : SlotId, (r.slots.get n).InRange n

/-- The values of the SDE lie in their ranges (Tables 3-1 and 4-1). -/
def Sde.InRange (d : Sde) : Prop :=
  nominalInRange d.lfBasis ∧ -corrLimit ≤ d.fInt ∧ d.fInt ≤ corrLimit ∧ -corrLimit ≤ d.fAvg ∧ d.fAvg ≤ corrLimit ∧
  0 ≤ d.residual ∧ 0 ≤ d.wander ∧ d.lfCount ≤ 600 ∧ d.lockCount ≤ 16 ∧ d.lockLoss ≤ 4 ∧ d.labelMismatch ≤ 3 ∧
  d.bridgeRemaining ≤ 600

/-- Records of the SDE with the same corrections and averages, whose counts lie in their ranges. -/
theorem Sde.InRange.of_counts {d d' : Sde} (h : d.InRange)
    (same : (d'.lfBasis, d'.fInt, d'.fAvg, d'.residual, d'.wander, d'.lfCount) =
      (d.lfBasis, d.fInt, d.fAvg, d.residual, d.wander, d.lfCount))
    (lockCount : d'.lockCount ≤ 16) (lockLoss : d'.lockLoss ≤ 4) (labelMismatch : d'.labelMismatch ≤ 3)
    (bridge : d'.bridgeRemaining ≤ 600) : d'.InRange := by
  simp only [Prod.mk.injEq] at same
  obtain ⟨basis, fInt, fAvg, residual, wander, lfCount⟩ := same
  obtain ⟨h1, h2, h3, h4, h5, h6, h7, h8, -⟩ := h
  exact ⟨basis ▸ h1, fInt ▸ h2, fInt ▸ h3, fAvg ▸ h4, fAvg ▸ h5, residual ▸ h6, wander ▸ h7, lfCount ▸ h8, lockCount,
    lockLoss, labelMismatch, bridge⟩

section
variable {d : Sde}

theorem Sde.InRange.lockCount (h : d.InRange) : d.lockCount ≤ 16 := h.2.2.2.2.2.2.2.2.1
theorem Sde.InRange.lockLoss (h : d.InRange) : d.lockLoss ≤ 4 := h.2.2.2.2.2.2.2.2.2.1
theorem Sde.InRange.labelMismatch (h : d.InRange) : d.labelMismatch ≤ 3 := h.2.2.2.2.2.2.2.2.2.2.1
theorem Sde.InRange.bridge (h : d.InRange) : d.bridgeRemaining ≤ 600 := h.2.2.2.2.2.2.2.2.2.2.2

end

/-- The configurations that the OLS holds and its counts lie in their ranges (Table 5-1). -/
def Ols.InRange (o : Ols) : Prop :=
  (∀ w ∈ o.writing, w.content.config.inRange) ∧ (∀ r ∈ o.store, r.content.config.inRange) ∧ o.failures ≤ 10 ∧
  o.dayLocked ≤ 86400

/-- The fields of an advertisement lie in their ranges (Table 7-2). -/
def Advertisement.InRange (a : Advertisement) : Prop :=
  100000 ≤ a.limit ∧ a.limit ≤ 50000000 ∧ 1000 ≤ a.slew ∧ a.slew ≤ 10000000

/-- The limits of a policy lie in the ranges of the advertisements. -/
def Policy.InRange (p : Policy) : Prop :=
  100000 ≤ p.lCom ∧ p.lCom ≤ 50000000 ∧ 1000 ≤ p.sRes ∧ p.sRes ≤ 10000000

/-- The configuration, the advertisements and the policy lie in their ranges. -/
def Tru.InRange (u : Tru) : Prop :=
  u.config.inRange ∧ (∀ p : Port, (u.tenants.get p).adv.InRange) ∧ u.policy.InRange

/-- The counts of the oven lie in their ranges (Table 9-1). -/
def Spm.InRange (p : Spm) : Prop := p.warmUp ≤ 1800 ∧ p.soak ≤ 1800

/-- The ranges of the whole state are those of its blocks. -/
theorem State.valuesInRange_iff (s : State) :
    s.valuesInRange ↔
      s.timeInRange ∧ s.rmu.InRange ∧ s.sde.InRange ∧ s.ols.InRange ∧ s.tru.InRange ∧ s.spm.InRange := by
  constructor
  · rintro ⟨time, ⟨config, writing, store, settings, nominal, basis⟩, counts, i1, i2, a1, a2, r, w, c1, c2, c3, c4, c5,
      adv, p1, p2, p3, p4, f, d, wu, so⟩
    exact ⟨time, ⟨nominal, fun n => ⟨settings n, counts n⟩⟩, ⟨basis, i1, i2, a1, a2, r, w, c1, c2, c3, c4, c5⟩,
      ⟨writing, store, f, d⟩, ⟨config, adv, p1, p2, p3, p4⟩, wu, so⟩
  · rintro ⟨time, ⟨nominal, slots⟩, ⟨basis, i1, i2, a1, a2, r, w, c1, c2, c3, c4, c5⟩, ⟨writing, store, f, d⟩,
      ⟨config, adv, p1, p2, p3, p4⟩, wu, so⟩
    exact ⟨time, ⟨config, writing, store, fun n => (slots n).1, nominal, basis⟩, fun n => (slots n).2, i1, i2, a1, a2, r, w,
      c1, c2, c3, c4, c5, adv, p1, p2, p3, p4, f, d, wu, so⟩

section
variable {s : State}

theorem State.valuesInRange.time (h : s.valuesInRange) : s.timeInRange := (s.valuesInRange_iff.mp h).1
theorem State.valuesInRange.rmu (h : s.valuesInRange) : s.rmu.InRange := (s.valuesInRange_iff.mp h).2.1
theorem State.valuesInRange.sde (h : s.valuesInRange) : s.sde.InRange := (s.valuesInRange_iff.mp h).2.2.1
theorem State.valuesInRange.ols (h : s.valuesInRange) : s.ols.InRange := (s.valuesInRange_iff.mp h).2.2.2.1
theorem State.valuesInRange.tru (h : s.valuesInRange) : s.tru.InRange := (s.valuesInRange_iff.mp h).2.2.2.2.1
theorem State.valuesInRange.spm (h : s.valuesInRange) : s.spm.InRange := (s.valuesInRange_iff.mp h).2.2.2.2.2

end

/-! ## The other invariants, block by block -/

/-- The tenants of a set of ports are consistent: the invariant of the tenants, asked of these alone. A detach breaks it at
its tenant until the end of the detach. -/
def State.tenantsConsistentOn (A : Port → Prop) (s : State) : Prop :=
  ∀ t : Port, A t →
    (s.attached t = false →
      s.tru.tenants.get t = .detached ∧ s.nu.get t = .detached ∧ s.sde.tol.get t = false) ∧
    (s.attached t = true → s.inService = true)

theorem State.tenantsConsistent_iff (s : State) : s.tenantsConsistent ↔ s.tenantsConsistentOn fun _ => True :=
  ⟨fun h t _ => h t, fun h t => h t trivial⟩

/-- The notice state of one tenant is well formed (R200, R204). -/
def TenantNotices.Ok (n : TenantNotices) : Prop :=
  noticeSetOk n.notices ∧ noticeSetOk n.pending ∧ (n.frozen = false → n.pending = [])

/-- The rings that the OLS holds are well formed (R95, R98). -/
def Ols.RingsOk (o : Ols) : Prop :=
  dayRingOk o.ring ∧ (∀ w, o.writing = some w → dayRingOk w.content.ring) ∧ ∀ r, o.store = some r → dayRingOk r.content.ring

/-- No latch-low of l' stands at 1 that does not in l. -/
def Latches.LowsLe (l' l : Latches) : Prop :=
  (l'.timeValid = true → l.timeValid = true) ∧ (l'.inTolerance = true → l.inTolerance = true) ∧
  (l'.locked = true → l.locked = true) ∧ (l'.ovenSettled = true → l.ovenSettled = true)

theorem Latches.LowsLe.refl (l : Latches) : l.LowsLe l := ⟨id, id, id, id⟩

/-! ## Two states, the second of which keeps what the first has -/

/-- Every invariant but that of the selection, where it holds in s, holds in s'. -/
structure State.Keeps (s s' : State) : Prop where
  values : s.valuesInRange → s'.valuesInRange
  tenants : ∀ A, s.tenantsConsistentOn A → s'.tenantsConsistentOn A
  clock : s.clockConsistent → s'.clockConsistent
  notices : s.noticesConsistent → s'.noticesConsistent
  joint : s.jointConsistent → s'.jointConsistent
  quiet : s.quietOutOfService → s'.quietOutOfService
  days : s.daysConsistent → s'.daysConsistent
  latches : s.latchesConsistent → s'.latchesConsistent

/-- Every invariant that holds in s holds in s'. -/
structure State.KeepsAll (s s' : State) : Prop extends State.Keeps s s' where
  selection : s.selectionConsistent → s'.selectionConsistent

theorem State.Keeps.refl (s : State) : s.Keeps s := ⟨id, fun _ => id, id, id, id, id, id, id⟩

theorem State.Keeps.trans {s t u : State} (h : s.Keeps t) (h' : t.Keeps u) : s.Keeps u :=
  ⟨h'.values ∘ h.values, fun A => h'.tenants A ∘ h.tenants A, h'.clock ∘ h.clock, h'.notices ∘ h.notices,
    h'.joint ∘ h.joint, h'.quiet ∘ h.quiet, h'.days ∘ h.days, h'.latches ∘ h.latches⟩

theorem State.KeepsAll.refl (s : State) : s.KeepsAll s := ⟨.refl s, id⟩

theorem State.KeepsAll.trans {s t u : State} (h : s.KeepsAll t) (h' : t.KeepsAll u) : s.KeepsAll u :=
  ⟨h.toKeeps.trans h'.toKeeps, h'.selection ∘ h.selection⟩

/-! ## The change of one block -/

section
variable {s : State}

/-- The queue, the counter of free values and the input levels are read by no invariant. -/
theorem State.KeepsAll.outside (q : List Instr) (i : Nat) (p : Pins) :
    s.KeepsAll { s with pending := q, freeIndex := i, pins := p } :=
  ⟨⟨id, fun _ => id, id, id, id, id, id, id⟩, id⟩

/-- A change of site time that leaves the time-valid flag. -/
theorem State.KeepsAll.tsg (t : Tsg) (time : s.timeInRange → State.timeInRange { s with tsg := t })
    (valid : t.timeValid = s.tsg.timeValid) : s.KeepsAll { s with tsg := t } where
  values h := (State.valuesInRange_iff _).mpr ⟨time h.time, h.rmu, h.sde, h.ols, h.tru, h.spm⟩
  tenants _ := id
  clock h := ⟨fun c => ⟨valid.trans (h.1 c).1, (h.1 c).2⟩, fun c => valid.trans (h.2.1 c), h.2.2⟩
  notices := id
  joint := id
  quiet := id
  days := id
  latches h := State.latchesConsistent_of_le h (fun _ => id) valid.trans (fun _ => id) id id fun _ => Latches.LowsLe.refl _
  selection := id

/-- A change of the RMU. -/
theorem State.Keeps.rmu (r : Rmu) (range : s.valuesInRange → r.InRange) : s.Keeps { s with rmu := r } where
  values h := (State.valuesInRange_iff _).mpr ⟨h.time, range h, h.sde, h.ols, h.tru, h.spm⟩
  tenants _ := id
  clock := id
  notices := id
  joint := id
  quiet := id
  days := id
  latches := id

/-- The selection is read from the slots' states and the selected slot. -/
theorem State.selectionConsistent_of_states {s s' : State} (h : s.selectionConsistent)
    (selected : s'.sde.selected = s.sde.selected)
    (states : ∀ n : SlotId, (s'.rmu.slots.get n).state = (s.rmu.slots.get n).state) : s'.selectionConsistent :=
  ⟨fun n hn => selected.trans (h.1 n ((states n).symm.trans hn)), fun n hn => by
    rw [states n]; exact h.2 n (selected.symm.trans hn)⟩

/-- A change of the RMU that leaves the states of the slots. -/
theorem State.KeepsAll.rmu (r : Rmu) (range : s.valuesInRange → r.InRange)
    (states : ∀ n : SlotId, (r.slots.get n).state = (s.rmu.slots.get n).state) : s.KeepsAll { s with rmu := r } :=
  ⟨.rmu r range, fun h => State.selectionConsistent_of_states h rfl states⟩

/-- A change of the SDE that leaves the clock, E and the tolerance flags. -/
theorem State.Keeps.sde (d : Sde) (range : s.valuesInRange → d.InRange) (clock : d.clock = s.sde.clock)
    (e : d.e = s.sde.e) (tol : d.tol = s.sde.tol) : s.Keeps { s with sde := d } where
  values h := (State.valuesInRange_iff _).mpr ⟨h.time, h.rmu, range h, h.ols, h.tru, h.spm⟩
  tenants A h t a := ⟨fun detached => by rw [tol]; exact (h t a).1 detached, (h t a).2⟩
  clock h := by simpa only [State.clockConsistent, clock, e] using h
  notices := id
  joint := id
  quiet := id
  days := id
  latches h := State.latchesConsistent_of_le h (fun _ => id) id (fun _ => by rw [tol]; exact id)
    (by rw [clock]; exact id) id fun _ => Latches.LowsLe.refl _

/-- A change of the SDE that leaves the selected slot, the clock, E and the tolerance flags. -/
theorem State.KeepsAll.sde (d : Sde) (range : s.valuesInRange → d.InRange) (selected : d.selected = s.sde.selected)
    (clock : d.clock = s.sde.clock) (e : d.e = s.sde.e) (tol : d.tol = s.sde.tol) : s.KeepsAll { s with sde := d } :=
  ⟨.sde d range clock e tol, fun h => State.selectionConsistent_of_states h selected fun _ => rfl⟩

/-- A change of the OLS. -/
theorem State.KeepsAll.ols (o : Ols) (range : s.valuesInRange → o.InRange) (rings : s.daysConsistent → o.RingsOk) :
    s.KeepsAll { s with ols := o } where
  values h := (State.valuesInRange_iff _).mpr ⟨h.time, h.rmu, h.sde, range h, h.tru, h.spm⟩
  tenants _ := id
  clock := id
  notices := id
  joint := id
  quiet := id
  days := rings
  latches := id
  selection := id

/-- A change of the TRU that leaves who is attached and the records of the detached. -/
theorem State.KeepsAll.tru (u : Tru) (range : s.valuesInRange → u.InRange)
    (attached : ∀ t : Port, (u.tenants.get t).attached = s.attached t)
    (detached : ∀ t : Port, s.attached t = false → u.tenants.get t = s.tru.tenants.get t)
    (joint : s.jointConsistent → State.jointConsistent { s with tru := u }) : s.KeepsAll { s with tru := u } where
  values h := (State.valuesInRange_iff _).mpr ⟨h.time, h.rmu, h.sde, h.ols, range h, h.spm⟩
  tenants A h t a := by
    have same : State.attached { s with tru := u } t = s.attached t := attached t
    refine ⟨fun out => ?_, fun inn => (h t a).2 (same.symm.trans inn)⟩
    have out := same.symm.trans out
    exact ⟨(detached t out).trans ((h t a).1 out).1, ((h t a).1 out).2⟩
  clock := id
  notices := id
  joint := joint
  quiet := id
  days := id
  latches h := State.latchesConsistent_of_le h (fun t ha => (attached t).symm.trans ha) id (fun _ => id) id id
    fun _ => Latches.LowsLe.refl _
  selection := id

/-- A change of the notice states of attached tenants. -/
theorem State.KeepsAll.nu (v : Three TenantNotices)
    (detached : ∀ t : Port, s.attached t = false → v.get t = s.nu.get t)
    (ok : ∀ t : Port, (s.nu.get t).Ok → (v.get t).Ok)
    (latches : s.latchesConsistent → State.latchesConsistent { s with nu := v }) : s.KeepsAll { s with nu := v } where
  values := id
  tenants A h t a := by
    refine ⟨fun out => ?_, (h t a).2⟩
    obtain ⟨record, notices, tol⟩ := (h t a).1 out
    exact ⟨record, (detached t out).trans notices, tol⟩
  clock := id
  notices h t := ok t (h t)
  joint := id
  quiet := id
  days := id
  latches := latches
  selection := id

/-- A change of the notice states of attached tenants by which no latch-low rises. -/
theorem State.KeepsAll.nu_of_lows (v : Three TenantNotices)
    (detached : ∀ t : Port, s.attached t = false → v.get t = s.nu.get t)
    (ok : ∀ t : Port, (s.nu.get t).Ok → (v.get t).Ok)
    (lows : ∀ t : Port, (v.get t).latches.LowsLe (s.nu.get t).latches) : s.KeepsAll { s with nu := v } :=
  .nu v detached ok fun h => State.latchesConsistent_of_le h (fun _ => id) id (fun _ => id) id id lows

/-- A change of the outputs. -/
theorem State.KeepsAll.pou (v : Four Output)
    (low : s.inService = false → ∀ o : OutId, (s.pou.get o).pulseLeft = none → (v.get o).pulseLeft = none) :
    s.KeepsAll { s with pou := v } where
  values := id
  tenants _ := id
  clock := id
  notices := id
  joint := id
  quiet h out := ⟨fun o => low out o ((h out).1 o), (h out).2⟩
  days := id
  latches := id
  selection := id

/-- A change of the ports. -/
theorem State.KeepsAll.tpi (v : Three TenantPort)
    (idle : s.inService = false → ∀ t : Port, (s.tpi.get t).state = .idle ∧ (s.tpi.get t).overrun = false →
      (v.get t).state = .idle ∧ (v.get t).overrun = false) : s.KeepsAll { s with tpi := v } where
  values := id
  tenants _ := id
  clock := id
  notices := id
  joint := id
  quiet h out := ⟨(h out).1, fun t => idle out t ((h out).2 t)⟩
  days := id
  latches := id
  selection := id

/-- A change of the SPM that leaves the oven state. -/
theorem State.KeepsAll.spm (p : Spm) (range : s.valuesInRange → p.InRange) (oven : p.oven = s.spm.oven)
    (served : ∀ t : Port, s.attached t = true → s.inService = true → State.inService { s with spm := p } = true)
    (quiet : s.quietOutOfService → State.quietOutOfService { s with spm := p }) : s.KeepsAll { s with spm := p } where
  values h := (State.valuesInRange_iff _).mpr ⟨h.time, h.rmu, h.sde, h.ols, h.tru, range h⟩
  tenants _ h t a := ⟨(h t a).1, fun ha => served t ha ((h t a).2 ha)⟩
  clock := id
  notices := id
  joint := id
  quiet := quiet
  days := id
  latches h := State.latchesConsistent_of_le h (fun _ => id) id (fun _ => id) id oven.trans fun _ => Latches.LowsLe.refl _
  selection := id

end

end Sys2Proof.Machine
end

section
/-!
PROOFS. That the shared operations keep the invariants: postings, latches and the judgement of tolerance, the clock, site time, the
oven, the writer and the sensor.
-/

namespace Sys2Proof.Machine

/-! ## Notice sets (R200) -/

/-- A merge has the kind of the newer report. -/
theorem Report.merge_kind (old new : Report) : (old.merge new).kind = new.kind := by
  unfold Report.merge; split <;> rfl

/-- A notice filed makes the head of the set it joins, or leaves the head's kind there. -/
theorem fileNotice_kind_mem {x y : Notice} {ns : List Notice} (h : y ∈ fileNotice x ns) :
    y.kind = x.kind ∨ y ∈ ns := by
  induction ns with
  | nil => exact .inl (by rw [List.mem_singleton.mp h])
  | cons m ms ih =>
    rw [fileNotice] at h
    split at h
    next =>
      rcases List.mem_cons.mp h with rfl | h
      · exact .inl rfl
      · exact .inr h
    next =>
      split at h
      next same =>
        rcases List.mem_cons.mp h with rfl | h
        · exact .inl (Report.merge_kind m.report x.report)
        · exact .inr (List.mem_cons_of_mem _ h)
      next =>
        rcases List.mem_cons.mp h with rfl | h
        · exact .inr List.mem_cons_self
        · exact (ih h).imp_right (List.mem_cons_of_mem _)

/-- A notice filed keeps its set in kind order. -/
theorem fileNotice_pairwise (x : Notice) {ns : List Notice} (h : ns.Pairwise fun a b => a.kind < b.kind) :
    (fileNotice x ns).Pairwise fun a b => a.kind < b.kind := by
  induction ns with
  | nil => exact List.pairwise_singleton _ _
  | cons m ms ih =>
    obtain ⟨first, rest⟩ := List.pairwise_cons.mp h
    rw [fileNotice]
    split
    next below =>
      refine List.pairwise_cons.mpr ⟨fun y hy => ?_, h⟩
      rcases List.mem_cons.mp hy with rfl | hy
      · exact below
      · exact below.trans (first y hy)
    next =>
      split
      next same =>
        have kind : (m.merge x).kind = m.kind := (Report.merge_kind m.report x.report).trans same
        exact List.pairwise_cons.mpr ⟨fun y hy => kind ▸ first y hy, rest⟩
      next above other =>
        refine List.pairwise_cons.mpr ⟨fun y hy => ?_, ih rest⟩
        rcases fileNotice_kind_mem hy with same | hy
        · omega
        · exact first y hy

/-- A notice filed with a count of 1 to 255 keeps its set well formed. -/
theorem noticeSetOk_fileNotice {x : Notice} {ns : List Notice} (h : noticeSetOk ns) (one : 1 ≤ x.count)
    (most : x.count ≤ 255) : noticeSetOk (fileNotice x ns) := by
  refine ⟨fileNotice_pairwise x h.1, ?_⟩
  have counts := h.2
  clear h
  induction ns with
  | nil => intro y hy; rw [List.mem_singleton.mp hy]; exact ⟨one, most⟩
  | cons m ms ih =>
    have countM := counts m List.mem_cons_self
    have countRest := fun y hy => counts y (List.mem_cons_of_mem m hy)
    intro y hy
    rw [fileNotice] at hy
    split at hy
    next =>
      rcases List.mem_cons.mp hy with rfl | hy
      · exact ⟨one, most⟩
      · exact counts y hy
    next =>
      split at hy
      next =>
        rcases List.mem_cons.mp hy with rfl | hy
        · rw [Notice.merge_count]; omega
        · exact countRest y hy
      next =>
        rcases List.mem_cons.mp hy with rfl | hy
        · exact countM
        · exact ih countRest y hy

/-- A filing keeps a notice state well formed. -/
theorem TenantNotices.Ok.file {n : TenantNotices} (h : n.Ok) (r : Report) : (n.file r).Ok := by
  obtain ⟨notices, pending, frozen⟩ := h
  unfold TenantNotices.file
  split
  next hf => exact ⟨notices, noticeSetOk_fileNotice pending (Nat.le_refl 1) (by simp), fun h => by simp_all⟩
  next =>
    split
    · exact ⟨noticeSetOk_fileNotice notices (Nat.le_refl 1) (by simp), pending, frozen⟩
    · exact ⟨notices, pending, frozen⟩

/-! ## Postings and latches -/

section
variable {s : State}

theorem State.post_keeps (named : Port → Bool) (r : Report) : s.KeepsAll (s.post named r) := by
  refine .nu_of_lows _ (fun t out => ?_) (fun t ok => ?_) fun t => ?_
  · exact (State.post_get named r s t).trans (by simp [out])
  · rw [Three.get_mapIdx]; split
    · exact ok.file r
    · exact ok
  · rw [Three.get_mapIdx]; split
    · rw [TenantNotices.file_latches]; exact .refl _
    · exact .refl _

theorem State.postAll_keeps (r : Report) : s.KeepsAll (s.postAll r) := State.post_keeps _ r

theorem State.postTo_keeps (t : Port) (r : Report) : s.KeepsAll (s.postTo t r) := State.post_keeps _ r

/-- A change of the latches of attached tenants alone, by which no latch-low rises. -/
theorem State.keeps_of_latches (f : Port → Latches → Latches) (lows : ∀ t l, (f t l).LowsLe l) :
    s.KeepsAll
      { s with nu := s.nu.mapIdx fun t n => if s.attached t then { n with latches := f t n.latches } else n } := by
  refine .nu_of_lows _ (fun t out => ?_) (fun t ok => ?_) fun t => ?_
  · rw [Three.get_mapIdx, if_neg (Bool.eq_false_iff.mp out)]
  · rw [Three.get_mapIdx]; split <;> exact ok
  · rw [Three.get_mapIdx]; split
    · exact lows t _
    · exact .refl _

theorem State.latchRefFault_keeps : s.KeepsAll s.latchRefFault :=
  State.keeps_of_latches (fun _ l => { l with refFault := true }) fun _ _ => ⟨id, id, id, id⟩

theorem State.latchStepped_keeps : s.KeepsAll s.latchStepped :=
  State.keeps_of_latches (fun _ l => { l with stepped := true }) fun _ _ => ⟨id, id, id, id⟩

/-- Following only lets latch-lows fall. -/
theorem Latches.follow_lowsLe (l now : Latches) : (l.follow now).LowsLe l := by
  simp only [Latches.follow, Latches.LowsLe, Bool.and_eq_true]
  exact ⟨And.left, And.left, And.left, And.left⟩

theorem State.watchLatches_keeps : s.KeepsAll s.watchLatches :=
  State.keeps_of_latches (fun t l => l.follow (s.armedLatches t)) fun _ _ => Latches.follow_lowsLe _ _

theorem State.armLatches_keeps {t : Port} (attached : s.attached t = true) : s.KeepsAll (s.armLatches t) := by
  refine .nu _ (fun u out => ?_) (fun u ok => ?_) fun h u hu => ?_
  · exact Three.get_set_ne _ _ fun same => by simp [same, attached] at out
  · rw [Three.get_set]; split
    next same => exact same ▸ ok
    · exact ok
  · show State.latchesConsistent (s.armLatches t) |> fun _ => _
    rw [Three.get_set]; split
    next same =>
      subst same
      exact ⟨id, id, fun h => by simpa [State.armedLatches] using h, fun h => by simpa [State.armedLatches] using h⟩
    · exact h u hu

/-! ## Changes that the latches follow -/

/-- A change of the SDE that leaves the flags of detached tenants, followed by the latches. -/
theorem State.Keeps.watchedSde (d : Sde) (range : s.valuesInRange → d.InRange)
    (clock : s.clockConsistent → State.clockConsistent { s with sde := d })
    (tol : ∀ t : Port, s.attached t = false → d.tol.get t = s.sde.tol.get t) :
    s.Keeps (State.watchLatches { s with sde := d }) where
  values h := (State.valuesInRange_iff _).mpr ⟨h.time, h.rmu, range h, h.ols, h.tru, h.spm⟩
  tenants A h := (State.watchLatches_keeps (s := { s with sde := d })).tenants A fun t a =>
    ⟨fun out => ⟨((h t a).1 out).1, ((h t a).1 out).2.1, (tol t out).trans ((h t a).1 out).2.2⟩, (h t a).2⟩
  clock := clock
  notices h := (State.watchLatches_keeps (s := { s with sde := d })).notices h
  joint := id
  quiet := id
  days := id
  latches _ := State.watchLatches_consistent _

/-- A change of the SDE that leaves the selected slot and the flags of detached tenants, followed by the latches. -/
theorem State.KeepsAll.watchedSde (d : Sde) (range : s.valuesInRange → d.InRange)
    (selected : d.selected = s.sde.selected)
    (clock : s.clockConsistent → State.clockConsistent { s with sde := d })
    (tol : ∀ t : Port, s.attached t = false → d.tol.get t = s.sde.tol.get t) :
    s.KeepsAll (State.watchLatches { s with sde := d }) :=
  ⟨.watchedSde d range clock tol, fun h => State.selectionConsistent_of_states h selected fun _ => rfl⟩

/-- A change of the oven, followed by the latches. -/
theorem State.KeepsAll.watchedSpm (p : Spm) (range : s.valuesInRange → p.InRange)
    (service : State.inService { s with spm := p } = s.inService) :
    s.KeepsAll (State.watchLatches { s with spm := p }) where
  values h := (State.valuesInRange_iff _).mpr ⟨h.time, h.rmu, h.sde, h.ols, h.tru, range h⟩
  tenants A h := (State.watchLatches_keeps (s := { s with spm := p })).tenants A fun t a =>
    ⟨(h t a).1, fun ha => service.trans ((h t a).2 ha)⟩
  clock := id
  notices h := (State.watchLatches_keeps (s := { s with spm := p })).notices h
  joint := id
  quiet h out := h (service.symm.trans out)
  days := id
  latches _ := State.watchLatches_consistent _
  selection := id

/-! ## Tolerance and E -/

theorem State.judgeTenant_keeps (t : Port) : s.KeepsAll (s.judgeTenant t) := by
  unfold State.judgeTenant
  split
  · exact .refl s
  next h =>
    have attached : s.attached t = true := by simp at h; exact h.1
    refine State.KeepsAll.trans ?_ (State.postTo_keeps t _)
    refine State.KeepsAll.watchedSde _ ?_ rfl ?_ fun u out => ?_
    · exact fun h => h.sde
    · exact id
    · exact Three.get_set_ne _ _ fun same => by simp [same, attached] at out

theorem State.judgeAll_keeps : s.KeepsAll s.judgeAll :=
  ((State.judgeTenant_keeps 0).trans (State.judgeTenant_keeps 1)).trans (State.judgeTenant_keeps 2)

/-- E may be put to any value up to its cap, and in FREERUN only to the cap. -/
theorem State.putE_keeps (e : Int) (cap : e ≤ eCap) (free : s.sde.clock = .freerun → e = eCap) :
    s.KeepsAll { s with sde := { s.sde with e := e } } where
  values := id
  tenants _ := id
  clock h := ⟨fun c => ⟨(h.1 c).1, free c⟩, h.2.1, cap⟩
  notices := id
  joint := id
  quiet := id
  days := id
  latches := id
  selection := id

/-- E may be set to anything outside FREERUN. -/
theorem State.setE_keeps (e : Int) (free : s.sde.clock = .freerun → eCap ≤ e) : s.KeepsAll (s.setE e) :=
  (State.putE_keeps (min e eCap) (min_le_right _ _) fun c => min_eq_right (free c)).trans State.judgeAll_keeps

/-! ## The clock -/

/-- The clock may enter FREERUN with time not valid and E at its cap, and the states of valid time with time valid. -/
theorem State.enterClock_keeps (c : ClockState) (free : c = .freerun → s.tsg.timeValid = false ∧ s.sde.e = eCap)
    (valid : s.clockConsistent → c = .locked ∨ c = .bridge ∨ c = .holdover → s.tsg.timeValid = true) :
    s.KeepsAll (s.enterClock c) := by
  unfold State.enterClock
  split
  · exact .refl s
  · refine State.KeepsAll.trans ?_ (State.postAll_keeps _)
    exact .watchedSde _ (fun h => h.sde) rfl (fun h => ⟨free, valid h, h.2.2⟩) fun _ _ => rfl

/-- Entering a clock state does not read E. -/
theorem State.enterClock_putE (c : ClockState) (e : Int) (s : State) :
    State.enterClock c { s with sde := { s.sde with e := e } } =
      { s.enterClock c with sde := { (s.enterClock c).sde with e := e } } := by
  unfold State.enterClock; dsimp only; split <;> rfl

theorem State.enterFreerun_keeps (invalid : s.tsg.timeValid = false) : s.KeepsAll s.enterFreerun := by
  have reordered : s.enterFreerun =
      (State.enterClock .freerun { s with sde := { s.sde with e := eCap } }).judgeAll := by
    rw [State.enterClock_putE]; rfl
  rw [reordered]
  refine ((State.putE_keeps eCap (le_refl _) fun _ => rfl).trans ?_).trans State.judgeAll_keeps
  exact State.enterClock_keeps _ (fun _ => ⟨invalid, rfl⟩) (by simp)

/-- An anchor is a record of the SDE that no invariant reads. -/
theorem State.takeAnchor_keeps (f : Int) : s.KeepsAll (s.takeAnchor f) :=
  .sde _ (fun h => h.sde) rfl rfl rfl rfl

theorem clampTo_bounds {lo hi : Int} (h : lo ≤ hi) (x : Int) : lo ≤ clampTo lo hi x ∧ clampTo lo hi x ≤ hi := by
  unfold clampTo; omega

theorem clampCorr_bounds (f : Int) : -corrLimit ≤ clampCorr f ∧ clampCorr f ≤ corrLimit :=
  clampTo_bounds (by decide) f

theorem State.orderFApp_keeps (f : Int) : s.KeepsAll (s.orderFApp f) :=
  .tsg _ (fun h => ⟨h.1, h.2.1, clampCorr_bounds f⟩) rfl

/-- The clock after it enters a state. -/
@[simp] theorem State.enterClock_clock (c : ClockState) (s : State) : (s.enterClock c).sde.clock = c := by
  unfold State.enterClock; split
  next h => exact h.symm
  · rfl

/-- HOLDOVER may be entered while time is valid. -/
theorem State.enterHoldover_keeps (valid : s.clockConsistent → s.tsg.timeValid = true) : s.KeepsAll s.enterHoldover := by
  have cleared : s.KeepsAll { s with sde := { s.sde with decisionPending := false, bridgeRemaining := 0 } } :=
    .sde _ (fun h => h.sde.of_counts rfl h.sde.lockCount h.sde.lockLoss h.sde.labelMismatch (Nat.zero_le _)) rfl rfl rfl rfl
  have entered := cleared.trans (State.enterClock_keeps .holdover (by simp) fun h _ => valid h)
  unfold State.enterHoldover
  dsimp only
  split
  · exact entered.trans (State.takeAnchor_keeps _)
  · exact (entered.trans (State.takeAnchor_keeps _)).trans (State.setE_keeps _ (by simp))

/-- BRIDGE may be entered while time is valid. -/
theorem State.enterBridge_keeps (valid : s.clockConsistent → s.tsg.timeValid = true) : s.KeepsAll s.enterBridge := by
  have bridged : s.KeepsAll
      { s with sde := { s.sde with decisionPending := false, bridgeRemaining := s.tru.config.bridgeTime } } := by
    refine .sde _ (fun h => ?_) rfl rfl rfl rfl
    have time : s.tru.config.bridgeTime ≤ 600 := by have := h.tru.1; simp only [SiteConfig.inRange] at this; omega
    exact h.sde.of_counts rfl h.sde.lockCount h.sde.lockLoss h.sde.labelMismatch time
  have entered := bridged.trans (State.enterClock_keeps .bridge (by simp) fun h _ => valid h)
  exact ((entered.trans (State.orderFApp_keeps _)).trans (State.takeAnchor_keeps _)).trans
    (State.setE_keeps _ (by simp))

/-! ## Site time -/

/-- A move of site time with what it does to the outputs. -/
theorem State.KeepsAll.tsg_pou {s' : State} (t : Tsg) (v : Four Output) (h : s' = { s with tsg := t, pou := v })
    (time : s.timeInRange → s'.timeInRange) (valid : s'.tsg.timeValid = s.tsg.timeValid)
    (low : ∀ o : OutId, (s.pou.get o).pulseLeft = none → (s'.pou.get o).pulseLeft = none) : s.KeepsAll s' := by
  subst h
  exact (State.KeepsAll.tsg t time valid).trans (.pou (s := { s with tsg := t }) v fun _ => low)

theorem State.advanceCycles_keeps (n : Nat) : s.KeepsAll (s.advanceCycles n) := by
  obtain ⟨t, v, shape⟩ := s.advanceCycles_shape n
  refine .tsg_pou t v shape (State.advanceCycles_timeInRange n) (State.advanceCycles_timeValid n s) fun o low => ?_
  rw [State.advanceCycles_pou, Four.get_mapIdx, Output.advance_pulseLeft, low, Option.map_none]

theorem State.advanceToPhase_keeps (ps : Nat) : s.KeepsAll (s.advanceToPhase ps) := State.advanceCycles_keeps _

/-- Site time stays in its ranges over the end of a second. -/
theorem State.passSecond_timeInRange (h : s.timeInRange) : s.passSecond.timeInRange := by
  have bound : s.passSecond.tsg.position < unitsPerSecond := by
    have := (State.passSecond_spec h).2
    have := (State.cycleAdvance_bounds h).2
    have hu : unitsPerSecond = 20000000000000000000 := by decide
    omega
  obtain ⟨u, hu⟩ := s.passSecond_tsg_shape
  have inSecond : u < unitsPerSecond := by
    rw [hu, show Tsg.position { s.tsg.atPosition u with seconds := s.tsg.seconds + 1 } = (s.tsg.atPosition u).position
      from rfl, Tsg.position_atPosition] at bound
    exact bound
  have range := Tsg.atPosition_inRange s.tsg inSecond
  unfold State.timeInRange
  rw [hu]
  exact ⟨range.1, range.2, h.2.2⟩

theorem State.passSecond_keeps : s.KeepsAll s.passSecond := by
  obtain ⟨t, v, shape⟩ := s.passSecond_shape
  refine .tsg_pou t v shape State.passSecond_timeInRange s.passSecond_timeValid fun o low => ?_
  rw [State.passSecond_pou, Four.get_mapIdx, Output.elapse, low, Option.map_none]

/-- A step within its limit leaves the phase in the second. -/
theorem Tsg.step_phase {t : Tsg} {d : Int} (h : t.phase < psPerSecond) (low : -(psPerSecond : Int) < d)
    (high : d < psPerSecond) : (t.step d).phase < psPerSecond := by
  unfold Tsg.step
  have hp : psPerSecond = 1000000000000 := rfl
  simp only [hp] at *
  split
  · dsimp only; omega
  · split
    · dsimp only; omega
    · dsimp only; omega

/-- A step changes of the TSG the phase, the seconds count and the re-run flag alone. -/
theorem Tsg.step_frame (t : Tsg) (d : Int) :
    (t.step d).frac = t.frac ∧ (t.step d).fApp = t.fApp ∧ (t.step d).timeValid = t.timeValid := by
  unfold Tsg.step
  dsimp only
  split
  · exact ⟨rfl, rfl, rfl⟩
  · split <;> exact ⟨rfl, rfl, rfl⟩

theorem limitStep_bounds (d : Int) : -499999999999 ≤ limitStep d ∧ limitStep d ≤ 499999999999 :=
  clampTo_bounds (by decide) d

/-- A slot with the state, the counters and the settings of another has its ranges. -/
theorem Slot.InRange.congr {n : SlotId} {sl sl' : Slot} (h : sl.InRange n)
    (same : (sl'.settings, sl'.faultCount, sl'.emptyRun, sl'.holdOff, sl'.streak, sl'.usableRun, sl'.qualifyCount, sl'.state) =
      (sl.settings, sl.faultCount, sl.emptyRun, sl.holdOff, sl.streak, sl.usableRun, sl.qualifyCount, sl.state)) :
    sl'.InRange n := by
  simp only [Prod.mk.injEq] at same
  obtain ⟨h1, h2, h3, h4, h5, h6, h7, h8⟩ := same
  unfold Slot.InRange
  rw [h1, h2, h3, h4, h5, h6, h7, h8]
  exact h

/-- A change of held values, queues and tallies alone. -/
theorem State.keeps_of_slots (r : Rmu) (nominal : r.lfNominal = s.rmu.lfNominal)
    (same : ∀ n : SlotId,
      let sl := s.rmu.slots.get n
      let sl' := r.slots.get n
      (sl'.settings, sl'.faultCount, sl'.emptyRun, sl'.holdOff, sl'.streak, sl'.usableRun, sl'.qualifyCount, sl'.state) =
        (sl.settings, sl.faultCount, sl.emptyRun, sl.holdOff, sl.streak, sl.usableRun, sl.qualifyCount, sl.state)) :
    s.KeepsAll { s with rmu := r } := by
  refine .rmu r (fun h => ⟨by rw [nominal]; exact h.rmu.1, fun n => (h.rmu.2 n).congr (same n)⟩) fun n => ?_
  have := same n
  simp only [Prod.mk.injEq] at this
  exact this.2.2.2.2.2.2.2

theorem State.applyStep_keeps (d : Int) : s.KeepsAll (s.applyStep d) := by
  have bounds := limitStep_bounds d
  obtain ⟨frac, fApp, valid⟩ := Tsg.step_frame s.tsg (limitStep d)
  have time : s.KeepsAll { s with tsg := s.tsg.step (limitStep d) } := by
    refine .tsg _ (fun h => ?_) valid
    refine ⟨Tsg.step_phase h.1 ?_ ?_, frac.symm ▸ h.2.1, ?_⟩
    · have : (psPerSecond : Int) = 1000000000000 := rfl
      omega
    · have : (psPerSecond : Int) = 1000000000000 := rfl
      omega
    · show -corrLimit ≤ (s.tsg.step (limitStep d)).fApp ∧ (s.tsg.step (limitStep d)).fApp ≤ corrLimit
      rw [fApp]; exact h.2.2
  refine time.trans (State.keeps_of_slots (s := { s with tsg := s.tsg.step (limitStep d) }) _ rfl fun n => ?_)
  dsimp only
  rw [Six.get_mapIdx]
  split <;> rfl

theorem State.applySet_keeps (v : Seconds) : s.KeepsAll (s.applySet v) := by
  have time : s.KeepsAll { s with tsg := { s.tsg with seconds := v } } := .tsg _ id rfl
  have renumbered := time.trans (State.keeps_of_slots (s := { s with tsg := { s.tsg with seconds := v } })
    (s.applySet v).rmu rfl fun n => by
      dsimp only
      rw [show (s.applySet v).rmu.slots = s.rmu.slots.mapIdx fun _ sl => sl.renumber (v - s.tsg.seconds) from rfl,
        Six.get_mapIdx]
      rfl)
  refine renumbered.trans (.ols (s := { s with tsg := { s.tsg with seconds := v }, rmu := (s.applySet v).rmu }) _ ?_ ?_)
  · intro h
    split
    · exact h.ols
    · exact ⟨h.ols.1, h.ols.2.1, h.ols.2.2.1, Nat.zero_le _⟩
  · intro h
    split <;> exact h

end

end Sys2Proof.Machine
end

section
/-!
PROOFS. That the writer, the sensor, the oven, the resolution and the observations of the references keep the invariants.
-/

namespace Sys2Proof.Machine

section
variable {s : State}

/-! ## The writer (R98 to R101) -/

theorem State.startWrite_keeps : s.KeepsAll s.startWrite := by
  refine .ols _ (fun h => ⟨fun w hw => ?_, h.ols.2⟩) fun h => ⟨h.1, fun w hw => ?_, h.2.2⟩
  · obtain rfl := Option.mem_some_iff.mp hw; exact h.tru.1
  · obtain rfl := Option.some.inj hw; exact h.1

/-- The writer's flags are read by no invariant. -/
theorem State.writerFlags_keeps (rewrite retry : Bool) (last : WriteResult) :
    s.KeepsAll { s with ols := { s.ols with rewritePending := rewrite, retryDue := retry, lastWrite := last } } :=
  .ols _ (fun h => h.ols) id

theorem State.requestWrite_keeps : s.KeepsAll s.requestWrite := by
  unfold State.requestWrite
  split
  · exact State.startWrite_keeps
  · exact State.writerFlags_keeps true s.ols.retryDue s.ols.lastWrite

/-- The stored copy with its integrity word made invalid keeps its content. -/
theorem State.invalidate_keeps : s.KeepsAll { s with ols := { s.ols with store := s.ols.store.map (·.invalidated) } } := by
  refine .ols _ (fun h => ⟨h.ols.1, fun r hr => ?_, h.ols.2.2⟩) fun h => ⟨h.1, h.2.1, fun r hr => ?_⟩
  · obtain ⟨q, hq, rfl⟩ := Option.map_eq_some_iff.mp hr; exact h.ols.2.1 q hq
  · obtain ⟨q, hq, rfl⟩ := Option.map_eq_some_iff.mp hr; exact h.2.2 q hq

/-- The stored copy takes the content of the write in progress. -/
theorem State.storeWritten_keeps {w : RetainedWrite} (writing : s.ols.writing = some w) {r : StoredRecord}
    (content : r.content = w.content) : s.KeepsAll { s with ols := { s.ols with store := some r } } := by
  refine .ols _ (fun h => ⟨h.ols.1, fun q hq => ?_, h.ols.2.2⟩) fun h => ⟨h.1, h.2.1, fun q hq => ?_⟩
  · obtain rfl := Option.mem_some_iff.mp hq; rw [content]; exact h.ols.1 w writing
  · obtain rfl := Option.some.inj hq; rw [content]; exact h.2.1 w writing

/-- A write in progress goes to another phase. -/
theorem State.writePhase_keeps {w : RetainedWrite} (writing : s.ols.writing = some w) (p : WritePhase) :
    s.KeepsAll { s with ols := { s.ols with writing := some { w with phase := p } } } := by
  refine .ols _ (fun h => ⟨fun q hq => ?_, h.ols.2⟩) fun h => ⟨h.1, fun q hq => ?_, h.2.2⟩
  · obtain rfl := Option.mem_some_iff.mp hq; exact h.ols.1 w writing
  · obtain rfl := Option.some.inj hq; exact h.2.1 w writing

/-- The writer becomes IDLE. -/
theorem State.writerIdle_keeps : s.KeepsAll { s with ols := { s.ols with writing := none } } :=
  .ols _ (fun h => ⟨by simp, h.ols.2⟩) fun h => ⟨h.1, by simp, h.2.2⟩

theorem State.afterWrite_keeps (failed : Bool) : s.KeepsAll (s.afterWrite failed) := by
  unfold State.afterWrite
  split
  · exact (State.writerFlags_keeps false false s.ols.lastWrite).trans State.startWrite_keeps
  · split
    · exact (State.writerFlags_keeps s.ols.rewritePending true s.ols.lastWrite).trans State.startWrite_keeps
    · exact State.writerIdle_keeps.trans (State.writerFlags_keeps _ false _)

theorem State.storeReports_keeps {w : RetainedWrite} (writing : s.ols.writing = some w) (r : StoreResult) :
    s.KeepsAll (s.storeReports w r) := by
  have completed : s.KeepsAll (State.afterWrite false (s.writeOk w.content)) :=
    ((State.storeWritten_keeps writing (r := w.content.record) rfl).trans (State.writerFlags_keeps _ _ .ok)).trans
      (State.afterWrite_keeps false)
  cases r with
  | ok => exact completed
  | failed =>
    exact ((State.invalidate_keeps.trans (State.writerFlags_keeps _ _ .failed)).trans (State.postAll_keeps _)).trans
      (State.afterWrite_keeps true)
  | phaseWritten =>
    simp only [State.storeReports, State.endWritePhase]
    split
    · exact State.invalidate_keeps.trans
        (State.writePhase_keeps (s := { s with ols := { s.ols with store := s.ols.store.map (·.invalidated) } }) writing _)
    · exact (State.storeWritten_keeps writing (r := w.content.record.invalidated) rfl).trans
        (State.writePhase_keeps
          (s := { s with ols := { s.ols with store := some w.content.record.invalidated } }) writing _)
    · exact completed

/-! ## The sensor (R87 to R89) -/

theorem State.validSample_keeps (θ : Int) : s.KeepsAll (s.validSample θ) := by
  have taken : ∀ smoothed : Int, s.KeepsAll
      { s with ols := { s.ols with lastSample := some θ, failures := 0, theta := some smoothed, sensorFault := false } } :=
    fun _ => .ols _ (fun h => ⟨h.ols.1, h.ols.2.1, Nat.zero_le _, h.ols.2.2.2⟩) id
  unfold State.validSample
  dsimp only
  split
  · exact (taken _).trans (State.postAll_keeps _)
  · exact taken _

theorem State.failedSample_keeps : s.KeepsAll s.failedSample := by
  have counted : ∀ fault : Bool, s.KeepsAll
      { s with ols := { s.ols with failures := satAdd 10 s.ols.failures 1, sensorFault := fault } } :=
    fun _ => .ols _ (fun h => ⟨h.ols.1, h.ols.2.1, Nat.min_le_left _ _, h.ols.2.2.2⟩) id
  unfold State.failedSample
  dsimp only
  split
  · exact (counted true).trans (State.postAll_keeps _)
  · exact counted s.ols.sensorFault

theorem State.endRead_keeps (r : SensorResult) : s.KeepsAll (s.endRead r) := by
  unfold State.endRead
  split
  · exact State.failedSample_keeps
  · split
    · exact State.validSample_keeps _
    · exact State.failedSample_keeps

/-- The sensor's reading flag is read by no invariant. -/
theorem State.reading_keeps (b : Bool) : s.KeepsAll { s with ols := { s.ols with reading := b } } :=
  .ols _ (fun h => h.ols) id

theorem State.startRead_keeps : s.KeepsAll s.startRead := by
  unfold State.startRead
  dsimp only
  split
  · exact State.failedSample_keeps.trans (State.reading_keeps true)
  · exact State.reading_keeps true

/-! ## The oven (R174) -/

theorem State.postOven_keeps : s.KeepsAll s.postOven := State.postAll_keeps _

/-- A change of the oven's own record, followed by the latches and posted. -/
theorem State.oven_keeps (oven : OvenState) (warmUp soak : Nat) (fault : Bool) (bound : warmUp ≤ 1800)
    (bound' : s.spm.InRange → soak ≤ 1800) :
    s.KeepsAll
      (State.postOven (State.watchLatches
        { s with spm := { s.spm with oven := oven, warmUp := warmUp, soak := soak, ovenFault := fault } })) := by
  refine State.KeepsAll.trans ?_ State.postOven_keeps
  exact .watchedSpm _ (fun h => ⟨bound, bound' h.spm⟩) rfl

theorem State.ovenSettles_keeps : s.KeepsAll s.ovenSettles :=
  State.oven_keeps .settled 0 1800 false (by decide) fun _ => le_refl _

theorem State.ovenLoses_keeps : s.KeepsAll s.ovenLoses :=
  State.oven_keeps .warming 0 0 s.spm.ovenFault (by decide) fun _ => Nat.zero_le _

theorem State.ovenOn_keeps : s.KeepsAll s.ovenOn := by
  have warming := State.oven_keeps (s := s) .warming 0 s.spm.soak s.spm.ovenFault (by decide) And.right
  unfold State.ovenOn
  dsimp only
  split
  · exact warming.trans State.ovenSettles_keeps
  · exact warming

theorem State.ovenOff_keeps : s.KeepsAll s.ovenOff := by
  unfold State.ovenOff
  dsimp only
  split
  next h => exact .spm _ (fun _ => ⟨Nat.zero_le _, Nat.zero_le _⟩) h.symm (fun _ _ => id) id
  next => exact State.oven_keeps .off 0 0 false (by decide) fun _ => Nat.zero_le _

/-! ## The resolution (R137) -/

/-- A least limit taken over advertisements in range is in range. -/
theorem foldl_min_bounds {α : Type} (f : α → Int) {lo hi : Int} (as : List α) (h : ∀ x ∈ as, lo ≤ f x) :
    ∀ m : Int, lo ≤ m → m ≤ hi →
      lo ≤ as.foldl (fun m x => min m (f x)) m ∧ as.foldl (fun m x => min m (f x)) m ≤ hi := by
  induction as with
  | nil => exact fun m low high => ⟨low, high⟩
  | cons a as ih =>
    intro m low high
    exact ih (fun x hx => h x (List.mem_cons_of_mem a hx)) (min m (f a))
      (le_min low (h a List.mem_cons_self)) ((min_le_left _ _).trans high)

/-- The advertisements of the attached tenants, in order. -/
def attachedAdvs (ts : Three Tenant) : List Advertisement := ([ts.t0, ts.t1, ts.t2].filter (·.attached)).map (·.adv)

theorem mem_attachedAdvs_iff {ts : Three Tenant} {a : Advertisement} :
    a ∈ attachedAdvs ts ↔ ∃ t : Port, (ts.get t).attached = true ∧ a = (ts.get t).adv := by
  constructor
  · intro h
    obtain ⟨x, hx, rfl⟩ := List.mem_map.mp h
    obtain ⟨mem, attached⟩ := List.mem_filter.mp hx
    simp only [List.mem_cons, List.not_mem_nil, or_false] at mem
    rcases mem with rfl | rfl | rfl
    · exact ⟨0, attached, rfl⟩
    · exact ⟨1, attached, rfl⟩
    · exact ⟨2, attached, rfl⟩
  · rintro ⟨t, attached, rfl⟩
    refine List.mem_map.mpr ⟨ts.get t, List.mem_filter.mpr ⟨?_, attached⟩, rfl⟩
    fin_cases t <;> simp [Three.get]

theorem resolvedPolicy_inRange {ts : Three Tenant} (h : ∀ p : Port, (ts.get p).adv.InRange) :
    (resolvedPolicy ts).InRange := by
  have advs : ∀ a ∈ attachedAdvs ts, a.InRange := by
    intro a ha
    obtain ⟨p, -, rfl⟩ := mem_attachedAdvs_iff.mp ha
    exact h p
  unfold attachedAdvs at advs
  unfold resolvedPolicy
  dsimp only
  split
  · exact ⟨by decide, by decide, by decide, by decide⟩
  next a as eq =>
    rw [eq] at advs
    obtain ⟨l1, l2, w1, w2⟩ := advs a List.mem_cons_self
    have rest := fun x hx => advs x (List.mem_cons_of_mem a hx)
    obtain ⟨c1, c2⟩ := foldl_min_bounds (·.limit) as (fun x hx => (rest x hx).1) _ l1 l2
    obtain ⟨r1, r2⟩ := foldl_min_bounds (·.slew) as (fun x hx => (rest x hx).2.2.1) _ w1 w2
    exact ⟨c1, c2, r1, r2⟩

theorem State.resolve_keeps : s.KeepsAll s.resolve := by
  refine State.KeepsAll.trans ?_ (State.postAll_keeps _)
  exact .tru _ (fun h => ⟨h.tru.1, h.tru.2.1, resolvedPolicy_inRange h.tru.2.1⟩) (fun _ => rfl) (fun _ _ => rfl) id

/-- The record of an attached tenant may change in its advertisement and its acknowledged generation. -/
theorem State.tenantRecord_keeps {t : Port} (attached : s.attached t = true) (adv : Advertisement) (gen : Word16)
    (range : s.valuesInRange → adv.InRange) :
    s.KeepsAll (s.setTenant t { s.tru.tenants.get t with adv := adv, ackGen := gen }) := by
  have same : ∀ u : Port,
      ((s.tru.tenants.set t { s.tru.tenants.get t with adv := adv, ackGen := gen }).get u).attached = s.attached u := by
    intro u; rw [Three.get_set]; split
    next h => subst h; rfl
    · rfl
  refine .tru _ (fun h => ⟨h.tru.1, fun p => ?_, h.tru.2.2⟩) same (fun u out => ?_) fun h r hr => ?_
  · dsimp only; rw [Three.get_set]; split
    · exact range h
    · exact h.tru.2.1 p
  · exact Three.get_set_ne _ _ fun h => by simp [h, attached] at out
  · obtain ⟨h1, h2, h3, h4⟩ := h r hr
    exact ⟨h1, h2, fun u hu => (same u).trans (h3 u hu), h4⟩

theorem State.acknowledge_keeps (t : Port) : s.KeepsAll (s.acknowledge t) := by
  unfold State.acknowledge
  split
  next attached => exact State.tenantRecord_keeps attached _ _ fun h => h.tru.2.1 t
  · exact .refl s

/-! ## Observations of the references (section 2.2) -/

/-- The members of an RMU after one slot is replaced. -/
theorem Rmu.setSlot_get (r : Rmu) (n m : SlotId) (sl : Slot) :
    (r.setSlot n sl).slots.get m = if m = n then sl else r.slots.get m := Six.get_set _ _ _ _

@[simp] theorem Rmu.setTarget_slots (r : Rmu) (p : PulseInput) (x : Option LabelTarget) :
    (r.setTarget p x).slots = r.slots := by cases p <;> rfl

@[simp] theorem Rmu.setTarget_lfNominal (r : Rmu) (p : PulseInput) (x : Option LabelTarget) :
    (r.setTarget p x).lfNominal = r.lfNominal := by cases p <;> rfl

/-- Two slots with the same state, counters and settings: what differs is held values, queue and tallies. -/
def Slot.SameCounts (sl' sl : Slot) : Prop :=
  (sl'.settings, sl'.faultCount, sl'.emptyRun, sl'.holdOff, sl'.streak, sl'.usableRun, sl'.qualifyCount, sl'.state) =
    (sl.settings, sl.faultCount, sl.emptyRun, sl.holdOff, sl.streak, sl.usableRun, sl.qualifyCount, sl.state)

/-- An RMU in which one slot has changed in its held values, queue and tallies alone. -/
theorem State.keeps_of_slot (r : Rmu) (nominal : r.lfNominal = s.rmu.lfNominal) (n : SlotId) (sl : Slot)
    (slots : r.slots = s.rmu.slots.set n sl) (same : sl.SameCounts (s.rmu.slots.get n)) :
    s.KeepsAll { s with rmu := r } := by
  refine State.keeps_of_slots r nominal fun m => ?_
  dsimp only
  rw [slots, Six.get_set]
  split
  next h => rw [h]; exact same
  · rfl

theorem State.takePulse_keeps (p : PulseInput) (c : Seconds) (phase : Nat) :
    s.KeepsAll { s with rmu := s.rmu.takePulse p c phase } := by
  unfold Rmu.takePulse
  dsimp only
  split
  · exact .refl s
  · split
    · exact State.keeps_of_slot _ (by simp [Rmu.setSlot]) (pulseSlot p) _ (Rmu.setTarget_slots _ _ _) rfl
    · split
      · exact State.keeps_of_slot _ (by simp [Rmu.setSlot]) (pulseSlot p) _ (Rmu.setTarget_slots _ _ _) rfl
      · exact State.keeps_of_slot _ (by simp [Rmu.setSlot]) (pulseSlot p) _ (Rmu.setTarget_slots _ _ _) rfl

theorem State.takeLabel_keeps (p : PulseInput) (label : Seconds) (fix valid : Bool) :
    s.KeepsAll { s with rmu := s.rmu.takeLabel p label fix valid } := by
  have slot : ∀ (x : Option LabelTarget) (sl : Slot), sl.SameCounts (s.rmu.slots.get (pulseSlot p)) →
      s.KeepsAll { s with rmu := (s.rmu.setTarget p x).setSlot (pulseSlot p) sl } := fun x sl same =>
    State.keeps_of_slot _ (Rmu.setTarget_lfNominal _ _ _) (pulseSlot p) sl (by simp [Rmu.setSlot]) same
  unfold Rmu.takeLabel
  dsimp only
  split
  · exact .refl s
  · split
    · exact .refl s
    · split
      · exact State.keeps_of_slots _ (Rmu.setTarget_lfNominal _ _ _) fun n => by simp
      · split
        · exact slot _ _ rfl
        · split
          · exact slot _ _ rfl
          · exact slot _ _ rfl

/-- An LF observation leaves a slot's state and counters. -/
theorem Slot.takeLf_sameCounts (k : Seconds) (f : Int) (sl : Slot) : (sl.takeLf k f).SameCounts sl := by
  unfold Slot.takeLf
  split
  · rfl
  · split <;> rfl

theorem State.takeLineClock_keeps (k : Seconds) (line : LineClock) :
    s.KeepsAll { s with rmu := s.rmu.takeLineClock k line } := by
  unfold Rmu.takeLineClock
  split
  · exact State.keeps_of_slots _ rfl fun _ => rfl
  · dsimp only
    split
    · exact State.keeps_of_slots _ rfl fun _ => rfl
    · split
      · exact State.keeps_of_slots _ rfl fun _ => rfl
      · exact State.keeps_of_slot _ rfl lfSlot _ rfl (Slot.takeLf_sameCounts _ _ _)

/-- A report leaves a slot's state and counters. -/
theorem Slot.takeReport_sameCounts (f : ReportFields) (j : ReportJudgement) (sl : Slot) :
    (sl.takeReport f j).SameCounts sl := by
  cases j with
  | refused o => rfl
  | judged d => cases d <;> rfl

theorem State.actReport_keeps (t : Port) (f : ReportFields) : s.KeepsAll (s.actReport t f).1 :=
  State.keeps_of_slot _ rfl (reportSlot t) _ rfl (Slot.takeReport_sameCounts _ _ _)

/-- One slot may change its counters, and its state where the change neither makes it SELECTED nor ends its being SELECTED or
HALTING. -/
theorem State.setSlot_keeps (n : SlotId) (sl : Slot)
    (range : (s.rmu.slots.get n).InRange n → sl.InRange n)
    (only : sl.state = .selected → (s.rmu.slots.get n).state = .selected)
    (still : (s.rmu.slots.get n).state = .selected ∨ (s.rmu.slots.get n).state = .halting →
      sl.state = .selected ∨ sl.state = .halting) :
    s.KeepsAll { s with rmu := s.rmu.setSlot n sl } := by
  refine ⟨.rmu _ fun h => ⟨h.rmu.1, fun m => ?_⟩, fun h => ⟨fun m => ?_, fun m selected => ?_⟩⟩
  · rw [Rmu.setSlot_get]; split
    next same => rw [same]; exact range (h.rmu.2 n)
    · exact h.rmu.2 m
  · dsimp only
    rw [Rmu.setSlot_get]; split
    next same => exact fun marked => h.1 m (by rw [same]; exact only marked)
    · exact h.1 m
  · obtain ⟨capable, marked⟩ := h.2 m selected
    refine ⟨capable, ?_⟩
    dsimp only
    rw [Rmu.setSlot_get]; split
    next same => exact still (same ▸ marked)
    · exact marked

/-- A QUALIFYING slot with its counters at 0 is in range. -/
theorem Slot.InRange.countersZero {n : SlotId} {sl : Slot} (h : sl.InRange n) (st : SlotState) {hold : Nat}
    (bound : hold ≤ 960) : Slot.InRange n { sl.countersZero with state := st, holdOff := hold } := by
  obtain ⟨settings, -, -, -, streak, -⟩ := h
  refine ⟨settings, Nat.zero_le _, Nat.zero_le _, bound, streak, Nat.zero_le _, Nat.zero_le _, fun _ => ?_, nofun⟩
  have : 1 ≤ sl.settings.qualify := settings.2.2.2.2.2.1
  exact this

theorem State.endHoldOff_keeps {n : SlotId} (due : s.holdOffDue n = true) : s.KeepsAll (s.endHoldOff n) := by
  have state : (s.rmu.slots.get n).state = .disqualified := by
    unfold State.holdOffDue at due
    exact beq_iff_eq.mp (Bool.and_eq_true_iff.mp due).1
  refine State.setSlot_keeps n _ (fun h => h.countersZero .qualifying (Nat.zero_le _)) nofun ?_
  rw [state]
  rintro (h | h) <;> cases h

end

end Sys2Proof.Machine
end

section
/-!
PROOFS. That each stage of an epoch close keeps the invariants: the closing of the slots (R35 to R41), the drive stage, the select and
the follow stage (R47), the adoption of settings (R22), and the close as a whole.
-/

namespace Sys2Proof.Machine

/-! ## One slot at a close -/

section
variable {n : SlotId} {sl : Slot}

/-- The ranges a slot keeps over its USABLE run. -/
theorem Slot.InRange.runOn (h : sl.InRange n) : sl.runOn.InRange n := by
  obtain ⟨settings, faults, empties, held, streak, run, qualify, counting, third⟩ := h
  unfold Slot.runOn
  split
  · refine ⟨settings, faults, empties, held, ?_, Nat.min_le_left _ _, qualify, counting, third⟩
    dsimp only
    split
    · exact Nat.zero_le _
    · exact streak
  · exact ⟨settings, faults, empties, held, streak, Nat.zero_le _, qualify, counting, third⟩

theorem Slot.InRange.endHalt (h : sl.InRange n) (enable : Bool) : (sl.endHalt enable).InRange n :=
  h.countersZero (if enable then .qualifying else .off) (Nat.zero_le _)

/-- The empty run that an epoch leaves is in its range. -/
theorem Slot.outcomeOf_run_le (k : Seconds) (sl : Slot) : (sl.outcomeOf k).2 ≤ 65535 := by
  unfold Slot.outcomeOf
  dsimp only
  split
  · exact Nat.zero_le _
  · split
    · exact Nat.zero_le _
    · split <;> exact Nat.min_le_left _ _

/-- The ranges after an outcome is counted, the fault count at 3 aside. -/
structure Slot.Counted (n : SlotId) (sl : Slot) : Prop where
  settings : sl.settings.inRange n
  faults : sl.faultCount ≤ 3
  empties : sl.emptyRun ≤ 65535
  held : sl.holdOff ≤ 960
  streak : sl.streak ≤ 4
  run : sl.usableRun ≤ 3600
  qualify : sl.qualifyCount ≤ 600
  counting : sl.state = .qualifying → sl.qualifyCount < sl.settings.qualify

theorem Slot.InRange.count (h : sl.InRange n) (o : EpochOutcome) {run : Nat} (bound : run ≤ 65535) :
    (sl.count o run).Counted n := by
  obtain ⟨settings, faults, empties, held, streak, usable, qualify, counting, third⟩ := h
  have most : sl.settings.qualify ≤ 600 := settings.2.2.2.2.2.2.1
  have least : 1 ≤ sl.settings.qualify := settings.2.2.2.2.2.1
  cases o with
  | good v l =>
    refine ⟨settings, Nat.zero_le _, Nat.zero_le _, held, streak, usable, ?_, ?_⟩
    · dsimp only [Slot.count]
      split
      next q => have := counting q; omega
      · exact qualify
    · dsimp only [Slot.count]
      intro still
      split_ifs at still with qualifying reached
      · rw [if_pos qualifying]
        exact Nat.lt_of_not_le fun enough => reached ⟨qualifying, enough⟩
      · exact absurd still qualifying
  | faulty kinds =>
    exact ⟨settings, Nat.min_le_left _ _, bound, held, streak, usable, Nat.zero_le _, fun _ => least⟩
  | empty => exact ⟨settings, faults, bound, held, streak, usable, qualify, counting⟩
  | none => exact ⟨settings, faults, empties, held, streak, usable, qualify, counting⟩

/-- The slot with the outcome of epoch k counted and the epoch's entries and tally gone. -/
def Slot.taken (k : Seconds) (sl : Slot) : Slot :=
  { sl.count (sl.outcomeOf k).1 (sl.outcomeOf k).2 with
    queue := dropStamped k sl.queue
    tallies := sl.tallies.filter fun t => t.epoch != k }

/-- The slot after that, DISQUALIFIED at its third fault, and its USABLE run. -/
def Slot.ran (k : Seconds) (sl : Slot) : Slot :=
  (if 3 ≤ (sl.taken k).faultCount then (sl.taken k).disqualify else sl.taken k).runOn

/-- A slot that is OFF or DISQUALIFIED takes no part in a close. -/
theorem Slot.close_of_idle (enable : Bool) (k : Seconds) (h : sl.state = .off ∨ sl.state = .disqualified) :
    sl.close enable k = ⟨sl, ⟨sl.state, .none, sl.settings.priority, sl.usableRun, false⟩, false, false⟩ :=
  if_pos h

/-- The close of a slot that is neither OFF nor DISQUALIFIED. -/
theorem Slot.close_of_open (enable : Bool) (k : Seconds) (h : ¬(sl.state = .off ∨ sl.state = .disqualified)) :
    sl.close enable k =
      let final := if sl.state = .halting then (sl.ran k).endHalt enable else sl.ran k
      ⟨final, ⟨final.state, (sl.outcomeOf k).1, final.settings.priority, final.usableRun, decide (sl.state = .halting)⟩,
        decide (3 ≤ (sl.taken k).faultCount), decide (sl.state = .halting)⟩ := by
  have unfolded : sl.close enable k =
      let ran := (if decide (3 ≤ (sl.taken k).faultCount) = true then (sl.taken k).disqualify else sl.taken k).runOn
      let final := if decide (sl.state = .halting) = true then ran.endHalt enable else ran
      ⟨final, ⟨final.state, (sl.outcomeOf k).1, final.settings.priority, final.usableRun, decide (sl.state = .halting)⟩,
        decide (3 ≤ (sl.taken k).faultCount), decide (sl.state = .halting)⟩ := if_neg h
  simpa only [decide_eq_true_eq, Slot.ran] using unfolded

theorem Slot.Counted.disqualify (h : sl.Counted n) : sl.disqualify.InRange n := by
  have held : 60 * 2 ^ sl.streak ≤ 960 := by
    have : 2 ^ sl.streak ≤ 2 ^ 4 := Nat.pow_le_pow_right (by decide) h.streak
    omega
  exact ⟨h.settings, h.faults, h.empties, held, Nat.min_le_right _ _, Nat.zero_le _, h.qualify, nofun, fun _ => .inl rfl⟩

theorem Slot.Counted.inRange (h : sl.Counted n) (few : sl.faultCount ≠ 3) : sl.InRange n :=
  ⟨h.settings, h.faults, h.empties, h.held, h.streak, h.run, h.qualify, h.counting, fun third => absurd third few⟩

theorem Slot.InRange.taken (h : sl.InRange n) (k : Seconds) : (sl.taken k).Counted n := by
  obtain ⟨h1, h2, h3, h4, h5, h6, h7, h8⟩ := h.count (sl.outcomeOf k).1 (sl.outcomeOf_run_le k)
  exact ⟨h1, h2, h3, h4, h5, h6, h7, h8⟩

theorem Slot.InRange.ran (h : sl.InRange n) (k : Seconds) : (sl.ran k).InRange n := by
  refine Slot.InRange.runOn ?_
  split
  · exact (h.taken k).disqualify
  next few => exact (h.taken k).inRange fun third => by omega

theorem Slot.InRange.close (h : sl.InRange n) (enable : Bool) (k : Seconds) : (sl.close enable k).slot.InRange n := by
  by_cases idle : sl.state = .off ∨ sl.state = .disqualified
  · rw [Slot.close_of_idle enable k idle]; exact h
  · rw [Slot.close_of_open enable k idle]
    dsimp only
    split
    · exact (h.ran k).endHalt enable
    · exact h.ran k

theorem Slot.InRange.adopt (h : sl.InRange n) (phaseSlot : Bool) {new : SlotSettings} (range : new.inRange n) :
    (sl.adopt phaseSlot new).InRange n := by
  obtain ⟨-, faults, empties, held, streak, usable, qualify, counting, third⟩ := h
  have most : new.qualify ≤ 600 := range.2.2.2.2.2.2.1
  have least : 1 ≤ new.qualify := range.2.2.2.2.2.1
  refine ⟨range, faults, empties, held, streak, usable, ?_, ?_, third⟩
  · dsimp only [Slot.adopt]
    split
    · omega
    · exact qualify
  · intro still
    dsimp only [Slot.adopt] at still ⊢
    split
    · omega
    next not => exact Nat.lt_of_not_le fun reached => not ⟨still, reached⟩

end

section
variable {s : State}

/-- A member of an RMU whose settings have been adopted, the last value aside. -/
theorem Rmu.adopt_get (r : Rmu) (c : SiteConfig) (n : SlotId) :
    ∃ v, (r.adopt c).slots.get n = { (r.slots.get n).adopt (phaseCapable n) (c.slots.get n).settings with lastValue := v } := by
  unfold Rmu.adopt
  dsimp only
  split
  · exact ⟨_, Six.get_mapIdx _ _ _⟩
  · dsimp only
    rw [Six.get_set]
    split
    next h => subst h; rw [Six.get_mapIdx]; exact ⟨none, rfl⟩
    · rw [Six.get_mapIdx]; exact ⟨_, rfl⟩

theorem State.adopt_keeps : s.KeepsAll { s with rmu := s.rmu.adopt s.tru.config } := by
  refine .rmu _ (fun h => ⟨?_, fun n => ?_⟩) fun n => ?_
  · unfold Rmu.adopt
    dsimp only
    split
    · exact h.rmu.1
    · exact h.tru.1.2.1
  · obtain ⟨v, eq⟩ := s.rmu.adopt_get s.tru.config n
    rw [eq]
    exact Slot.InRange.congr ((h.rmu.2 n).adopt (phaseCapable n) (h.tru.1.1 n)) rfl
  · obtain ⟨v, eq⟩ := s.rmu.adopt_get s.tru.config n
    rw [eq]; rfl

theorem State.postHalted_keeps (n : SlotId) : s.KeepsAll (s.postHalted n) := State.postAll_keeps _

theorem State.postClose_keeps (c : Six SlotClose) (n : SlotId) : s.KeepsAll (s.postClose c n) := by
  have disqualified : s.KeepsAll (if (c.get n).disqualified then s.postDisqualified n else s) := by
    split
    · exact State.KeepsAll.trans (State.postAll_keeps _) State.latchRefFault_keeps
    · exact .refl s
  unfold State.postClose
  dsimp only
  split
  · exact disqualified.trans (State.postHalted_keeps n)
  · exact disqualified

/-- An act for each slot keeps what each of its parts keeps. -/
theorem State.forSlots_keeps {f : SlotId → State → State} (h : ∀ (n : SlotId) (s : State), s.KeepsAll (f n s)) :
    s.KeepsAll (s.forSlots f) :=
  ((((((h 0 _).trans (h 1 _)).trans (h 2 _)).trans (h 3 _)).trans (h 4 _)).trans (h 5 _))

theorem State.closeSlots_keeps (k : Seconds) : s.Keeps { s with rmu := s.rmu.closed k (s.slotCloses k) } := by
  refine .rmu _ fun h => ⟨h.rmu.1, fun n => ?_⟩
  simp only [Rmu.closed, State.slotCloses, Six.get_mapIdx]
  exact (h.rmu.2 n).close _ k

/-! ## The drive stage -/

/-- A change of the counts and pendings of the SDE. -/
theorem State.counts_keeps (d : Sde)
    (kept : (d.selected, d.clock, d.e, d.tol) = (s.sde.selected, s.sde.clock, s.sde.e, s.sde.tol))
    (same : (d.lfBasis, d.fInt, d.fAvg, d.residual, d.wander, d.lfCount) =
      (s.sde.lfBasis, s.sde.fInt, s.sde.fAvg, s.sde.residual, s.sde.wander, s.sde.lfCount))
    (counts : s.valuesInRange →
      d.lockCount ≤ 16 ∧ d.lockLoss ≤ 4 ∧ d.labelMismatch ≤ 3 ∧ d.bridgeRemaining ≤ 600) :
    s.KeepsAll { s with sde := d } := by
  simp only [Prod.mk.injEq] at kept
  obtain ⟨selected, clock, e, tol⟩ := kept
  refine .sde d (fun h => ?_) selected clock e tol
  obtain ⟨c1, c2, c3, c4⟩ := counts h
  exact h.sde.of_counts same c1 c2 c3 c4

theorem State.orderStep_keeps (e : Int) : s.KeepsAll (s.orderStep e) := by
  refine State.KeepsAll.trans (State.KeepsAll.trans ?_ (State.postAll_keeps _)) State.latchStepped_keeps
  exact State.counts_keeps _ rfl rfl fun h => ⟨Nat.zero_le _, Nat.zero_le _, h.sde.labelMismatch, h.sde.bridge⟩

/-- The pendings of the step decision are read by no invariant. -/
theorem State.pendings_keeps (a b : Bool) :
    s.KeepsAll { s with sde := { s.sde with stepDecisionPending := a, stepNow := b } } :=
  State.counts_keeps _ rfl rfl fun h => ⟨h.sde.lockCount, h.sde.lockLoss, h.sde.labelMismatch, h.sde.bridge⟩

theorem State.stepDecision_keeps (e : Int) : s.KeepsAll (s.stepDecision e).1 := by
  unfold State.stepDecision
  dsimp only
  split
  · exact (State.pendings_keeps false false).trans (State.orderStep_keeps e)
  · exact State.pendings_keeps false false

/-- Time may become valid outside FREERUN. -/
theorem State.validate_keeps (free : s.sde.clock ≠ .freerun) : s.KeepsAll { s with tsg := { s.tsg with timeValid := true } } where
  values := id
  tenants _ := id
  clock h := ⟨fun c => absurd c free, fun _ => rfl, h.2.2⟩
  notices := id
  joint := id
  quiet := id
  days := id
  latches h := State.latchesConsistent_of_le h (fun _ => id) (fun _ => rfl) (fun _ => id) id id
    fun _ => Latches.LowsLe.refl _
  selection := id

theorem State.enterLocked_keeps (free : s.sde.clock ≠ .freerun) : s.KeepsAll s.enterLocked := by
  have valid := State.validate_keeps free
  have cleared := valid.trans (State.counts_keeps (s := { s with tsg := { s.tsg with timeValid := true } })
    { s.sde with lockLoss := 0, decisionPending := false, bridgeRemaining := 0, lockedSinceStart := true } rfl rfl
    fun h => ⟨h.sde.lockCount, Nat.zero_le _, h.sde.labelMismatch, Nat.zero_le _⟩)
  exact (cleared.trans (State.enterClock_keeps .locked (by simp) fun _ _ => rfl)).trans State.judgeAll_keeps

theorem State.enterAcquireDeciding_keeps (e : Int) : s.KeepsAll (s.enterAcquireDeciding e).1 := by
  have cleared : s.KeepsAll { s with sde := { s.sde with decisionPending := false, bridgeRemaining := 0 } } :=
    State.counts_keeps _ rfl rfl fun h => ⟨h.sde.lockCount, h.sde.lockLoss, h.sde.labelMismatch, Nat.zero_le _⟩
  have entered := cleared.trans (State.enterClock_keeps .acquire (by simp) (by simp))
  refine entered.trans (State.KeepsAll.trans ?_ (State.stepDecision_keeps e))
  exact State.counts_keeps _ rfl rfl fun h => ⟨Nat.zero_le _, h.sde.lockLoss, h.sde.labelMismatch, h.sde.bridge⟩

/-- The lock count may take any value up to 16. -/
theorem State.lockCount_keeps {c : Nat} (h : c ≤ 16) : s.KeepsAll { s with sde := { s.sde with lockCount := c } } :=
  State.counts_keeps _ rfl rfl fun v => ⟨h, v.sde.lockLoss, v.sde.labelMismatch, v.sde.bridge⟩

/-- The step decision leaves the clock. -/
theorem State.stepDecision_clock (e : Int) (s : State) : (s.stepDecision e).1.sde.clock = s.sde.clock := by
  unfold State.stepDecision; dsimp only; split <;> simp [State.orderStep]

theorem State.goodAcquire_keeps (free : s.sde.clock ≠ .freerun) (e : Int) : s.KeepsAll (s.goodAcquire e).1 := by
  have decided := State.stepDecision_keeps (s := s) e
  unfold State.goodAcquire
  dsimp only
  split
  · exact decided
  · split
    · have counted := decided.trans (State.lockCount_keeps (Nat.min_le_left 16 ((s.stepDecision e).1.sde.lockCount + 1)))
      split
      · exact counted.trans (State.enterLocked_keeps ((State.stepDecision_clock e s).trans_ne free))
      · exact counted
    · exact decided.trans (State.lockCount_keeps (Nat.zero_le _))

theorem State.goodLocked_keeps (e : Int) : s.KeepsAll (s.goodLocked e).1 := by
  unfold State.goodLocked
  split
  · exact State.counts_keeps _ rfl rfl fun h => ⟨h.sde.lockCount, Nat.zero_le _, h.sde.labelMismatch, h.sde.bridge⟩
  · split
    · exact State.enterAcquireDeciding_keeps e
    · have counted : s.KeepsAll { s with sde := { s.sde with lockLoss := satAdd 4 s.sde.lockLoss 1 } } :=
        State.counts_keeps _ rfl rfl fun h => ⟨h.sde.lockCount, Nat.min_le_left _ _, h.sde.labelMismatch, h.sde.bridge⟩
      dsimp only
      split
      · exact counted.trans (State.enterAcquireDeciding_keeps e)
      · exact counted

theorem State.goodBridge_keeps (free : s.sde.clock ≠ .freerun) (e : Int) : s.KeepsAll (s.goodBridge e).1 := by
  unfold State.goodBridge
  split
  · exact State.enterLocked_keeps free
  · exact State.enterAcquireDeciding_keeps e

theorem State.goodEpoch_keeps (e : Int) : s.KeepsAll (s.goodEpoch e).1 := by
  unfold State.goodEpoch
  split
  next h => exact State.goodAcquire_keeps (by simp [h]) e
  next => exact State.goodLocked_keeps e
  next h => exact State.goodBridge_keeps (by simp [h]) e
  · exact .refl s
  · exact .refl s

theorem State.faultyEpoch_keeps : s.KeepsAll s.faultyEpoch := by
  unfold State.faultyEpoch
  split
  · exact State.lockCount_keeps (Nat.zero_le _)
  · exact .refl s

/-! ## The loop update -/

/-- The quotient that a rounded division of a magnitude takes does not exceed the magnitude. -/
theorem roundDiv_quotient_le (m : Nat) {b : Nat} (h : 0 < b) : (2 * m + b) / (2 * b) ≤ m := by
  rcases Nat.eq_zero_or_pos m with rfl | pos
  · rw [Nat.div_eq_of_lt (by omega)]
  · have : (2 * m + b) / (2 * b) < m + 1 := Nat.div_lt_of_lt_mul (by nlinarith)
    omega

/-- A rounded part of a difference stays between 0 and the difference. -/
theorem roundDiv_between (a : Int) {b : Nat} (h : 0 < b) :
    (0 ≤ a → 0 ≤ roundDiv a b ∧ roundDiv a b ≤ a) ∧ (a ≤ 0 → a ≤ roundDiv a b ∧ roundDiv a b ≤ 0) := by
  have bound := roundDiv_quotient_le a.natAbs h
  unfold roundDiv
  dsimp only
  generalize (2 * a.natAbs + b) / (2 * b) = q at bound
  split <;> omega

/-- A step of an average toward a value in an interval stays in the interval. -/
theorem average_bounds {lo hi old new : Int} {b : Nat} (hb : 0 < b) (h1 : lo ≤ old) (h2 : old ≤ hi) (h3 : lo ≤ new)
    (h4 : new ≤ hi) : lo ≤ old + roundDiv (new - old) b ∧ old + roundDiv (new - old) b ≤ hi := by
  obtain ⟨up, down⟩ := roundDiv_between (new - old) hb
  rcases le_total 0 (new - old) with h | h
  · obtain ⟨u1, u2⟩ := up h; omega
  · obtain ⟨d1, d2⟩ := down h; omega

/-- A step of an average of magnitudes stays above 0. -/
theorem average_nonneg {old new : Int} {b : Nat} (hb : 0 < b) (h1 : 0 ≤ old) (h2 : 0 ≤ new) :
    0 ≤ old + roundDiv (new - old) b := by
  obtain ⟨up, down⟩ := roundDiv_between (new - old) hb
  rcases le_total 0 (new - old) with h | h
  · obtain ⟨u1, u2⟩ := up h; omega
  · obtain ⟨d1, d2⟩ := down h; omega

theorem mag_nonneg (x : Int) : 0 ≤ mag x := by unfold mag; omega

theorem State.lockedAverages_keeps (e : Int) (first : Bool) : s.KeepsAll (s.lockedAverages e first) := by
  refine .sde _ (fun h => ?_) rfl rfl rfl rfl
  obtain ⟨basis, i1, i2, a1, a2, r, w, counts⟩ := h.sde
  have averaged : -corrLimit ≤ (if first then s.sde.fInt else s.sde.fAvg + roundDiv (s.sde.fInt - s.sde.fAvg) 64) ∧
      (if first then s.sde.fInt else s.sde.fAvg + roundDiv (s.sde.fInt - s.sde.fAvg) 64) ≤ corrLimit := by
    split
    · exact ⟨i1, i2⟩
    · exact average_bounds (by decide) a1 a2 i1 i2
  exact ⟨basis, i1, i2, averaged.1, averaged.2, average_nonneg (by decide) r (mag_nonneg e), w, counts⟩

theorem State.takeResult_keeps : s.KeepsAll s.takeResult := by
  have filed : ∀ θ, s.KeepsAll { s with ols := s.ols.fileResult s.sde.fInt θ } := by
    intro θ
    refine .ols _ (fun h => ?_) fun h => ?_
    · unfold Ols.fileResult
      dsimp only
      split
      next more => exact ⟨h.ols.1, h.ols.2.1, h.ols.2.2.1, more⟩
      · exact h.ols
    · unfold Ols.fileResult
      dsimp only
      split <;> exact h
  unfold State.takeResult
  split
  · split
    · exact filed _
    · exact .refl s
  · exact .refl s

theorem State.trackLf_keeps (f : Int) : s.KeepsAll (s.trackLf f) := by
  unfold State.trackLf
  split
  · refine .sde _ (fun h => ?_) rfl rfl rfl rfl
    obtain ⟨-, i1, i2, a1, a2, r, -, -, counts⟩ := h.sde
    exact ⟨h.rmu.1, i1, i2, a1, a2, r, le_refl _, by dsimp only; decide, counts⟩
  · refine .sde _ (fun h => ?_) rfl rfl rfl rfl
    obtain ⟨basis, i1, i2, a1, a2, r, w, -, counts⟩ := h.sde
    exact ⟨basis, i1, i2, a1, a2, r, average_nonneg (by decide) w (mag_nonneg _), Nat.min_le_left _ _, counts⟩

theorem State.trackItem_keeps (lf : SlotItem) : s.KeepsAll (s.trackItem lf) := by
  unfold State.trackItem
  split
  · split
    · exact .refl s
    · exact State.trackLf_keeps _
  all_goals exact .refl s

/-- The integral may take any value within the limit of a correction. -/
theorem State.fInt_keeps {f : Int} (range : s.valuesInRange → -corrLimit ≤ f ∧ f ≤ corrLimit) :
    s.KeepsAll { s with sde := { s.sde with fInt := f } } := by
  refine .sde _ (fun h => ?_) rfl rfl rfl rfl
  obtain ⟨basis, -, -, rest⟩ := h.sde
  exact ⟨basis, (range h).1, (range h).2, rest⟩

theorem State.labelRule_keeps (k : Seconds) (l : Option Seconds) : s.KeepsAll (s.labelRule k l).1 := by
  have count : ∀ {c : Nat}, c ≤ 3 → s.KeepsAll { s with sde := { s.sde with labelMismatch := c } } := fun h =>
    State.counts_keeps _ rfl rfl fun v => ⟨v.sde.lockCount, v.sde.lockLoss, h, v.sde.bridge⟩
  unfold State.labelRule
  split
  · exact .refl s
  · split
    · exact .refl s
    · split
      · exact count (Nat.zero_le _)
      · split
        · exact count (Nat.zero_le _)
        · exact count (by omega)

theorem State.setFromLabel_keeps (k l : Seconds) : s.KeepsAll (s.setFromLabel k l) :=
  ((State.applySet_keeps _).trans (State.postAll_keeps _)).trans State.latchStepped_keeps

/-- The SDE's clock over the averages of a locked update. -/
theorem State.trackItem_clock (lf : SlotItem) (s : State) : (s.trackItem lf).sde.clock = s.sde.clock := by
  unfold State.trackItem State.trackLf
  split
  · split
    · rfl
    · split <;> rfl
  all_goals rfl

theorem State.fullUpdate_keeps (free : s.sde.clock ≠ .freerun) (k : Seconds) (e : Int) (l : Option Seconds)
    (stepped first : Bool) (lf : SlotItem) : s.KeepsAll (s.fullUpdate k e l stepped first lf) := by
  unfold State.fullUpdate
  dsimp only
  generalize (if stepped = true then (0 : Int) else e) = used
  have integrated : s.KeepsAll { s with sde := { s.sde with fInt := s.integral used } } :=
    State.fInt_keeps fun _ => clampCorr_bounds _
  set s1 : State := { s with sde := { s.sde with fInt := s.integral used } } with hs1
  have averaged : s.KeepsAll
      (if s1.sde.clock = .locked then ((s1.lockedAverages used first).takeResult).trackItem lf else s1) := by
    split
    · exact integrated.trans
        (((State.lockedAverages_keeps _ _).trans State.takeResult_keeps).trans (State.trackItem_keeps lf))
    · exact integrated
  have still : (if s1.sde.clock = .locked then ((s1.lockedAverages used first).takeResult).trackItem lf else s1).sde.clock
      ≠ .freerun := by
    split
    · rw [State.trackItem_clock, (State.takeResult_frame _).2.2.1]; exact free
    · exact free
  generalize (if s1.sde.clock = .locked then ((s1.lockedAverages used first).takeResult).trackItem lf else s1) = s2
    at averaged still
  have estimated := averaged.trans (State.setE_keeps (s2.tru.config.eFloor + mag e) fun c => absurd c still)
  generalize s2.setE (s2.tru.config.eFloor + mag e) = s3 at estimated
  have ordered := estimated.trans (State.orderFApp_keeps (s3.sde.fInt + s.proportional used))
  generalize s3.orderFApp (s3.sde.fInt + s.proportional used) = s4 at ordered
  have stepApplied : s.KeepsAll (if stepped = true then s4.applyStep e else s4) := by
    split
    · exact ordered.trans (State.applyStep_keeps e)
    · exact ordered
  generalize (if stepped = true then s4.applyStep e else s4) = s5 at stepApplied
  have ruled := stepApplied.trans (State.labelRule_keeps k l)
  split
  next s6 v eq => rw [eq] at ruled; exact ruled.trans (State.setFromLabel_keeps k v)
  next s6 eq => rw [eq] at ruled; exact ruled

theorem State.holdUpdate_keeps (n : SlotId) (free : s.sde.clock ≠ .freerun) : s.KeepsAll (s.holdUpdate n) :=
  (State.orderFApp_keeps _).trans (State.setE_keeps _ fun c => absurd c free)

/-- The loop does not run in FREERUN. -/
theorem State.loops_not_freerun (h : s.loops = true) : s.sde.clock ≠ .freerun := by
  intro c
  simp [State.loops, c] at h

/-- A FAULTY item leaves the clock. -/
theorem State.faultyEpoch_clock (s : State) : s.faultyEpoch.sde.clock = s.sde.clock := by
  unfold State.faultyEpoch; split <;> rfl

theorem State.driveItem_keeps (k : Seconds) (n : SlotId) (item lf : SlotItem) : s.KeepsAll (s.driveItem k n item lf) := by
  unfold State.driveItem
  split
  · dsimp only
    split
    next loops => exact (State.goodEpoch_keeps _).trans (State.fullUpdate_keeps (State.loops_not_freerun loops) _ _ _ _ _ _)
    · exact State.goodEpoch_keeps _
  · split
    next loops =>
      exact State.faultyEpoch_keeps.trans
        (State.holdUpdate_keeps n ((State.faultyEpoch_clock s).trans_ne (State.loops_not_freerun loops)))
    · exact .refl s
  · split
    next loops => exact State.holdUpdate_keeps n (State.loops_not_freerun loops)
    · exact .refl s
  · exact .refl s

/-! ## Assistance -/

theorem State.setAssisted_keeps (b : Bool) : s.KeepsAll (s.setAssisted b) := by
  refine State.KeepsAll.trans ?_ (State.postAll_keeps _)
  exact .sde _ (fun h => h.sde) rfl rfl rfl rfl

theorem State.endAssistance_keeps : s.KeepsAll s.endAssistance :=
  (State.takeAnchor_keeps _).trans (State.setAssisted_keeps _)

theorem State.judgeAssistance_keeps (lf : SlotItem) : s.KeepsAll (s.judgeAssistance lf) := by
  unfold State.judgeAssistance
  split
  · dsimp only
    split
    · exact State.orderFApp_keeps _
    · exact (State.orderFApp_keeps _).trans (State.setAssisted_keeps _)
  · split
    · exact State.endAssistance_keeps
    · exact .refl s

theorem State.driveStage_keeps (k : Seconds) (items : Six SlotItem) : s.KeepsAll (s.driveStage k items) := by
  unfold State.driveStage
  split
  · exact State.judgeAssistance_keeps _
  · split
    · exact .refl s
    · exact State.driveItem_keeps _ _ _ _

theorem State.noteLfHalt_keeps (lf : SlotItem) : s.KeepsAll (s.noteLfHalt lf) := by
  unfold State.noteLfHalt
  split
  · exact .sde _ (fun h => h.sde) rfl rfl rfl rfl
  · exact .refl s

/-! ## The select and the follow stage -/

/-- A slot that is marked takes SELECTED or gives it up for USABLE. -/
theorem Slot.InRange.mark {n : SlotId} {sl : Slot} (h : sl.InRange n) {old new : Option SlotId}
    (fit : new = some n → sl.faultCount ≠ 3) : (markSelection old new n sl).InRange n := by
  obtain ⟨settings, faults, empties, held, streak, usable, qualify, counting, third⟩ := h
  unfold markSelection
  split
  next taken => exact ⟨settings, faults, empties, held, streak, usable, qualify, nofun, fun h => absurd h (fit taken)⟩
  · split
    next given =>
      refine ⟨settings, faults, empties, held, streak, usable, qualify, nofun, fun h => ?_⟩
      rcases third h with out | out <;> rw [given.2] at out <;> cases out
    · exact ⟨settings, faults, empties, held, streak, usable, qualify, counting, third⟩

theorem State.changeSelection_keeps (new : Option SlotId)
    (fit : s.valuesInRange → ∀ n, new = some n → (s.rmu.slots.get n).faultCount ≠ 3) :
    s.Keeps (s.changeSelection new) := by
  refine State.Keeps.trans ?_ (State.postAll_keeps _).toKeeps
  have marked : s.Keeps
      { s with rmu := { s.rmu with slots := s.rmu.slots.mapIdx (markSelection s.sde.selected new) } } := by
    refine .rmu _ fun h => ⟨h.rmu.1, fun n => ?_⟩
    rw [Six.get_mapIdx]
    exact (h.rmu.2 n).mark (fit h n)
  refine marked.trans (State.Keeps.sde
    (s := { s with rmu := { s.rmu with slots := s.rmu.slots.mapIdx (markSelection s.sde.selected new) } }) _ (fun h => ?_)
    rfl rfl rfl)
  exact h.sde.of_counts rfl (Nat.zero_le _) h.sde.lockLoss (Nat.zero_le _) h.sde.bridge

theorem State.enterAcquireFollowing_keeps : s.KeepsAll s.enterAcquireFollowing := by
  refine (State.enterClock_keeps .acquire (by simp) (by simp)).trans ?_
  exact State.counts_keeps _ rfl rfl fun h => ⟨Nat.zero_le _, h.sde.lockLoss, h.sde.labelMismatch, h.sde.bridge⟩

/-- The decision pending is read by no invariant. -/
theorem State.decisionPending_keeps (b : Bool) : s.KeepsAll { s with sde := { s.sde with decisionPending := b } } :=
  State.counts_keeps _ rfl rfl fun h => ⟨h.sde.lockCount, h.sde.lockLoss, h.sde.labelMismatch, h.sde.bridge⟩

theorem State.followStage_keeps (old : Option SlotId) : s.KeepsAll (s.followStage old) := by
  have valid (c : s.sde.clock = .locked) (h : s.clockConsistent) : s.tsg.timeValid = true := h.2.1 (.inl c)
  unfold State.followStage
  dsimp only
  split
  · split
    · exact State.enterAcquireFollowing_keeps
    · exact .refl s
  · split
    · exact .refl s
    · split
      · exact State.counts_keeps _ rfl rfl fun v => ⟨Nat.zero_le _, v.sde.lockLoss, v.sde.labelMismatch, v.sde.bridge⟩
      · split
        next v => exact State.enterHoldover_keeps fun _ => v
        next v => exact State.enterFreerun_keeps (Bool.eq_false_iff.mpr v)
  next c =>
    have cleared : s.KeepsAll { s with sde := { s.sde with lockLoss := 0 } } :=
      State.counts_keeps _ rfl rfl fun v => ⟨v.sde.lockCount, Nat.zero_le _, v.sde.labelMismatch, v.sde.bridge⟩
    split
    · exact .refl s
    · split
      · exact State.decisionPending_keeps true
      · split
        · exact cleared.trans (State.enterBridge_keeps (valid c))
        · exact cleared.trans (State.enterHoldover_keeps (valid c))
  · split
    · exact .refl s
    · exact State.decisionPending_keeps _
  · split
    · exact State.KeepsAll.trans (State.fInt_keeps fun v => v.time.2.2) State.enterAcquireFollowing_keeps
    · exact .refl s

end

end Sys2Proof.Machine
end

section
/-!
PROOFS. That an epoch close keeps the invariants as a whole (R34, R47): which slot the select stage can choose (R48 to R50), and that the
drive stage moves neither the selected slot nor a slot's state.
-/

namespace Sys2Proof.Machine

/-! ## What the select stage chooses (R48 to R50) -/

/-- Folding the better of two keeps a slot of the list or the slot begun with. -/
theorem foldl_betterOf_mem (items : Six SlotItem) (l : List SlotId) {n : SlotId} :
    ∀ start : Option SlotId, l.foldl (betterOf items) start = some n → start = some n ∨ n ∈ l := by
  induction l with
  | nil => exact fun start h => .inl h
  | cons m l ih =>
    intro start h
    have next : betterOf items start m = some n → start = some n ∨ n = m := by
      unfold betterOf
      split
      · exact fun h => .inr (Option.some.inj h).symm
      · split
        · exact fun h => .inr (Option.some.inj h).symm
        · exact .inl
    rcases ih (betterOf items start m) h with h | h
    · exact (next h).imp_right fun same => by rw [same]; exact List.mem_cons_self
    · exact .inr (List.mem_cons_of_mem m h)

/-- The best slot meets the test it is the best of. -/
theorem bestSlot_test {items : Six SlotItem} {test : SlotId → Bool} {n : SlotId} (h : bestSlot items test = some n) :
    test n = true := by
  rcases foldl_betterOf_mem items _ none h with h | h
  · cases h
  · exact (List.mem_filter.mp h).2

/-- The slot chosen is a candidate, or the selected slot, still SELECTED. -/
theorem chooseSlot_eq_some {items : Six SlotItem} {c : SiteConfig} {now : Option SlotId} {n : SlotId}
    (h : chooseSlot items c now = some n) :
    isCandidate items n = true ∨ now = some n ∧ (items.get n).state = .selected := by
  have best : ∀ {m : SlotId}, bestSlot items (isCandidate items) = some m → isCandidate items m = true := bestSlot_test
  unfold chooseSlot at h
  split at h
  next m =>
    split at h
    next selected =>
      have stays : some m = some n → some m = some n ∧ (items.get n).state = .selected := fun same =>
        ⟨same, Option.some.inj same ▸ selected⟩
      split at h
      · rcases Option.or_eq_some_iff.mp h with h | ⟨-, h⟩
        · have := bestSlot_test h
          simp only [restores, Bool.and_eq_true] at this
          exact .inl this.1.1
        · exact .inr (stays h)
      · exact .inr (stays h)
    · exact .inl (best h)
  · exact .inl (best h)

/-- A candidate is phase-capable and USABLE. -/
theorem isCandidate_iff (items : Six SlotItem) (n : SlotId) :
    isCandidate items n = true ↔
      phaseCapable n = true ∧ (items.get n).state = .usable ∧ (items.get n).priority ≠ 0 := by
  simp [isCandidate, and_assoc]

/-! ## The selected slot and the slots' states over the drive stage -/

/-- The selected slot and every slot's state are in s' what they are in s. -/
def State.SameMarks (s s' : State) : Prop :=
  s'.sde.selected = s.sde.selected ∧ ∀ n : SlotId, (s'.rmu.slots.get n).state = (s.rmu.slots.get n).state

section
variable {s : State}

theorem State.SameMarks.refl (s : State) : s.SameMarks s := ⟨rfl, fun _ => rfl⟩

theorem State.SameMarks.trans {s t u : State} (h : s.SameMarks t) (h' : t.SameMarks u) : s.SameMarks u :=
  ⟨h'.1.trans h.1, fun n => (h'.2 n).trans (h.2 n)⟩

/-- An operation that leaves the RMU leaves the slots' states. -/
theorem State.SameMarks.of_rmu {s' : State} (selected : s'.sde.selected = s.sde.selected) (rmu : s'.rmu = s.rmu) :
    s.SameMarks s' := ⟨selected, fun n => by rw [rmu]⟩

theorem State.judgeAll_selected (s : State) : s.judgeAll.sde.selected = s.sde.selected := by
  obtain ⟨q, h⟩ := s.judgeAll_sde; rw [h]

theorem State.setE_selected (e : Int) (s : State) : (s.setE e).sde.selected = s.sde.selected := by
  obtain ⟨q, h⟩ := s.setE_sde e; rw [h]

theorem State.enterClock_selected (c : ClockState) (s : State) : (s.enterClock c).sde.selected = s.sde.selected := by
  unfold State.enterClock; split <;> rfl

theorem State.enterHoldover_selected (s : State) : s.enterHoldover.sde.selected = s.sde.selected := by
  unfold State.enterHoldover
  dsimp only
  split
  · rw [State.takeAnchor_sde]; exact State.enterClock_selected _ _
  · rw [State.setE_selected, State.takeAnchor_sde]; exact State.enterClock_selected _ _

theorem State.enterBridge_selected (s : State) : s.enterBridge.sde.selected = s.sde.selected := by
  unfold State.enterBridge
  rw [State.setE_selected, State.takeAnchor_sde]
  exact State.enterClock_selected _ _

theorem State.enterFreerun_selected (s : State) : s.enterFreerun.sde.selected = s.sde.selected :=
  (State.setE_selected _ _).trans (State.enterClock_selected _ _)

theorem State.stepDecision_selected (e : Int) (s : State) : (s.stepDecision e).1.sde.selected = s.sde.selected := by
  unfold State.stepDecision; dsimp only; split <;> simp [State.orderStep]

theorem State.enterLocked_selected (s : State) : s.enterLocked.sde.selected = s.sde.selected :=
  (State.judgeAll_selected _).trans (State.enterClock_selected _ _)

theorem State.enterAcquireDeciding_selected (e : Int) (s : State) :
    (s.enterAcquireDeciding e).1.sde.selected = s.sde.selected :=
  (State.stepDecision_selected _ _).trans (State.enterClock_selected _ _)

theorem State.goodEpoch_selected (e : Int) (s : State) : (s.goodEpoch e).1.sde.selected = s.sde.selected := by
  have decided := State.stepDecision_selected e s
  unfold State.goodEpoch
  split
  · unfold State.goodAcquire
    dsimp only
    split
    · exact decided
    · split
      · split
        · rw [State.enterLocked_selected]; exact decided
        · exact decided
      · exact decided
  · unfold State.goodLocked
    split
    · rfl
    · split
      · exact State.enterAcquireDeciding_selected _ _
      · dsimp only
        split
        · exact State.enterAcquireDeciding_selected _ _
        · rfl
  · unfold State.goodBridge
    split
    · exact State.enterLocked_selected _
    · exact State.enterAcquireDeciding_selected _ _
  · rfl
  · rfl

theorem State.applyStep_sameMarks (d : Int) : s.SameMarks (s.applyStep d) := by
  refine ⟨rfl, fun n => ?_⟩
  rw [show (s.applyStep d).rmu.slots =
    s.rmu.slots.mapIdx fun n sl => if phaseCapable n then sl.shiftPhase (limitStep d) else sl from rfl, Six.get_mapIdx]
  split <;> rfl

theorem State.setFromLabel_sameMarks (k l : Seconds) : s.SameMarks (s.setFromLabel k l) := by
  refine ⟨rfl, fun n => ?_⟩
  rw [show (s.setFromLabel k l).rmu.slots =
    s.rmu.slots.mapIdx fun _ sl => sl.renumber (l + (s.tsg.seconds - k) - s.tsg.seconds) from rfl, Six.get_mapIdx]
  rfl

theorem State.trackItem_selected (lf : SlotItem) (s : State) : (s.trackItem lf).sde.selected = s.sde.selected := by
  unfold State.trackItem State.trackLf
  split
  · split
    · rfl
    · split <;> rfl
  all_goals rfl

theorem State.labelRule_selected (k : Seconds) (l : Option Seconds) (s : State) :
    (s.labelRule k l).1.sde.selected = s.sde.selected := by
  unfold State.labelRule
  split
  · rfl
  · split
    · rfl
    · split
      · rfl
      · split <;> rfl

theorem State.fullUpdate_sameMarks (k : Seconds) (e : Int) (l : Option Seconds) (stepped first : Bool) (lf : SlotItem) :
    s.SameMarks (s.fullUpdate k e l stepped first lf) := by
  unfold State.fullUpdate
  dsimp only
  generalize (if stepped = true then (0 : Int) else e) = used
  set s1 : State := { s with sde := { s.sde with fInt := s.integral used } } with hs1
  have averaged : s.SameMarks
      (if s1.sde.clock = .locked then ((s1.lockedAverages used first).takeResult).trackItem lf else s1) := by
    split
    · refine .of_rmu ?_ (by simp [hs1])
      rw [State.trackItem_selected, (State.takeResult_frame _).2.2.1]; rfl
    · exact .of_rmu rfl rfl
  generalize (if s1.sde.clock = .locked then ((s1.lockedAverages used first).takeResult).trackItem lf else s1) = s2
    at averaged
  have estimated := averaged.trans
    (.of_rmu (State.setE_selected (s2.tru.config.eFloor + mag e) s2) (State.setE_frame _ _).2.1)
  generalize s2.setE (s2.tru.config.eFloor + mag e) = s3 at estimated
  have stepApplied : s.SameMarks
      (if stepped = true then (s3.orderFApp (s3.sde.fInt + s.proportional used)).applyStep e
      else s3.orderFApp (s3.sde.fInt + s.proportional used)) := by
    split
    · exact estimated.trans (State.applyStep_sameMarks (s := s3.orderFApp _) e)
    · exact estimated
  generalize (if stepped = true then (s3.orderFApp (s3.sde.fInt + s.proportional used)).applyStep e
      else s3.orderFApp (s3.sde.fInt + s.proportional used)) = s5 at stepApplied
  have ruled := stepApplied.trans (.of_rmu (State.labelRule_selected k l s5) (State.labelRule_frame k l s5).2.1)
  split
  next s6 v eq => rw [eq] at ruled; exact ruled.trans (State.setFromLabel_sameMarks k v)
  next s6 eq => rw [eq] at ruled; exact ruled

theorem State.holdUpdate_sameMarks (n : SlotId) : s.SameMarks (s.holdUpdate n) :=
  .of_rmu (State.setE_selected _ _) (State.holdUpdate_frame n s).1

theorem State.driveItem_sameMarks (k : Seconds) (n : SlotId) (item lf : SlotItem) :
    s.SameMarks (s.driveItem k n item lf) := by
  have good : ∀ e, s.SameMarks (s.goodEpoch e).1 := fun e =>
    .of_rmu (State.goodEpoch_selected e s) (State.goodEpoch_frame e s).1
  unfold State.driveItem
  split
  · dsimp only
    split
    · exact (good _).trans (State.fullUpdate_sameMarks _ _ _ _ _ _)
    · exact good _
  · split
    · refine State.SameMarks.trans (.of_rmu ?_ (State.faultyEpoch_frame s).2.1) (State.holdUpdate_sameMarks n)
      unfold State.faultyEpoch; split <;> rfl
    · exact .refl s
  · split
    · exact State.holdUpdate_sameMarks n
    · exact .refl s
  · exact .refl s

theorem State.judgeAssistance_sameMarks (lf : SlotItem) : s.SameMarks (s.judgeAssistance lf) := by
  refine .of_rmu ?_ (State.judgeAssistance_frame lf s).1
  unfold State.judgeAssistance
  split
  · dsimp only; split <;> rfl
  · split <;> rfl

theorem State.driveStage_sameMarks (k : Seconds) (items : Six SlotItem) : s.SameMarks (s.driveStage k items) := by
  unfold State.driveStage
  split
  · exact State.judgeAssistance_sameMarks _
  · split
    · exact .refl s
    · exact State.driveItem_sameMarks _ _ _ _

theorem State.noteLfHalt_sameMarks (lf : SlotItem) : s.SameMarks (s.noteLfHalt lf) := by
  unfold State.noteLfHalt
  split <;> exact .refl s

theorem State.followStage_selected (old : Option SlotId) (s : State) :
    (s.followStage old).sde.selected = s.sde.selected := by
  have acquire : ∀ x : State, x.enterAcquireFollowing.sde.selected = x.sde.selected := fun x =>
    State.enterClock_selected .acquire x
  unfold State.followStage
  dsimp only
  split
  · split
    · exact acquire s
    · rfl
  · split
    · rfl
    · split
      · rfl
      · split
        · exact State.enterHoldover_selected s
        · exact State.enterFreerun_selected s
  · split
    · rfl
    · split
      · rfl
      · split
        · exact State.enterBridge_selected _
        · exact State.enterHoldover_selected _
  · split <;> rfl
  · split
    · exact acquire _
    · rfl

/-! ## The close as a whole -/

/-- Where the items show the slots' states, the select and the follow stage keep every invariant but that of the selection. -/
theorem State.selectAndFollow_keeps (items : Six SlotItem)
    (shown : ∀ n : SlotId, (items.get n).state = (s.rmu.slots.get n).state) : s.Keeps (s.selectAndFollow items) := by
  have changed : chooseSlot items s.tru.config s.sde.selected ≠ s.sde.selected →
      s.Keeps (s.changeSelection (chooseSlot items s.tru.config s.sde.selected)) := by
    intro moved
    refine State.changeSelection_keeps _ fun h n chosen third => ?_
    rcases chooseSlot_eq_some chosen with candidate | ⟨same, -⟩
    · have usable := ((isCandidate_iff _ _).mp candidate).2.1
      rw [shown] at usable
      have := (h.rmu.2 n).2.2.2.2.2.2.2.2 third
      simp [usable] at this
    · exact moved (chosen.trans same.symm)
  unfold State.selectAndFollow
  dsimp only
  split
  · exact (State.followStage_keeps _).toKeeps
  next moved => exact (changed moved).trans (State.followStage_keeps _).toKeeps

/-- Which slots a close may leave marked: only the selected slot is SELECTED, and it is phase-capable and not USABLE. -/
def State.marksBeforeSelect (s : State) : Prop :=
  (∀ n : SlotId, (s.rmu.slots.get n).state = .selected → s.sde.selected = some n) ∧
  ∀ n : SlotId, s.sde.selected = some n → phaseCapable n = true ∧ (s.rmu.slots.get n).state ≠ .usable

/-- The select and the follow stage mark exactly the slot they choose. -/
theorem State.selectAndFollow_selection (items : Six SlotItem)
    (shown : ∀ n : SlotId, (items.get n).state = (s.rmu.slots.get n).state) (h : s.marksBeforeSelect) :
    (s.selectAndFollow items).selectionConsistent := by
  obtain ⟨only, capable⟩ := h
  unfold State.selectAndFollow
  dsimp only
  generalize chosen : chooseSlot items s.tru.config s.sde.selected = new
  refine State.selectionConsistent_of_states ?_ (State.followStage_selected _ _) fun n => by
    rw [(State.followStage_frame _ _).1]
  split
  next same =>
    refine ⟨only, fun n selected => ⟨(capable n selected).1, .inl ?_⟩⟩
    rw [selected] at same
    rcases chooseSlot_eq_some (chosen.trans same) with candidate | ⟨-, marked⟩
    · exact absurd ((shown n).symm.trans ((isCandidate_iff _ _).mp candidate).2.1) (capable n selected).2
    · exact (shown n).symm.trans marked
  next moved =>
    have marks : ∀ n : SlotId, ((s.changeSelection new).rmu.slots.get n) =
        markSelection s.sde.selected new n (s.rmu.slots.get n) := fun n => Six.get_mapIdx _ _ _
    refine ⟨fun n marked => ?_, fun n selected => ?_⟩
    · rw [marks] at marked
      unfold markSelection at marked
      split at marked
      next taken => exact taken
      · split at marked
        · cases marked
        next kept => exact absurd ⟨only n marked, marked⟩ kept
    · have taken : new = some n := selected
      rw [marks]
      refine ⟨?_, .inl (by rw [markSelection, if_pos taken])⟩
      rcases chooseSlot_eq_some (chosen.trans taken) with candidate | ⟨same, -⟩
      · exact ((isCandidate_iff _ _).mp candidate).1
      · exact absurd (taken.trans same.symm) moved

/-- The USABLE run leaves the state. -/
@[simp] theorem Slot.runOn_state (sl : Slot) : sl.runOn.state = sl.state := by
  unfold Slot.runOn; split <;> rfl

/-- Counting an outcome changes no state but QUALIFYING, to USABLE. -/
theorem Slot.taken_state (k : Seconds) (sl : Slot) :
    (sl.taken k).state = sl.state ∨ sl.state = .qualifying ∧ (sl.taken k).state = .usable := by
  have counted : (sl.taken k).state = (sl.count (sl.outcomeOf k).1 (sl.outcomeOf k).2).state := rfl
  rw [counted]
  unfold Slot.count
  split
  · by_cases reached : sl.state = .qualifying ∧
        sl.settings.qualify ≤ if sl.state = .qualifying then sl.qualifyCount + 1 else sl.qualifyCount
    · exact .inr ⟨reached.1, if_pos reached⟩
    · exact .inl (if_neg reached)
  all_goals exact .inl rfl

/-- A slot that a close does not disqualify has the state that its outcome leaves. -/
theorem Slot.ran_state (k : Seconds) (sl : Slot) :
    (sl.ran k).state = if 3 ≤ (sl.taken k).faultCount then .disqualified else (sl.taken k).state := by
  rw [Slot.ran, Slot.runOn_state]
  split <;> rfl

/-- The state of a slot after a close. -/
theorem Slot.close_state (enable : Bool) (k : Seconds) (sl : Slot) :
    (sl.close enable k).slot.state =
      if sl.state = .off ∨ sl.state = .disqualified then sl.state
      else if sl.state = .halting then (if enable then .qualifying else .off)
      else if 3 ≤ (sl.taken k).faultCount then .disqualified
      else (sl.taken k).state := by
  split
  next idle => rw [Slot.close_of_idle enable k idle]
  next opened =>
    rw [Slot.close_of_open enable k opened]
    dsimp only
    split
    · rfl
    · exact Slot.ran_state k sl

/-- A slot SELECTED after a close was SELECTED before it. -/
theorem Slot.close_selected {sl : Slot} {enable : Bool} {k : Seconds} (h : (sl.close enable k).slot.state = .selected) :
    sl.state = .selected := by
  rw [Slot.close_state] at h
  split_ifs at h
  · exact h
  · rcases sl.taken_state k with same | ⟨-, usable⟩
    · exact same.symm.trans h
    · rw [usable] at h; cases h

/-- A slot that is SELECTED or HALTING is not USABLE after a close. -/
theorem Slot.close_not_usable {sl : Slot} (enable : Bool) (k : Seconds) (h : sl.state = .selected ∨ sl.state = .halting) :
    (sl.close enable k).slot.state ≠ .usable := by
  intro usable
  rw [Slot.close_state] at usable
  split_ifs at usable with idle halting
  · rcases h with h | h <;> rw [h] at usable <;> cases usable
  · have selected := h.resolve_right halting
    rcases sl.taken_state k with same | ⟨qualifying, -⟩
    · rw [same, selected] at usable; cases usable
    · rw [selected] at qualifying; cases qualifying

/-- The state shown in the summary is the slot's state after its close. -/
theorem Slot.close_item_state (enable : Bool) (k : Seconds) (sl : Slot) :
    (sl.close enable k).item.state = (sl.close enable k).slot.state := by
  by_cases idle : sl.state = .off ∨ sl.state = .disqualified
  · rw [Slot.close_of_idle enable k idle]
  · rw [Slot.close_of_open enable k idle]

/-- The part with the slots closed, their notices posted and the summary driven through the loop. -/
def State.drivenClose (k : Seconds) (s : State) : State :=
  let closes := s.slotCloses k
  let items := closes.mapIdx fun _ (c : SlotClose) => c.item
  ((State.forSlots (State.postClose closes) { s with rmu := s.rmu.closed k closes }).driveStage k items).noteLfHalt
    (items.get lfSlot)

/-- The close of an epoch is its drive stage, its selection, and the adoption of the settings. -/
theorem State.closeEpoch_eq (k : Seconds) (s : State) :
    s.closeEpoch k =
      let t := (s.drivenClose k).selectAndFollow ((s.slotCloses k).mapIdx fun _ (c : SlotClose) => c.item)
      { t with rmu := t.rmu.adopt t.tru.config } := rfl

/-- The marks of the drive stage are those of the closed slots. -/
theorem State.drivenClose_sameMarks (k : Seconds) :
    State.SameMarks { s with rmu := s.rmu.closed k (s.slotCloses k) } (s.drivenClose k) := by
  refine State.SameMarks.trans (.of_rmu ?_ ?_) ((State.driveStage_sameMarks _ _).trans (State.noteLfHalt_sameMarks _))
  · rw [(State.postCloses_frame _ _).2.2.1]
  · rw [(State.postCloses_frame _ _).2.1]

/-- The slot that a close leaves. -/
theorem State.closed_get (k : Seconds) (n : SlotId) :
    (s.rmu.closed k (s.slotCloses k)).slots.get n =
      ((s.rmu.slots.get n).close (s.tru.config.slots.get n).enable k).slot := by
  simp only [Rmu.closed, State.slotCloses, Six.get_mapIdx]

theorem State.drivenClose_keeps (k : Seconds) : s.Keeps (s.drivenClose k) :=
  (State.closeSlots_keeps k).trans
    (((State.forSlots_keeps fun n _ => State.postClose_keeps _ n).trans (State.driveStage_keeps _ _)).trans
      (State.noteLfHalt_keeps _)).toKeeps

theorem State.closeEpoch_keeps (k : Seconds) : s.KeepsAll (s.closeEpoch k) := by
  have marks := State.drivenClose_sameMarks (s := s) k
  have shown : ∀ n : SlotId, (((s.slotCloses k).mapIdx fun _ (c : SlotClose) => c.item).get n).state =
      ((s.drivenClose k).rmu.slots.get n).state := by
    intro n
    rw [marks.2 n, State.closed_get, Six.get_mapIdx, State.slotCloses, Six.get_mapIdx, Slot.close_item_state]
  have summary : s.KeepsAll ((s.drivenClose k).selectAndFollow ((s.slotCloses k).mapIdx fun _ (c : SlotClose) => c.item)) := by
    refine ⟨(State.drivenClose_keeps k).trans (State.selectAndFollow_keeps _ shown), fun h => ?_⟩
    refine State.selectAndFollow_selection _ shown ⟨fun n marked => ?_, fun n selected => ?_⟩
    · rw [marks.2 n, State.closed_get] at marked
      exact marks.1.trans (h.1 n (Slot.close_selected marked))
    · obtain ⟨capable, state⟩ := h.2 n (marks.1.symm.trans selected)
      rw [marks.2 n, State.closed_get]
      exact ⟨capable, Slot.close_not_usable _ k state⟩
  rw [State.closeEpoch_eq]
  exact summary.trans State.adopt_keeps

end

end Sys2Proof.Machine
end

section
/-!
PROOFS. That an epoch boundary keeps the invariants (R6): the crossing of the outputs, then each block's work in the order of log 13.
-/

namespace Sys2Proof.Machine

section
variable {s : State}

/-! ## The outputs -/

/-- In service the outputs may change in any way. -/
theorem State.pou_keeps (v : Four Output) (service : s.inService = true) : s.KeepsAll { s with pou := v } :=
  .pou v fun out => by rw [service] at out; cases out

theorem State.actsAtInstants_inService {o : OutId} (h : s.actsAtInstants o = true) : s.inService = true := by
  simp only [State.actsAtInstants, Bool.and_eq_true] at h
  exact h.1.1

theorem State.postSquelch_keeps (o : OutId) (st : OutputState) : s.KeepsAll (s.postSquelch o st) := by
  unfold State.postSquelch
  split
  · exact State.postTo_keeps _ _
  · exact State.postAll_keeps _

theorem State.evaluateOut_keeps {o : OutId} (acts : s.actsAtInstants o = true) (past : Nat) :
    s.KeepsAll (s.evaluateOut o past) := by
  have output : s.KeepsAll (s.setOut o (s.outputAtInstant o past)) :=
    State.pou_keeps _ (State.actsAtInstants_inService acts)
  unfold State.evaluateOut
  dsimp only
  split
  · exact output.trans (State.postSquelch_keeps _ _)
  · exact output

theorem State.crossOutput_keeps (o : OutId) : s.KeepsAll (s.crossOutput o) := by
  unfold State.crossOutput
  split
  next past crossed =>
    refine State.evaluateOut_keeps ?_ past
    unfold State.crossInstant at crossed
    split at crossed
    next h => exact (Bool.and_eq_true_iff.mp h).1
    · cases crossed
  · exact .refl s

theorem State.crossSecond_keeps : s.KeepsAll s.crossSecond :=
  State.passSecond_keeps.trans
    ((((State.crossOutput_keeps 0).trans (State.crossOutput_keeps 1)).trans (State.crossOutput_keeps 2)).trans
      (State.crossOutput_keeps 3))

/-- A change of every output that starts no pulse. -/
theorem State.mapOutputs_keeps (f : OutId → Output → Output)
    (low : ∀ o x, x.pulseLeft = none → (f o x).pulseLeft = none) : s.KeepsAll { s with pou := s.pou.mapIdx f } :=
  .pou _ fun _ o h => by rw [Four.get_mapIdx]; exact low o _ h

theorem State.adoptOutputs_keeps : s.KeepsAll s.adoptOutputs :=
  State.mapOutputs_keeps _ fun _ x h => by unfold Output.adopt; split <;> exact h

theorem State.markPassed_keeps : s.KeepsAll s.markPassed := State.mapOutputs_keeps _ fun _ _ h => h

/-! ## The RMU and the SDE -/

/-- A hold-off that counts stays in its range. -/
theorem Slot.InRange.countHoldOff {n : SlotId} {sl : Slot} (h : sl.InRange n) : sl.countHoldOff.InRange n := by
  obtain ⟨settings, faults, empties, held, streak, usable, qualify, counting, third⟩ := h
  unfold Slot.countHoldOff
  split
  · exact ⟨settings, faults, empties, (Nat.sub_le _ _).trans held, streak, usable, qualify, counting, third⟩
  · exact ⟨settings, faults, empties, held, streak, usable, qualify, counting, third⟩

@[simp] theorem Slot.countHoldOff_state (sl : Slot) : sl.countHoldOff.state = sl.state := by
  unfold Slot.countHoldOff; split <;> rfl

theorem State.rmuBoundary_keeps (k : Seconds) (line : LineClock) : s.KeepsAll (s.rmuBoundary k line) := by
  have measured : s.KeepsAll { s with rmu := if s.spm.power = .run then s.rmu.takeLineClock k line else s.rmu } := by
    split
    · exact State.takeLineClock_keeps k line
    · exact .refl s
  refine measured.trans (State.KeepsAll.rmu
    (s := { s with rmu := if s.spm.power = .run then s.rmu.takeLineClock k line else s.rmu }) _
    (fun h => ⟨h.rmu.1, fun n => ?_⟩) fun n => ?_)
  · rw [Six.get_mapIdx]; exact (h.rmu.2 n).countHoldOff
  · rw [Six.get_mapIdx]; exact Slot.countHoldOff_state _

theorem State.formHours_keeps : s.KeepsAll s.formHours := by
  unfold State.formHours
  split
  · exact .sde _ (fun h => h.sde) rfl rfl rfl rfl
  · exact .refl s

theorem State.predictionStep_keeps : s.KeepsAll s.predictionStep := by
  unfold State.predictionStep
  split
  · exact State.orderFApp_keeps _
  · exact .refl s

theorem State.growE_keeps : s.KeepsAll s.growE := by
  unfold State.growE
  split
  next grows => exact State.setE_keeps _ fun free => by simp [free] at grows
  · exact .refl s

theorem State.countBridge_keeps : s.KeepsAll s.countBridge := by
  unfold State.countBridge
  split
  · exact State.counts_keeps _ rfl rfl fun h =>
      ⟨h.sde.lockCount, h.sde.lockLoss, h.sde.labelMismatch, (Nat.sub_le _ _).trans h.sde.bridge⟩
  · exact .refl s

theorem State.sdeBoundary_keeps : s.KeepsAll s.sdeBoundary :=
  ((State.formHours_keeps.trans State.predictionStep_keeps).trans State.growE_keeps).trans State.countBridge_keeps

/-! ## The OLS -/

/-- A ring to which a later day is appended stays well formed. -/
theorem dayRingOk_appendDay {ring : List DayRecord} (h : dayRingOk ring) {r : DayRecord}
    (later : ∀ x, ring.getLast? = some x → x.day < r.day) : dayRingOk (appendDay ring r) := by
  obtain ⟨short, rising⟩ := h
  have kept : ∃ m, (if 8 ≤ ring.length then ring.drop (ring.length - 7) else ring) = ring.drop m ∧
      (ring.drop m).length ≤ 7 := by
    split
    · exact ⟨ring.length - 7, rfl, by rw [List.length_drop]; omega⟩
    · exact ⟨0, rfl, by rw [List.drop_zero]; omega⟩
  obtain ⟨m, eq, length⟩ := kept
  have below : ∀ x ∈ ring, x.day < r.day := by
    intro x hx
    obtain ⟨front, last, rfl⟩ := List.eq_nil_or_concat ring |>.resolve_left (List.ne_nil_of_mem hx)
    rw [List.concat_eq_append] at *
    have lastBelow := later last (by simp)
    rcases List.mem_append.mp hx with inFront | isLast
    · exact ((List.pairwise_append.mp rising).2.2 x inFront last (by simp)).trans lastBelow
    · rw [List.mem_singleton.mp isLast]; exact lastBelow
  unfold appendDay
  rw [eq]
  refine ⟨by rw [List.length_append, List.length_singleton]; omega, ?_⟩
  refine List.pairwise_append.mpr ⟨rising.sublist (List.drop_sublist m ring), List.pairwise_singleton _ _, ?_⟩
  intro x hx y hy
  rw [List.mem_singleton.mp hy]
  exact below x (List.mem_of_mem_drop hx)

/-- A record is appended only where it is of a later day than the newest. -/
theorem Ols.appends_later {o : Ols} {day : Nat} (h : o.appends day = true) {x : DayRecord}
    (last : o.ring.getLast? = some x) : x.day < day := by
  simp only [Ols.appends, last, Bool.and_eq_true] at h
  simpa using h.2

theorem State.endDay_keeps (day : Nat) : s.KeepsAll { s with ols := s.ols.endDay day } := by
  refine .ols _ (fun h => ?_) fun h => ?_
  · unfold Ols.endDay
    dsimp only
    split <;> exact ⟨h.ols.1, h.ols.2.1, h.ols.2.2.1, Nat.zero_le _⟩
  · unfold Ols.endDay
    dsimp only
    split
    next appends => exact ⟨dayRingOk_appendDay h.1 fun x last => Ols.appends_later appends last, h.2⟩
    · exact h

theorem State.dayBoundary_keeps : s.KeepsAll s.dayBoundary := by
  unfold State.dayBoundary
  split
  · exact (State.endDay_keeps _).trans State.requestWrite_keeps
  · exact .refl s

/-! ## The TRU and the SPM -/

/-- A pending action that ages. -/
theorem State.ageJoint_keeps : s.KeepsAll s.ageJoint := by
  refine .tru _ (fun h => h.tru) (fun _ => rfl) (fun _ _ => rfl) fun h r hr => ?_
  obtain ⟨old, hold, rfl⟩ := Option.map_eq_some_iff.mp hr
  obtain ⟨h1, h2, h3, h4, -⟩ := h old hold
  exact ⟨h1, h2, h3, h4, Nat.min_le_left _ _⟩

/-- A change of the SPM by which neither service nor the oven changes. -/
theorem State.spm_keeps (p : Spm) (range : s.valuesInRange → p.InRange)
    (same : (p.power, p.startPending, p.oven) = (s.spm.power, s.spm.startPending, s.spm.oven)) :
    s.KeepsAll { s with spm := p } := by
  simp only [Prod.mk.injEq] at same
  obtain ⟨power, start, oven⟩ := same
  have service : State.inService { s with spm := p } = s.inService := by
    simp only [State.inService, State.inStart, power, start]
  exact .spm p range oven (fun _ _ h => service.trans h) fun h out => h (service.symm.trans out)

theorem State.spmBoundary_keeps : s.KeepsAll s.spmBoundary := by
  refine State.spm_keeps _ (fun h => ⟨?_, ?_⟩) rfl
  · dsimp only [Spm.boundary]
    split
    · exact Nat.min_le_left _ _
    · exact h.spm.1
  · dsimp only [Spm.boundary]
    split
    · exact (Nat.sub_le _ _).trans h.spm.2
    · exact h.spm.2

/-! ## The boundary as a whole -/

theorem State.raiseBoundary_keeps (line : LineClock) : s.KeepsAll (s.raiseBoundary line) :=
  ((((((State.rmuBoundary_keeps _ line).trans State.sdeBoundary_keeps).trans State.dayBoundary_keeps).trans
    State.startRead_keeps).trans State.ageJoint_keeps).trans State.adoptOutputs_keeps).trans State.spmBoundary_keeps

theorem State.boundary_keeps (line : LineClock) : s.KeepsAll (s.boundary line) := by
  unfold State.boundary
  dsimp only
  split
  · have cleared : s.crossSecond.KeepsAll
        { s.crossSecond with tsg := { s.crossSecond.tsg with reRun := false } } := .tsg _ id rfl
    exact (State.crossSecond_keeps.trans cleared).trans State.markPassed_keeps
  · exact (State.crossSecond_keeps.trans (State.raiseBoundary_keeps line)).trans State.markPassed_keeps

end

end Sys2Proof.Machine
end

section
/-!
PROOFS. That joint actions, the attach and the detach of a tenant keep the invariants (sections 7.2, 7.4 and 7.5).
-/

namespace Sys2Proof.Machine

/-! ## Configuration items stay in the ranges of Table 7-5 -/

theorem clampItem_bounds {lo hi : Int} (h : lo ≤ hi) (v : Int) :
    lo ≤ (clampItem lo hi v).1 ∧ (clampItem lo hi v).1 ≤ hi := by
  unfold clampItem
  split
  next inside => exact inside
  · exact clampTo_bounds h v

/-- A clamped item read as a count. -/
theorem clampItem_toNat_bounds {lo hi : Nat} (h : lo ≤ hi) (v : Int) :
    lo ≤ (clampItem lo hi v).1.toNat ∧ (clampItem lo hi v).1.toNat ≤ hi := by
  have := clampItem_bounds (lo := lo) (hi := hi) (by omega) v
  omega

/-- A slot's settings put anew in a configuration. -/
theorem SiteConfig.inRange_set {c : SiteConfig} (h : c.inRange) {n : SlotId} {x : SlotConfig} (range : x.settings.inRange n) :
    SiteConfig.inRange { c with slots := c.slots.set n x } := by
  refine ⟨fun m => ?_, h.2⟩
  dsimp only
  rw [Six.get_set]
  split
  next same => rw [same]; exact range
  · exact h.1 m

theorem applySlotItem_inRange {c : SiteConfig} (h : c.inRange) (n : SlotId) (setting : Byte) (v : Int) :
    (applySlotItem c n setting v).1.inRange := by
  obtain ⟨priority, gate1, gate2, comp1, comp2, qualify1, qualify2, fresh1, fresh2⟩ := h.1 n
  unfold applySlotItem
  dsimp only
  split
  · have := clampItem_toNat_bounds (lo := 0) (hi := 15) (by decide) v
    exact SiteConfig.inRange_set h ⟨this.2, gate1, gate2, comp1, comp2, qualify1, qualify2, fresh1, fresh2⟩
  · have limit : (if phaseCapable n then (100000000 : Int) else 10000000) = if n = 2 then 10000000 else 100000000 := by
      by_cases lf : n = 2
      · rw [if_pos lf, lf]; rfl
      · have capable : phaseCapable n = true := by simpa [phaseCapable, lfSlot] using lf
        rw [if_neg lf, if_pos capable]
    rw [limit]
    have := clampItem_bounds (lo := 1000) (hi := if n = 2 then 10000000 else 100000000) (by split <;> decide) v
    exact SiteConfig.inRange_set h ⟨priority, this.1, this.2, comp1, comp2, qualify1, qualify2, fresh1, fresh2⟩
  · split
    · have := clampItem_bounds (lo := -1000000) (hi := 1000000) (by decide) v
      exact SiteConfig.inRange_set h ⟨priority, gate1, gate2, this.1, this.2, qualify1, qualify2, fresh1, fresh2⟩
    · exact h
  · have := clampItem_toNat_bounds (lo := 1) (hi := 600) (by decide) v
    exact SiteConfig.inRange_set h ⟨priority, gate1, gate2, comp1, comp2, this.1, this.2, fresh1, fresh2⟩
  · have := clampItem_toNat_bounds (lo := 1) (hi := 60) (by decide) v
    exact SiteConfig.inRange_set h ⟨priority, gate1, gate2, comp1, comp2, qualify1, qualify2, this.1, this.2⟩
  · exact h

/-- A supported interval is a number of the list, taken as it is. -/
theorem isInterval_iff (v : Int) : isInterval v = true ↔ 0 ≤ v ∧ v.toNat ∈ supportedIntervals := by
  simp [isInterval]

/-- Half a supported interval is at least a step of 100 ns and at most 5,000,000 of them. -/
theorem halfInterval_bounds {ms : Nat} (h : ms ∈ supportedIntervals) : 1 ≤ halfInterval ms ∧ halfInterval ms ≤ 5000000 := by
  have bounds : ∀ x ∈ supportedIntervals, 1 ≤ x ∧ x ≤ 1000 := by decide
  have := bounds ms h
  unfold halfInterval
  omega

theorem applySiteItem_inRange {c : SiteConfig} (h : c.inRange) {final : Nat} (interval : final ∈ supportedIntervals)
    (setting : Byte) (v : Int) : (applySiteItem final c setting v).1.inRange := by
  obtain ⟨slots, nominal, bandwidth, lock1, lock2, step1, step2, bridge, wait1, wait2, sigma1, sigma2, floor1, floor2, int,
    width1, width2, offset1, offset2⟩ := h
  unfold applySiteItem
  split
  · have := clampItem_toNat_bounds (lo := 8000) (hi := 25000000) (by decide) v
    exact ⟨slots, this, bandwidth, lock1, lock2, step1, step2, bridge, wait1, wait2, sigma1, sigma2, floor1, floor2, int,
      width1, width2, offset1, offset2⟩
  · have := clampItem_toNat_bounds (lo := 0) (hi := 7) (by decide) v
    exact ⟨slots, nominal, this.2, lock1, lock2, step1, step2, bridge, wait1, wait2, sigma1, sigma2, floor1, floor2, int,
      width1, width2, offset1, offset2⟩
  · have := clampItem_bounds (lo := 10000) (hi := 10000000) (by decide) v
    exact ⟨slots, nominal, bandwidth, this.1, this.2, step1, step2, bridge, wait1, wait2, sigma1, sigma2, floor1, floor2, int,
      width1, width2, offset1, offset2⟩
  · have := clampItem_bounds (lo := 100000) (hi := 100000000) (by decide) v
    exact ⟨slots, nominal, bandwidth, lock1, lock2, this.1, this.2, bridge, wait1, wait2, sigma1, sigma2, floor1, floor2, int,
      width1, width2, offset1, offset2⟩
  · have := clampItem_toNat_bounds (lo := 0) (hi := 600) (by decide) v
    exact ⟨slots, nominal, bandwidth, lock1, lock2, step1, step2, this.2, wait1, wait2, sigma1, sigma2, floor1, floor2, int,
      width1, width2, offset1, offset2⟩
  · split
    · exact ⟨slots, nominal, bandwidth, lock1, lock2, step1, step2, bridge, wait1, wait2, sigma1, sigma2, floor1, floor2, int,
        width1, width2, offset1, offset2⟩
    · split <;> exact ⟨slots, nominal, bandwidth, lock1, lock2, step1, step2, bridge, wait1, wait2, sigma1, sigma2, floor1,
        floor2, int, width1, width2, offset1, offset2⟩
  · have := clampItem_toNat_bounds (lo := 1) (hi := 600) (by decide) v
    exact ⟨slots, nominal, bandwidth, lock1, lock2, step1, step2, bridge, this.1, this.2, sigma1, sigma2, floor1, floor2, int,
      width1, width2, offset1, offset2⟩
  · have := clampItem_bounds (lo := 1) (hi := 10000) (by decide) v
    exact ⟨slots, nominal, bandwidth, lock1, lock2, step1, step2, bridge, wait1, wait2, this.1, this.2, floor1, floor2, int,
      width1, width2, offset1, offset2⟩
  · have := clampItem_bounds (lo := 0) (hi := 1000000) (by decide) v
    exact ⟨slots, nominal, bandwidth, lock1, lock2, step1, step2, bridge, wait1, wait2, sigma1, sigma2, this.1, this.2, int,
      width1, width2, offset1, offset2⟩
  · split
    next supported =>
      exact ⟨slots, nominal, bandwidth, lock1, lock2, step1, step2, bridge, wait1, wait2, sigma1, sigma2, floor1, floor2,
        ((isInterval_iff v).mp supported).2, width1, width2, offset1, offset2⟩
    · exact ⟨slots, nominal, bandwidth, lock1, lock2, step1, step2, bridge, wait1, wait2, sigma1, sigma2, floor1, floor2, int,
        width1, width2, offset1, offset2⟩
  · have half := halfInterval_bounds interval
    have := clampItem_toNat_bounds (lo := 1) half.1 v
    exact ⟨slots, nominal, bandwidth, lock1, lock2, step1, step2, bridge, wait1, wait2, sigma1, sigma2, floor1, floor2, int,
      this.1, this.2.trans half.2, offset1, offset2⟩
  · have := clampItem_bounds (lo := -1000000000) (hi := 1000000000) (by decide) v
    exact ⟨slots, nominal, bandwidth, lock1, lock2, step1, step2, bridge, wait1, wait2, sigma1, sigma2, floor1, floor2, int,
      width1, width2, this.1, this.2⟩
  · exact ⟨slots, nominal, bandwidth, lock1, lock2, step1, step2, bridge, wait1, wait2, sigma1, sigma2, floor1, floor2, int,
      width1, width2, offset1, offset2⟩

/-! ## The interval that an action leaves -/

/-- The OUT3 interval after one item. -/
def intervalAfter (now : Nat) (x : ConfigItem) : Nat :=
  if x.setting = 0x20 ∧ isInterval x.value.toInt then x.value.toInt.toNat else now

theorem finalInterval_cons (now : Nat) (i : ConfigItem) (is : List ConfigItem) :
    finalInterval now (i :: is) = finalInterval (intervalAfter now i) is := rfl

theorem finalInterval_supported {now : Nat} (h : now ∈ supportedIntervals) (is : List ConfigItem) :
    finalInterval now is ∈ supportedIntervals := by
  induction is generalizing now with
  | nil => exact h
  | cons i is ih =>
    rw [finalInterval_cons]
    refine ih ?_
    unfold intervalAfter
    split
    next item => exact ((isInterval_iff _).mp item.2).2
    · exact h

/-- Only the item of that setting changes the OUT3 interval among the site settings. -/
theorem applySiteItem_out3Interval (final : Nat) (c : SiteConfig) (setting : Byte) (v : Int) :
    (applySiteItem final c setting v).1.out3Interval =
      if setting = 0x20 ∧ isInterval v = true then v.toNat else c.out3Interval := by
  have other {k : Nat} (h : setting.toNat = k) (ne : k ≠ 0x20) : setting ≠ 0x20 := by
    rintro rfl; exact ne h.symm
  unfold applySiteItem
  split
  case h_10 h =>
    have is : setting = 0x20 := BitVec.eq_of_toNat_eq h
    split
    next supported => rw [if_pos ⟨is, supported⟩]
    next not => rw [if_neg fun both => not both.2]
  case h_6 h =>
    rw [if_neg (c := setting = 0x20 ∧ isInterval v = true) fun both => other h (by decide) both.1]
    split
    · rfl
    · split <;> rfl
  case h_13 =>
    rw [if_neg]
    rintro ⟨rfl, -⟩
    simp_all
  all_goals
    rename_i h
    rw [if_neg fun both => other h (by decide) both.1]

/-- No per-slot item changes the OUT3 interval. -/
theorem applySlotItem_out3Interval (c : SiteConfig) (n : SlotId) (setting : Byte) (v : Int) :
    (applySlotItem c n setting v).1.out3Interval = c.out3Interval := by
  unfold applySlotItem
  dsimp only
  split
  case h_3 => split <;> rfl
  all_goals rfl

end Sys2Proof.Machine
end

section
/-!
PROOFS. That the execution of each kind of joint action keeps the invariants (sections 7.4 and 7.5).
-/

namespace Sys2Proof.Machine

section
variable {s : State}

/-! ## The configuration (R141, R151) -/

/-- Another configuration in its ranges. -/
theorem State.config_keeps (c : SiteConfig) (range : s.tru.config.inRange → c.inRange) :
    s.KeepsAll { s with tru := { s.tru with config := c } } :=
  .tru _ (fun h => ⟨range h.tru.1, h.tru.2⟩) (fun _ => rfl) (fun _ _ => rfl) id

theorem Slot.InRange.enableOn {n : SlotId} {sl : Slot} (h : sl.InRange n) : sl.enableOn.InRange n := by
  unfold Slot.enableOn
  split
  · exact h.countersZero .qualifying h.2.2.2.1
  all_goals exact h

theorem Slot.InRange.disable {n : SlotId} {sl : Slot} (h : sl.InRange n) : sl.disable.InRange n := by
  obtain ⟨settings, fault, empty, hold, streak, usable, qualify, below, atThree⟩ := h
  unfold Slot.disable
  split
  case h_4 => exact ⟨settings, fault, empty, Nat.zero_le _, streak, usable, qualify, by simp, fun _ => .inr rfl⟩
  case h_5 => exact ⟨settings, fault, empty, hold, streak, usable, qualify, below, atThree⟩
  case h_6 => exact ⟨settings, fault, empty, hold, streak, usable, qualify, below, atThree⟩
  all_goals
    next state =>
      refine ⟨settings, fault, empty, hold, streak, usable, qualify, by simp, fun three => ?_⟩
      simp [state] at atThree
      exact absurd three atThree

/-- No slot is SELECTED once its enable is set off. -/
theorem Slot.disable_not_selected (sl : Slot) : sl.disable.state ≠ .selected := by
  unfold Slot.disable
  split <;> simp_all

/-- A SELECTED or HALTING slot is HALTING once its enable is set off. -/
theorem Slot.disable_halting {sl : Slot} (h : sl.state = .selected ∨ sl.state = .halting) : sl.disable.state = .halting := by
  unfold Slot.disable
  rcases h with h | h <;> rw [h]
  exact h

theorem Slot.enableOn_of_ne_off {sl : Slot} (h : sl.state ≠ .off) : sl.enableOn = sl := by
  unfold Slot.enableOn
  split
  next off => exact absurd off h
  all_goals rfl

theorem Slot.enableOn_selected {sl : Slot} (h : sl.enableOn.state = .selected) : sl.state = .selected := by
  by_cases off : sl.state = .off
  · simp [Slot.enableOn, off] at h
  · rwa [Slot.enableOn_of_ne_off off] at h

theorem State.changeEnable_keeps (n : SlotId) (on : Bool) : s.KeepsAll (s.changeEnable n on) := by
  have slot : s.KeepsAll
      { s with rmu := s.rmu.setSlot n (if on then (s.rmu.slots.get n).enableOn else (s.rmu.slots.get n).disable) } := by
    cases on
    · exact State.setSlot_keeps n _ Slot.InRange.disable (fun h => absurd h (Slot.disable_not_selected _)) fun h =>
        .inr (Slot.disable_halting h)
    · refine State.setSlot_keeps n _ Slot.InRange.enableOn (fun h => Slot.enableOn_selected h) fun h => ?_
      have off : (s.rmu.slots.get n).state ≠ .off := by rintro eq; simp [eq] at h
      show (s.rmu.slots.get n).enableOn.state = _ ∨ (s.rmu.slots.get n).enableOn.state = _
      rwa [Slot.enableOn_of_ne_off off]
  unfold State.changeEnable
  dsimp only
  split
  · exact slot.trans (State.postHalted_keeps n)
  · exact slot

theorem State.configureEnable_keeps (n : SlotId) (v : Int) : s.KeepsAll (s.configureEnable n v).1 := by
  unfold State.configureEnable
  dsimp only
  split
  · split
    · exact .refl s
    · refine State.KeepsAll.trans ?_ (State.changeEnable_keeps n _)
      exact State.config_keeps _ fun h => SiteConfig.inRange_set h (h.1 n)
  · exact .refl s

/-- An item leaves the OUT3 interval or sets it. -/
theorem State.configureItem_out3Interval (final : Nat) (i : ConfigItem) (s : State) :
    (s.configureItem final i).1.tru.config.out3Interval = intervalAfter s.tru.config.out3Interval i := by
  unfold State.configureItem intervalAfter
  dsimp only
  split
  next low =>
    have : i.setting ≠ 0x20 := by rintro h; rw [h] at low; exact absurd low (by decide)
    rw [if_neg fun both => this both.1]
    split
    · rfl
    · split
      · unfold State.configureEnable
        dsimp only
        split
        · split
          · rfl
          · simp only [State.changeEnable]; split <;> rfl
        · rfl
      · exact applySlotItem_out3Interval _ _ _ _
  next => exact applySiteItem_out3Interval _ _ _ _

/-- One item, where the interval that its action leaves is a supported one. -/
theorem State.configureItem_keeps {final : Nat} (interval : s.valuesInRange → final ∈ supportedIntervals) (i : ConfigItem) :
    s.KeepsAll (s.configureItem final i).1 := by
  unfold State.configureItem
  dsimp only
  split
  · split
    · exact .refl s
    · split
      · exact State.configureEnable_keeps _ _
      · exact State.config_keeps _ fun h => applySlotItem_inRange h _ _ _
  · exact .tru _ (fun h => ⟨applySiteItem_inRange h.tru.1 (interval h) _ _, h.tru.2⟩) (fun _ => rfl) (fun _ _ => rfl) id

/-- A configuration in its ranges has a supported OUT3 interval. -/
theorem SiteConfig.inRange.interval {c : SiteConfig} (h : c.inRange) : c.out3Interval ∈ supportedIntervals := by
  obtain ⟨-, -, -, -, -, -, -, -, -, -, -, -, -, -, int, -⟩ := h
  exact int

/-- The items of an action, where the interval they leave is the one that each is judged by. -/
theorem State.configureItems_keeps (is : List ConfigItem) :
    ∀ s : State, s.KeepsAll (s.configureItems (finalInterval s.tru.config.out3Interval is) is).1 := by
  induction is with
  | nil => exact State.KeepsAll.refl
  | cons i is ih =>
    intro s
    have first : s.KeepsAll (s.configureItem (finalInterval s.tru.config.out3Interval (i :: is)) i).1 :=
      State.configureItem_keeps (fun h => finalInterval_supported h.tru.1.interval _) i
    refine first.trans ?_
    have rest := ih (s.configureItem (finalInterval s.tru.config.out3Interval (i :: is)) i).1
    rw [State.configureItem_out3Interval, ← finalInterval_cons] at rest
    exact rest

/-- E raised to a floor above it: in FREERUN no floor is, as E is at its cap there. -/
theorem State.raiseToFloor_keeps : s.KeepsAll s.raiseToFloor := by
  unfold State.raiseToFloor
  split
  next below =>
    refine State.KeepsAll.trans ?_ State.judgeAll_keeps
    refine ⟨⟨id, fun _ => id, fun h => ⟨fun free => ?_, h.2.1, min_le_right _ _⟩, id, id, id, id, id⟩, id⟩
    obtain ⟨invalid, cap⟩ := h.1 free
    exact ⟨invalid, min_eq_right (cap ▸ below.le)⟩
  · exact .refl s

theorem State.formOut3_keeps : s.KeepsAll s.formOut3 := by
  refine .pou _ fun _ o low => ?_
  revert low
  fin_cases o <;> exact id

theorem State.configure_keeps (items : List ConfigItem) : s.KeepsAll (s.configure items).1 := by
  have raised := (State.configureItems_keeps items s).trans State.raiseToFloor_keeps
  unfold State.configure
  dsimp only
  split
  · exact (raised.trans State.formOut3_keeps).trans State.requestWrite_keeps
  · exact raised.trans State.requestWrite_keeps

/-! ## The other kinds (R105, R151, R152) -/

theorem State.clearLearning_keeps : s.KeepsAll s.clearLearning := by
  refine State.KeepsAll.trans ?_ State.requestWrite_keeps
  refine .ols _ (fun h => ⟨h.ols.1, h.ols.2.1, h.ols.2.2.1, Nat.zero_le _⟩) fun h => ?_
  exact ⟨⟨Nat.zero_le _, List.Pairwise.nil⟩, h.2.1, h.2.2⟩

theorem Slot.InRange.restart {n : SlotId} {sl : Slot} (h : sl.InRange n) : sl.restart.InRange n := by
  unfold Slot.restart
  split
  case h_5 => exact h
  case h_6 => exact h
  all_goals exact h.countersZero .qualifying (Nat.zero_le _)

/-- No slot is SELECTED after its restart. -/
theorem Slot.restart_not_selected (sl : Slot) : sl.restart.state ≠ .selected := by
  unfold Slot.restart
  split <;> simp_all

/-- RESTART_CLOCK before its postings and the judgement of the latches. -/
def State.restarted (s : State) : State :=
  { s with
    tsg := { s.tsg with timeValid := false }
    rmu := { s.rmu with slots := s.rmu.slots.mapIdx fun _ sl => sl.restart }
    sde := s.sde.restarted }

/-- The restart keeps every invariant once the latches have followed it. -/
theorem State.restarted_keeps {u : State} (later : s.restarted.KeepsAll u) : s.KeepsAll u.watchLatches where
  values h := by
    refine State.watchLatches_keeps.values (later.values ((State.valuesInRange_iff _).mpr ?_))
    refine ⟨h.time, ⟨h.rmu.1, fun n => ?_⟩, ?_, h.ols, h.tru, h.spm⟩
    · simp only [State.restarted, Six.get_mapIdx]
      exact (h.rmu.2 n).restart
    · exact h.sde.of_counts rfl (Nat.zero_le _) (Nat.zero_le _) (Nat.zero_le _) (Nat.zero_le _)
  tenants A h := State.watchLatches_keeps.tenants A (later.tenants A h)
  clock _ := State.watchLatches_keeps.clock (later.clock ⟨fun _ => ⟨rfl, rfl⟩, by simp [State.restarted, Sde.restarted], le_refl _⟩)
  notices h := State.watchLatches_keeps.notices (later.notices h)
  joint h := State.watchLatches_keeps.joint (later.joint h)
  quiet h := State.watchLatches_keeps.quiet (later.quiet h)
  days h := State.watchLatches_keeps.days (later.days h)
  latches _ := State.watchLatches_consistent _
  selection _ := by
    refine State.watchLatches_keeps.selection (later.selection ⟨fun n selected => ?_, fun n none => by cases none⟩)
    simp only [State.restarted, Six.get_mapIdx] at selected
    exact absurd selected (Slot.restart_not_selected _)

theorem State.restartClock_keeps : s.KeepsAll s.restartClock := by
  have clockPosted : s.restarted.KeepsAll
      (if s.sde.clock = .freerun then s.restarted else s.restarted.postAll s.restarted.clockReport) := by
    split
    · exact .refl _
    · exact State.postAll_keeps _
  have posted : s.restarted.KeepsAll
      (if s.sde.selected.isSome then
        (if s.sde.clock = .freerun then s.restarted else s.restarted.postAll s.restarted.clockReport).postAll (.selection none)
      else if s.sde.clock = .freerun then s.restarted else s.restarted.postAll s.restarted.clockReport) := by
    split
    · exact clockPosted.trans (State.postAll_keeps _)
    · exact clockPosted
  exact (State.restarted_keeps posted).trans State.judgeAll_keeps

theorem State.setStepNow_keeps : s.KeepsAll s.setStepNow := State.pendings_keeps s.sde.stepDecisionPending true

theorem State.carryOut_keeps (k : JointKind) : s.KeepsAll (s.carryOut k).1 := by
  cases k with
  | configure items => exact State.configure_keeps items
  | clearLearning => exact State.clearLearning_keeps
  | stepNow =>
    unfold State.carryOut
    dsimp only
    split
    · exact State.setStepNow_keeps
    · exact .refl s
  | restartClock => exact State.restartClock_keeps

/-! ## The record (R143 to R150) -/

theorem State.endJoint_keeps (r : JointRecord) (e : JointEnding) : s.KeepsAll (s.endJoint r e) :=
  .tru _ (fun h => h.tru) (fun _ => rfl) (fun _ _ => rfl) fun _ _ none => by cases none

theorem State.executeJoint_keeps (r : JointRecord) (atPropose : Bool) : s.KeepsAll (s.executeJoint r atPropose).1 :=
  ((State.carryOut_keeps r.kind).trans (State.endJoint_keeps r _)).trans (State.post_keeps _ _)

/-- No action is pending after one executes. -/
theorem State.executeJoint_joint (r : JointRecord) (atPropose : Bool) (s : State) :
    (s.executeJoint r atPropose).1.tru.joint = none := by
  simp [State.executeJoint]

theorem State.cancelJoint_keeps (why : CancelReason) : s.KeepsAll (s.cancelJoint why) := by
  unfold State.cancelJoint
  split
  · exact .refl s
  · exact (State.endJoint_keeps _ _).trans (State.post_keeps _ _)

/-- No action is pending after a cancellation. -/
theorem State.cancelJoint_joint (why : CancelReason) (s : State) : (s.cancelJoint why).tru.joint = none := by
  unfold State.cancelJoint
  split
  next none => exact none
  · simp

/-- Another pending action among the attached. -/
theorem State.joint_keeps (j : Option JointRecord)
    (ok : s.jointConsistent → State.jointConsistent { s with tru := { s.tru with joint := j } }) :
    s.KeepsAll { s with tru := { s.tru with joint := j } } :=
  .tru _ (fun h => h.tru) (fun _ => rfl) (fun _ _ => rfl) ok

/-- A party that is not the initiator leaves a pending action: what is left of it is consistent. -/
theorem JointRecord.without_consistent {r : JointRecord} {t : Port} (h : s.jointConsistent) (pending : s.tru.joint = some r)
    (other : r.initiator ≠ t) (waits : (r.without t).required ≠ (r.without t).concurred) :
    (r.without t).concurred.get (r.without t).initiator = true ∧
    (∀ u : Port, (r.without t).concurred.get u = true → (r.without t).required.get u = true) ∧
    (∀ u : Port, (r.without t).required.get u = true → u ≠ t ∧ s.attached u = true) ∧
    (r.without t).required ≠ (r.without t).concurred ∧ (r.without t).age ≤ 30 := by
  obtain ⟨initiator, inside, attached, -, age⟩ := h r pending
  refine ⟨?_, fun u hu => ?_, fun u hu => ?_, waits, age⟩
  · simp only [JointRecord.without]
    rw [Three.get_set_ne _ _ other]
    exact initiator
  · simp only [JointRecord.without] at hu ⊢
    rw [Three.get_set] at hu ⊢
    split at hu
    · cases hu
    next ne => rw [if_neg ne]; exact inside u hu
  · simp only [JointRecord.without] at hu
    rw [Three.get_set] at hu
    split at hu
    · cases hu
    next ne => exact ⟨ne, attached u hu⟩

theorem State.leaveJoint_keeps (t : Port) : s.KeepsAll (s.leaveJoint t) := by
  unfold State.leaveJoint
  split
  · exact .refl s
  next r pending =>
    split
    · exact State.cancelJoint_keeps _
    next other =>
      split
      · exact .refl s
      · split
        · exact State.executeJoint_keeps _ _
        next waits =>
          refine State.joint_keeps _ fun h q hq => ?_
          obtain rfl := Option.some.inj hq
          obtain ⟨h1, h2, h3, h4, h5⟩ := JointRecord.without_consistent h pending other waits
          exact ⟨h1, h2, fun u hu => (h3 u hu).2, h4, h5⟩

end

end Sys2Proof.Machine
end

section
/-!
PROOFS. That the attach and the detach of a tenant, and the requests of a tenant, keep the invariants (sections 7.2, 7.4 and 7.5,
chapters 10 and 11).
-/

namespace Sys2Proof.Machine

/-! ## The attached tenants while joint actions are carried out -/

/-- One item of a configuration leaves the tenants. -/
theorem State.configureItem_tenants (final : Nat) (i : ConfigItem) (s : State) :
    (s.configureItem final i).1.tru.tenants = s.tru.tenants := by
  unfold State.configureItem
  dsimp only
  split
  · split
    · rfl
    · split
      · unfold State.configureEnable
        dsimp only
        split
        · split
          · rfl
          · simp only [State.changeEnable]; split <;> rfl
        · rfl
      · rfl
  · rfl

theorem State.configureItems_tenants (final : Nat) (is : List ConfigItem) :
    ∀ s : State, (s.configureItems final is).1.tru.tenants = s.tru.tenants := by
  induction is with
  | nil => exact fun _ => rfl
  | cons i is ih => exact fun s => (ih _).trans (State.configureItem_tenants final i s)

@[simp] theorem State.carryOut_tenants (k : JointKind) (s : State) : (s.carryOut k).1.tru.tenants = s.tru.tenants := by
  cases k with
  | configure items =>
    simp only [State.carryOut, State.configure, State.requestWrite_frame]
    have raised : (s.configureItems (finalInterval s.tru.config.out3Interval items) items).1.raiseToFloor.tru.tenants =
        s.tru.tenants := by
      unfold State.raiseToFloor
      split
      · simpa using State.configureItems_tenants _ items s
      · exact State.configureItems_tenants _ items s
    split
    · exact raised
    · exact raised
  | clearLearning => simp [State.carryOut, State.clearLearning]
  | stepNow => unfold State.carryOut; dsimp only; split <;> rfl
  | restartClock => simp only [State.carryOut, State.restartClock]; split <;> split <;> simp

@[simp] theorem State.executeJoint_tenants (r : JointRecord) (b : Bool) (s : State) :
    (s.executeJoint r b).1.tru.tenants = s.tru.tenants := by
  simp [State.executeJoint]

@[simp] theorem State.cancelJoint_tenants (why : CancelReason) (s : State) :
    (s.cancelJoint why).tru.tenants = s.tru.tenants := by
  unfold State.cancelJoint
  split <;> simp

@[simp] theorem State.leaveJoint_tenants (t : Port) (s : State) : (s.leaveJoint t).tru.tenants = s.tru.tenants := by
  unfold State.leaveJoint
  split
  · rfl
  · split
    · simp
    · split
      · rfl
      · split
        · simp
        · rfl

theorem State.detachTenant_tenants (t : Port) (s : State) :
    (s.detachTenant t).tru.tenants = s.tru.tenants.set t .detached := by
  show ((s.setTenant t .detached).leaveJoint t).tru.tenants = _
  rw [State.leaveJoint_tenants]
  rfl

/-- Who is attached after a detach. -/
theorem State.detachTenant_attached (t u : Port) (s : State) :
    (s.detachTenant t).attached u = if u = t then false else s.attached u := by
  unfold State.attached
  rw [State.detachTenant_tenants, Three.get_set]
  split <;> rfl

section
variable {s : State}

/-! ## The detach (R135) -/

theorem Advertisement.default_inRange : Advertisement.default.InRange := by
  simp [Advertisement.default, Advertisement.InRange]

theorem TenantNotices.detached_ok : TenantNotices.detached.Ok :=
  ⟨⟨List.Pairwise.nil, by simp [TenantNotices.detached]⟩, ⟨List.Pairwise.nil, by simp [TenantNotices.detached]⟩, fun _ => rfl⟩

/-- The pending action of a consistent state is consistent once a tenant has gone and left it. -/
theorem State.leaveJoint_jointConsistent (h : s.jointConsistent) (t : Port) :
    ((s.setTenant t .detached).leaveJoint t).jointConsistent := by
  have still : ∀ u : Port, u ≠ t → s.attached u = true → (s.setTenant t .detached).attached u = true := by
    intro u ne hu
    show ((s.tru.tenants.set t .detached).get u).attached = true
    rw [Three.get_set_ne _ _ ne]
    exact hu
  intro q hq
  unfold State.leaveJoint at hq ⊢
  cases pending : s.tru.joint with
  | none => simp [State.setTenant, pending] at hq
  | some r =>
    simp only [State.setTenant, pending] at hq ⊢
    split at hq
    · rw [State.cancelJoint_joint] at hq; cases hq
    next other =>
      rw [if_neg other]
      split at hq
      next absent =>
        rw [if_pos absent]
        obtain rfl := Option.some.inj hq
        obtain ⟨initiator, inside, attached, differ, age⟩ := h r pending
        refine ⟨initiator, inside, fun u hu => still u ?_ (attached u hu), differ, age⟩
        rintro rfl
        exact Bool.false_ne_true (absent.symm.trans hu)
      next party =>
        rw [if_neg party]
        split at hq
        · rw [State.executeJoint_joint] at hq; cases hq
        next waits =>
          rw [if_neg waits]
          obtain rfl := Option.some.inj hq
          obtain ⟨initiator, inside, attached, differ, age⟩ := JointRecord.without_consistent h pending other waits
          exact ⟨initiator, inside, fun u hu => still u (attached u hu).1 (attached u hu).2, differ, age⟩

/-- The tenants but one stay consistent when that one is set DETACHED. -/
theorem State.setTenant_tenants {A : Port → Prop} (h : s.tenantsConsistentOn A) (t : Port) (r : Tenant) :
    (s.setTenant t r).tenantsConsistentOn fun u => A u ∧ u ≠ t := by
  rintro u ⟨a, ne⟩
  have record : (s.setTenant t r).tru.tenants.get u = s.tru.tenants.get u := Three.get_set_ne _ _ ne
  simp only [State.attached, record]
  exact h u a

/-- What a detach leaves of the tenants once the joint action and the policy have been judged. -/
theorem State.dropTenant_keeps (t : Port) : (s.setTenant t .detached).KeepsAll (s.dropTenant t) :=
  (State.leaveJoint_keeps t).trans State.resolve_keeps

theorem State.dropTenant_detached (t : Port) (s : State) : (s.dropTenant t).tru.tenants.get t = .detached := by
  show ((s.setTenant t .detached).leaveJoint t).tru.tenants.get t = _
  rw [State.leaveJoint_tenants]
  exact Three.get_set_same _ _ _

theorem State.detachTenant_keeps (t : Port) : s.KeepsAll (s.detachTenant t) where
  values h := by
    refine (State.dropTenant_keeps t).values ((State.valuesInRange_iff _).mpr ?_)
    refine ⟨h.time, h.rmu, h.sde, h.ols, ⟨h.tru.1, fun p => ?_, h.tru.2.2⟩, h.spm⟩
    simp only [State.setTenant, Three.get_set]
    split
    · exact Advertisement.default_inRange
    · exact h.tru.2.1 p
  tenants A h u a := by
    by_cases same : u = t
    · subst same
      refine ⟨fun _ => ⟨State.dropTenant_detached u s, Three.get_set_same _ _ _, Three.get_set_same _ _ _⟩, fun inn => ?_⟩
      rw [State.detachTenant_attached, if_pos rfl] at inn
      cases inn
    · have others := (State.dropTenant_keeps t).tenants _ (State.setTenant_tenants h t .detached) u ⟨a, same⟩
      refine ⟨fun out => ?_, others.2⟩
      obtain ⟨record, notices, tol⟩ := others.1 out
      exact ⟨record, (Three.get_set_ne _ _ same).trans notices, (Three.get_set_ne _ _ same).trans tol⟩
  clock h := (State.dropTenant_keeps t).clock h
  notices h u := by
    have others := (State.dropTenant_keeps t).notices h
    simp only [State.detachTenant, State.setTol, State.setNotices, Three.get_set]
    split
    · exact TenantNotices.detached_ok
    · exact others u
  joint h := State.leaveJoint_jointConsistent h t
  quiet h := (State.dropTenant_keeps t).quiet h
  days h := (State.dropTenant_keeps t).days h
  latches h u hu := by
    have gone : State.latchesConsistent (s.setTenant t .detached) := by
      refine State.latchesConsistent_of_le h (fun u hu => ?_) id (fun _ => id) id id fun _ => Latches.LowsLe.refl _
      simp only [State.attached, State.setTenant, Three.get_set] at hu
      split at hu
      · cases hu
      · exact hu
    have ne : u ≠ t := by
      rintro rfl
      rw [State.detachTenant_attached, if_pos rfl] at hu
      cases hu
    have others := (State.dropTenant_keeps t).latches gone u hu
    simp only [State.detachTenant, State.setTol, State.setNotices, Three.get_set_ne _ _ ne]
    exact others
  selection h := (State.dropTenant_keeps t).selection h

/-! ## The attach (R133, R134) -/

/-- The record, the notice state and the flag of a tenant that attaches. -/
theorem State.attachRecord_keeps {t : Port} (out : s.attached t = false) (service : s.inService = true) {adv : Advertisement}
    (range : adv.InRange) (b : Bool) :
    s.KeepsAll
      ((((s.setTenant t { attached := true, adv := adv, ackGen := 0 }).setNotices t .detached).setTol t b).armLatches t) where
  values h := by
    refine (State.valuesInRange_iff _).mpr ⟨h.time, h.rmu, h.sde, h.ols, ⟨h.tru.1, fun p => ?_, h.tru.2.2⟩, h.spm⟩
    simp only [State.armLatches, State.setTol, State.setNotices, State.setTenant, Three.get_set]
    split
    · exact range
    · exact h.tru.2.1 p
  tenants A h u a := by
    simp only [State.attached, State.armLatches, State.setTol, State.setNotices, State.setTenant]
    by_cases same : u = t
    · subst same
      simp only [Three.get_set_same]
      exact ⟨fun h => (by cases h), fun _ => service⟩
    · simp only [Three.get_set_ne _ _ same]
      exact h u a
  clock := id
  notices h u := by
    simp only [State.armLatches, State.setTol, State.setNotices, State.setTenant]
    by_cases same : u = t
    · subst same
      simp only [Three.get_set_same]
      exact TenantNotices.detached_ok
    · simp only [Three.get_set_ne _ _ same]
      exact h u
  joint h r hr := by
    obtain ⟨initiator, inside, attached, differ, age⟩ := h r hr
    refine ⟨initiator, inside, fun u hu => ?_, differ, age⟩
    show ((s.tru.tenants.set t _).get u).attached = true
    rw [Three.get_set]
    split
    · rfl
    · exact attached u hu
  quiet := id
  days := id
  latches h u hu := by
    simp only [State.attached, State.armLatches, State.setTol, State.setNotices, State.setTenant] at hu ⊢
    by_cases same : u = t
    · subst same
      simp only [Three.get_set_same]
      exact ⟨id, by simp [State.armedLatches], by simp [State.armedLatches], by simp [State.armedLatches]⟩
    · simp only [Three.get_set_ne _ _ same] at hu ⊢
      exact h u hu
  selection := id

theorem State.attachTenant_keeps {t : Port} (out : s.attached t = false) (service : s.inService = true)
    {adv : Advertisement} (range : adv.InRange) : s.KeepsAll (s.attachTenant t adv) :=
  ((State.attachRecord_keeps out service range _).trans State.resolve_keeps).trans (State.acknowledge_keeps t)

theorem State.replaceAdvertisement_keeps {t : Port} (attached : s.attached t = true) {adv : Advertisement}
    (range : adv.InRange) : s.KeepsAll (s.replaceAdvertisement t adv) := by
  have replaced : s.KeepsAll (((s.setTenant t { s.tru.tenants.get t with adv := adv }).resolve).acknowledge t) :=
    ((State.tenantRecord_keeps attached adv (s.tru.tenants.get t).ackGen fun _ => range).trans State.resolve_keeps).trans
      (State.acknowledge_keeps t)
  unfold State.replaceAdvertisement
  dsimp only
  split
  · exact replaced
  · exact replaced.trans (State.judgeTenant_keeps t)

theorem takeAdvertisement_inRange {f : AdvertisementFields} {a : TakenAdvertisement} (h : takeAdvertisement f = some a) :
    a.adv.InRange := by
  unfold takeAdvertisement at h
  split at h
  · obtain rfl := Option.some.inj h
    have limit := clampTo_bounds (lo := limitRange.1) (hi := limitRange.2) (by decide) (signed f.limit)
    have slew := clampTo_bounds (lo := slewRange.1) (hi := slewRange.2) (by decide) (signed f.slew)
    exact ⟨limit.1, limit.2, slew.1, slew.2⟩
  · cases h

theorem State.actAdvertise_keeps {t : Port} (attached : s.attached t = true) (f : AdvertisementFields) :
    s.KeepsAll (s.actAdvertise t f).1 := by
  unfold State.actAdvertise
  split
  · exact .refl s
  next a taken => exact State.replaceAdvertisement_keeps attached (takeAdvertisement_inRange taken)

theorem State.actAttach_keeps {t : Port} (service : s.inService = true) (f : AdvertisementFields) :
    s.KeepsAll (s.actAttach t f).1 := by
  unfold State.actAttach
  split
  next attached => exact State.actAdvertise_keeps attached f
  next out =>
    split
    · exact .refl s
    · split
      · exact .refl s
      next a taken =>
        exact State.attachTenant_keeps (Bool.eq_false_iff.mpr out) service (takeAdvertisement_inRange taken)

/-! ## Joint requests (R144 to R146) -/

theorem State.serial_keeps (n : Byte) : s.KeepsAll { s with tru := { s.tru with serial := n } } :=
  .tru _ (fun h => h.tru) (fun _ => rfl) (fun _ _ => rfl) id

theorem State.attachedSet_get (u : Port) (s : State) : s.attachedSet.get u = s.attached u := Three.get_mapIdx _ _ _

/-- A proposal that awaits others is a consistent pending action. -/
theorem State.askParties_keeps {t : Port} (attached : s.attached t = true) (k : JointKind)
    (waits : (s.proposalRecord t k).required ≠ (s.proposalRecord t k).concurred) :
    s.KeepsAll (s.askParties (s.proposalRecord t k)) := by
  refine State.KeepsAll.trans ?_ (State.post_keeps _ _)
  refine .tru _ (fun h => h.tru) (fun _ => rfl) (fun _ _ => rfl) fun _ r hr => ?_
  obtain rfl := Option.some.inj hr
  refine ⟨Three.get_set_same _ _ _, fun u hu => ?_, fun u hu => ?_, waits, Nat.zero_le _⟩
  · simp only [State.proposalRecord, State.attachedSet_get] at hu ⊢
    rw [Three.get_set] at hu
    split at hu
    next same => rw [same]; exact attached
    · simp at hu
  · exact (State.attachedSet_get u s).symm.trans hu

theorem State.actPropose_keeps {t : Port} (attached : s.attached t = true) (kind : Byte) (items : List ConfigItem) :
    s.KeepsAll (s.actPropose t kind items).1 := by
  unfold State.actPropose
  split
  · exact .refl s
  next k _ =>
    split
    · exact .refl s
    · dsimp only
      split
      · exact (State.serial_keeps _).trans (State.executeJoint_keeps _ _)
      next waits => exact State.askParties_keeps attached k waits

theorem State.pendingSerial_joint {serial : Byte} {r : JointRecord} (h : s.pendingSerial serial = some r) :
    s.tru.joint = some r := by
  unfold State.pendingSerial at h
  obtain ⟨q, pending, same⟩ := Option.bind_eq_some_iff.mp h
  split at same
  · exact pending.trans same
  · cases same

theorem State.actConcur_keeps (t : Port) (serial : Byte) : s.KeepsAll (s.actConcur t serial).1 := by
  unfold State.actConcur
  split
  · exact .refl s
  next r found =>
    split
    · exact .refl s
    next party =>
      split
      · exact .refl s
      · split
        · exact State.executeJoint_keeps _ _
        next waits =>
          refine State.joint_keeps _ fun h q hq => ?_
          obtain rfl := Option.some.inj hq
          obtain ⟨initiator, inside, attached, -, age⟩ := h r (State.pendingSerial_joint found)
          refine ⟨?_, fun u hu => ?_, attached, waits, age⟩
          · simp only [JointRecord.joinedBy, Three.get_set]
            split
            · rfl
            · exact initiator
          · simp only [JointRecord.joinedBy, Three.get_set] at hu ⊢
            split at hu
            next same => rw [same]; simpa using party
            · exact inside u hu

theorem State.actDecline_keeps (t : Port) (serial : Byte) : s.KeepsAll (s.actDecline t serial).1 := by
  unfold State.actDecline
  split
  · exact .refl s
  · split
    · exact .refl s
    · exact State.cancelJoint_keeps _

/-! ## Notice requests (R202 to R205) -/

/-- The notice state of an attached tenant, with its latches. -/
theorem State.setNotices_keeps {t : Port} (attached : s.attached t = true) (n : TenantNotices)
    (ok : (s.nu.get t).Ok → n.Ok) (latches : n.latches = (s.nu.get t).latches) : s.KeepsAll (s.setNotices t n) := by
  refine .nu_of_lows _ (fun u out => ?_) (fun u h => ?_) fun u => ?_
  · exact Three.get_set_ne _ _ fun same => by simp [same, attached] at out
  · rw [Three.get_set]; split
    next same => exact ok (same ▸ h)
    · exact h
  · rw [Three.get_set]; split
    next same => rw [latches, same]; exact .refl _
    · exact .refl _

/-- A sublist of a well-formed notice set is well formed. -/
theorem noticeSetOk.sublist {ns ms : List Notice} (h : noticeSetOk ns) (sub : ms.Sublist ns) : noticeSetOk ms :=
  ⟨h.1.sublist sub, fun n hn => h.2 n (sub.subset hn)⟩

/-- A release leaves the notice state well formed. -/
theorem TenantNotices.Ok.release {n : TenantNotices} (h : n.Ok) : n.release.Ok := by
  obtain ⟨notices, pending, -⟩ := h
  refine ⟨?_, ⟨List.Pairwise.nil, fun m hm => by simp [TenantNotices.release] at hm⟩, fun _ => rfl⟩
  have counts : ∀ p ∈ n.pending.filter (fun p => kindEnabled n.mask p.kind), 1 ≤ p.count ∧ p.count ≤ 255 :=
    fun p hp => pending.2 p (List.mem_of_mem_filter hp)
  show noticeSetOk (List.foldl _ _ (n.pending.filter fun p => kindEnabled n.mask p.kind))
  revert counts notices
  generalize n.notices = ns
  induction n.pending.filter (fun p => kindEnabled n.mask p.kind) generalizing ns with
  | nil => exact fun h _ => h
  | cons p ps ih =>
    intro h counts
    obtain ⟨one, most⟩ := counts p List.mem_cons_self
    exact ih _ (noticeSetOk_fileNotice h one most) fun q hq => counts q (List.mem_cons_of_mem p hq)

theorem State.actClearNotices_keeps {t : Port} (attached : s.attached t = true) (kinds : List Byte) :
    s.KeepsAll (s.actClearNotices t kinds).1 := by
  unfold State.actClearNotices
  split
  · exact .refl s
  · exact State.setNotices_keeps attached _ (fun h => ⟨h.1.sublist List.filter_sublist, h.2⟩) rfl

/-! ## Outputs (R156) -/

/-- One output changed, its pulse as it was or ended. -/
theorem State.setOut_keeps (o : OutId) (x : Output) (low : (s.pou.get o).pulseLeft = none → x.pulseLeft = none) :
    s.KeepsAll (s.setOut o x) := by
  refine .pou _ fun _ q hq => ?_
  rw [Four.get_set]
  split
  next same => exact low (same ▸ hq)
  · exact hq

theorem State.actSetOutput_keeps (t : Port) (f : OutputFields) : s.KeepsAll (s.actSetOutput t f).1 := by
  unfold State.actSetOutput
  dsimp only
  split
  · exact .refl s
  · exact State.setOut_keeps _ _ id

/-! ## The ports (R183 to R189) -/

/-- One port changed, IDLE with its overrun flag clear where it was so out of service. -/
theorem State.setPort_keeps (t : Port) (p : TenantPort)
    (idle : s.inService = false → (s.tpi.get t).state = .idle → (s.tpi.get t).overrun = false →
      p.state = .idle ∧ p.overrun = false) : s.KeepsAll (s.setPort t p) := by
  refine .tpi _ fun out u hu => ?_
  rw [Three.get_set]
  split
  next same => exact idle out (same ▸ hu.1) (same ▸ hu.2)
  · exact hu

/-- A request keeps what its act keeps, where that is in service and for an attached tenant or one that need not be. -/
theorem State.takeRequest_keeps (may : Bool) (t : Port) (code : Byte) (tag : Word16) (refusal : Body)
    (act : State → State × Answer)
    (h : s.inService = true → (s.attached t || may) = true → s.KeepsAll (act s).1)
    (spm : (act s).1.spm = s.spm) : s.KeepsAll (s.takeRequest may t code tag refusal act) := by
  unfold State.takeRequest
  split
  · exact State.setPort_keeps t _ fun _ state overrun => ⟨state, overrun⟩
  next out =>
    have service : s.inService = true := by simpa using out
    split
    · exact State.setPort_keeps t _ fun off => absurd service (by rw [off]; decide)
    · dsimp only [State.dispatch]
      split
      next may =>
        refine (h service may).trans (State.setPort_keeps t _ fun off => ?_)
        have same : (act s).1.inService = s.inService := by unfold State.inService State.inStart; rw [spm]
        exact absurd (same.trans service) (by rw [off]; decide)
      · exact State.setPort_keeps t _ fun off => absurd service (by rw [off]; decide)

theorem State.takeMalformed_keeps (t : Port) (code : Byte) (tag : Word16) : s.KeepsAll (s.takeMalformed t code tag) :=
  State.takeRequest_keeps _ _ _ _ _ _ (fun _ _ => .refl s) rfl

end

end Sys2Proof.Machine
end

section
/-!
PROOFS. That the power states and the starts keep the invariants, and with them every command and every step (chapter 9).
-/

namespace Sys2Proof.Machine

section
variable {s : State}

/-! ## Entry to keep-alive (R170) -/

theorem State.detachIfAttached_keeps (t : Port) : s.KeepsAll (s.detachIfAttached t) := by
  unfold State.detachIfAttached
  split
  · exact State.detachTenant_keeps t
  · exact .refl s

theorem State.forPorts_keeps {f : Port → State → State} (h : ∀ (t : Port) (s : State), s.KeepsAll (f t s)) :
    s.KeepsAll (s.forPorts f) :=
  ((h 0 _).trans (h 1 _)).trans (h 2 _)

theorem State.detachAll_keeps : s.KeepsAll s.detachAll :=
  (State.cancelJoint_keeps _).trans (State.forPorts_keeps fun t _ => State.detachIfAttached_keeps t)

/-- Who is attached after a detach of one tenant, where it was attached. -/
theorem State.detachIfAttached_attached (t u : Port) (s : State) :
    (s.detachIfAttached t).attached u = if u = t then false else s.attached u := by
  unfold State.detachIfAttached
  split
  · exact State.detachTenant_attached t u s
  next out =>
    split
    next same => rw [same]; exact Bool.eq_false_iff.mpr out
    · rfl

/-- No tenant is attached after all are detached. -/
theorem State.detachAll_attached (s : State) (u : Port) : s.detachAll.attached u = false := by
  simp only [State.detachAll, State.forPorts, State.detachIfAttached_attached]
  fin_cases u <;> simp

theorem State.closePort_keeps (t : Port) : s.KeepsAll (s.closePort t) :=
  State.setPort_keeps t _ fun _ _ _ => ⟨rfl, rfl⟩

/-- The ports after all are closed. -/
theorem State.closePorts_tpi (s : State) (u : Port) :
    ((s.forPorts State.closePort).tpi.get u).state = .idle ∧ ((s.forPorts State.closePort).tpi.get u).overrun = false := by
  fin_cases u <;> exact ⟨rfl, rfl⟩

theorem State.keepAliveClock_keeps : s.KeepsAll s.keepAliveClock := by
  unfold State.keepAliveClock
  split
  next locked => exact State.enterHoldover_keeps fun h => h.2.1 (.inl locked)
  next bridge => exact State.enterHoldover_keeps fun h => h.2.1 (.inr (.inl bridge))
  next =>
    split
    next valid => exact State.enterHoldover_keeps fun _ => valid
    next invalid => exact State.enterFreerun_keeps (Bool.eq_false_iff.mpr invalid)
  next =>
    split
    · exact State.endAssistance_keeps
    · exact .refl s
  · exact .refl s

theorem State.sdeKeepAlive_keeps : s.Keeps s.sdeKeepAlive := by
  have posted : s.KeepsAll (if s.sde.selected.isSome then s.postAll (.selection none) else s) := by
    split
    · exact State.postAll_keeps _
    · exact .refl s
  refine (posted.trans State.keepAliveClock_keeps).toKeeps.trans ?_
  exact .sde _ (fun h => h.sde.of_counts rfl (Nat.zero_le _) (Nat.zero_le _) (Nat.zero_le _) (Nat.zero_le _)) rfl rfl rfl

theorem State.postEndedHalts_keeps (n : SlotId) : s.KeepsAll (s.postEndedHalts n) := by
  unfold State.postEndedHalts
  split
  · exact State.postHalted_keeps n
  · exact .refl s

theorem Slot.InRange.keepAlive {n : SlotId} {sl : Slot} (h : sl.InRange n) (enable : Bool) :
    (sl.keepAlive enable).InRange n := by
  unfold Slot.keepAlive
  split
  case h_4 => exact h.endHalt enable
  case h_5 => exact h
  case h_6 => exact h
  all_goals exact h.countersZero .qualifying h.2.2.2.1

/-- No slot is SELECTED after entry to keep-alive. -/
theorem Slot.keepAlive_not_selected (enable : Bool) (sl : Slot) : (sl.keepAlive enable).state ≠ .selected := by
  unfold Slot.keepAlive
  split
  case h_4 => cases enable <;> simp [Slot.endHalt]
  all_goals simp_all

/-- The halts that end change the notices alone. -/
theorem State.postEndedHalts_frame (n : SlotId) (s : State) :
    (s.postEndedHalts n).rmu = s.rmu ∧ (s.postEndedHalts n).sde = s.sde ∧ (s.postEndedHalts n).tru = s.tru ∧
      (s.postEndedHalts n).tpi = s.tpi ∧ (s.postEndedHalts n).spm = s.spm := by
  unfold State.postEndedHalts
  split <;> simp

theorem State.endedHalts_frame (s : State) :
    (s.forSlots State.postEndedHalts).rmu = s.rmu ∧ (s.forSlots State.postEndedHalts).sde = s.sde ∧
      (s.forSlots State.postEndedHalts).tru = s.tru ∧ (s.forSlots State.postEndedHalts).tpi = s.tpi ∧
      (s.forSlots State.postEndedHalts).spm = s.spm := by
  simp only [State.forSlots, State.postEndedHalts_frame, and_self]

@[simp] theorem State.rmuKeepAlive_rmu (s : State) : s.rmuKeepAlive.rmu = s.rmu.keepAlive s.tru.config := by
  obtain ⟨rmu, -, tru, -⟩ := s.endedHalts_frame
  show (s.forSlots State.postEndedHalts).rmu.keepAlive (s.forSlots State.postEndedHalts).tru.config = _
  rw [rmu, tru]

@[simp] theorem State.rmuKeepAlive_frame (s : State) :
    s.rmuKeepAlive.sde = s.sde ∧ s.rmuKeepAlive.tru = s.tru ∧ s.rmuKeepAlive.tpi = s.tpi ∧ s.rmuKeepAlive.spm = s.spm := by
  obtain ⟨-, same⟩ := s.endedHalts_frame
  simpa only [State.rmuKeepAlive] using same

theorem Rmu.InRange.keepAlive {r : Rmu} (h : r.InRange) (c : SiteConfig) : (r.keepAlive c).InRange := by
  refine ⟨h.1, fun n => ?_⟩
  simp only [Rmu.keepAlive, Six.get_mapIdx]
  exact (h.2 n).keepAlive _

/-- The RMU at entry to keep-alive, where the SDE has no selected slot. -/
theorem State.rmuKeepAlive_keeps : s.Keeps s.rmuKeepAlive := by
  refine State.Keeps.trans (State.forSlots_keeps fun n _ => State.postEndedHalts_keeps n).toKeeps ?_
  exact State.Keeps.rmu (s := s.forSlots State.postEndedHalts) _ fun h => h.rmu.keepAlive _

/-- The selection is at rest once entry to keep-alive has ended it. -/
theorem State.keepAlive_selection (s : State) : s.sdeKeepAlive.rmuKeepAlive.selectionConsistent := by
  have none : s.sdeKeepAlive.rmuKeepAlive.sde.selected = none := by
    rw [s.sdeKeepAlive.rmuKeepAlive_frame.1]; rfl
  refine ⟨fun n marked => ?_, fun n h => by rw [none] at h; cases h⟩
  rw [State.rmuKeepAlive_rmu] at marked
  simp only [Rmu.keepAlive, Six.get_mapIdx] at marked
  exact absurd marked (Slot.keepAlive_not_selected _ _)

theorem State.slotsKeepAlive_keeps : s.KeepsAll s.sdeKeepAlive.rmuKeepAlive :=
  ⟨State.sdeKeepAlive_keeps.trans State.rmuKeepAlive_keeps, fun _ => s.keepAlive_selection⟩

theorem State.dropPulses_keeps : s.KeepsAll s.dropPulses :=
  State.mapOutputs_keeps _ fun _ _ _ => rfl

/-- A change of the SPM out of service, where the part stays out of service. -/
theorem State.offSpm_keeps (p : Spm) (range : s.valuesInRange → p.InRange) (oven : p.oven = s.spm.oven)
    (off : s.inService = false) : s.KeepsAll { s with spm := p } :=
  .spm p range oven (fun _ _ on => by rw [off] at on; cases on) fun h _ => h off

/-- The blocks before the SPM takes its new power state: no tenant is attached, the ports are IDLE and the pins low. -/
def State.closedForKeepAlive (s : State) : State :=
  (((s.detachAll.forPorts State.closePort).sdeKeepAlive).rmuKeepAlive).dropPulses.requestWrite

theorem State.closedForKeepAlive_keeps : s.KeepsAll s.closedForKeepAlive := by
  have closed := State.detachAll_keeps.trans (s := s) (State.forPorts_keeps fun t _ => State.closePort_keeps t)
  unfold State.closedForKeepAlive
  refine State.KeepsAll.trans ?_ State.requestWrite_keeps
  refine State.KeepsAll.trans ?_ State.dropPulses_keeps
  exact closed.trans State.slotsKeepAlive_keeps

@[simp] theorem State.keepAliveClock_frame (s : State) :
    s.keepAliveClock.tru = s.tru ∧ s.keepAliveClock.tpi = s.tpi ∧ s.keepAliveClock.spm = s.spm := by
  unfold State.keepAliveClock
  split
  · simp
  · simp
  · split <;> simp
  · split
    · simp [State.endAssistance]
    · simp
  · simp

@[simp] theorem State.sdeKeepAlive_frame (s : State) :
    s.sdeKeepAlive.tru = s.tru ∧ s.sdeKeepAlive.tpi = s.tpi ∧ s.sdeKeepAlive.spm = s.spm := by
  simp only [State.sdeKeepAlive, State.keepAliveClock_frame]
  split <;> simp

theorem State.closedForKeepAlive_blocks (s : State) :
    s.closedForKeepAlive.tru = s.detachAll.tru ∧
      s.closedForKeepAlive.tpi = (s.detachAll.forPorts State.closePort).tpi := by
  unfold State.closedForKeepAlive
  generalize s.detachAll = detached
  have pulses : ∀ u : State, u.dropPulses.tru = u.tru ∧ u.dropPulses.tpi = u.tpi := fun _ => ⟨rfl, rfl⟩
  simp only [State.requestWrite_frame, pulses, State.rmuKeepAlive_frame, State.sdeKeepAlive_frame]
  exact ⟨rfl, trivial⟩

theorem State.closedForKeepAlive_attached (s : State) (u : Port) : s.closedForKeepAlive.attached u = false := by
  unfold State.attached
  rw [s.closedForKeepAlive_blocks.1]
  exact s.detachAll_attached u

theorem State.closedForKeepAlive_tpi (s : State) (u : Port) :
    (s.closedForKeepAlive.tpi.get u).state = .idle ∧ (s.closedForKeepAlive.tpi.get u).overrun = false := by
  rw [s.closedForKeepAlive_blocks.2]
  exact s.detachAll.closePorts_tpi u

theorem State.closedForKeepAlive_pou (s : State) (o : OutId) : (s.closedForKeepAlive.pou.get o).pulseLeft = none := by
  simp [State.closedForKeepAlive]

theorem State.enterKeepAlive_eq (s : State) : s.enterKeepAlive = s.closedForKeepAlive.spmKeepAlive := rfl

theorem State.enterKeepAlive_keeps : s.KeepsAll s.enterKeepAlive := by
  rw [State.enterKeepAlive_eq]
  refine State.closedForKeepAlive_keeps.trans ?_
  have none := s.closedForKeepAlive_attached
  have low := s.closedForKeepAlive_pou
  have idle := s.closedForKeepAlive_tpi
  generalize s.closedForKeepAlive = u at none low idle
  exact .spm _ (fun h => h.spm) rfl (fun t on => by rw [none] at on; cases on) fun _ _ => ⟨low, idle⟩

theorem State.enterKeepAlive_inService (s : State) : s.enterKeepAlive.inService = false := by
  show (!_ && PowerState.keepalive == PowerState.run) = false
  simp

theorem State.inService_of_power {s : State} (h : s.spm.power ≠ .run) : s.inService = false := by
  unfold State.inService
  simp [h]

theorem State.enterColdKeep_keeps (off : s.inService = false) : s.KeepsAll s.enterColdKeep := by
  refine State.KeepsAll.trans ?_ State.ovenOff_keeps
  exact State.offSpm_keeps _ (fun h => h.spm) rfl off

theorem State.leaveColdKeep_keeps (off : s.inService = false) : s.KeepsAll s.leaveColdKeep := by
  refine State.KeepsAll.trans ?_ State.ovenOn_keeps
  exact State.offSpm_keeps _ (fun h => h.spm) rfl off

/-! ## The return to RUN (R172) -/

theorem State.resumeRun_keeps (started : s.inStart = false) : s.KeepsAll s.resumeRun := by
  have marked : s.KeepsAll { s with rmu := { s.rmu with lastClosed := s.tsg.seconds } } :=
    State.keeps_of_slots _ rfl fun _ => rfl
  have waiting := marked.trans (State.mapOutputs_keeps (fun _ o => { o with resumeWait := true }) fun _ _ h => h)
  refine waiting.trans ?_
  have service : s.resumeRun.inService = true := by
    show (!s.inStart && PowerState.run == PowerState.run) = true
    rw [started]; rfl
  exact .spm _ (fun h => h.spm) rfl (fun _ _ _ => service) fun _ off => absurd (off.symm.trans service) (by decide)

theorem State.returnToRun_keeps (started : s.inStart = false) : s.KeepsAll s.returnToRun := by
  unfold State.returnToRun
  dsimp only
  split
  · exact (State.resumeRun_keeps started).trans State.ovenOn_keeps
  · exact State.resumeRun_keeps started

end

end Sys2Proof.Machine
end

section
/-!
PROOFS. That the starts, every command and every step keep the invariants.
-/

namespace Sys2Proof.Machine

section
variable {s : State}

/-! ## Starts (R178 to R180) -/

/-- A slot with the start values is in range. -/
theorem Slot.atStart_inRange {n : SlotId} {c : SlotConfig} (h : c.settings.inRange n) : (Slot.atStart c).InRange n := by
  have qualify : 0 < c.settings.qualify := h.2.2.2.2.2.1
  exact ⟨h, Nat.zero_le _, Nat.zero_le _, Nat.zero_le _, Nat.zero_le _, Nat.zero_le _, Nat.zero_le _, fun _ => qualify,
    fun three => absurd three (by simp [Slot.atStart])⟩

/-- No slot is SELECTED at a start. -/
theorem Slot.atStart_not_selected (c : SlotConfig) : (Slot.atStart c).state ≠ .selected := by
  unfold Slot.atStart
  dsimp only
  split <;> simp

theorem Policy.noTenant_inRange : Policy.noTenant.InRange := by
  simp [Policy.noTenant, Policy.InRange]

/-- The start values, with a configuration in its ranges and a store that holds what the store held, keep every invariant. -/
theorem State.startValues_keeps (cause : StartCause) {c : SiteConfig} {store : Option StoredRecord}
    (config : s.valuesInRange → c.inRange)
    (stored : ∀ r, store = some r → ∃ q, s.ols.store = some q ∧ r.content = q.content) :
    s.KeepsAll (s.startValues (some cause) c store) where
  values h := by
    have range := config h
    refine (State.valuesInRange_iff _).mpr ⟨?_, ⟨range.2.1, fun n => ?_⟩, ?_, ⟨by simp [State.startValues, Ols.atStart], ?_,
      Nat.zero_le _, Nat.zero_le _⟩, ⟨range, fun p => ?_, Policy.noTenant_inRange⟩, Nat.zero_le _, Nat.zero_le _⟩
    · simp [State.timeInRange, State.startValues, Tsg.atStart, psPerSecond, unitsPerPs, corrLimit]
    · simp only [State.startValues, Rmu.atStart, Six.get_mapIdx]
      exact Slot.atStart_inRange (range.1 n)
    · have zero : -corrLimit ≤ 0 ∧ (0 : Int) ≤ corrLimit := by decide
      exact ⟨range.2.1, zero.1, zero.2, zero.1, zero.2, le_refl _, le_refl _, Nat.zero_le _, Nat.zero_le _,
        Nat.zero_le _, Nat.zero_le _, Nat.zero_le _⟩
    · intro r hr
      obtain ⟨q, held, same⟩ := stored r hr
      rw [same]
      exact h.ols.2.1 q held
    · simp only [State.startValues, Tru.atStart, Three.get_fill]
      exact Advertisement.default_inRange
  tenants A _ t _ := by
    simp [State.attached, State.startValues, Tru.atStart, Sde.atStart, Tenant.detached]
  clock _ := ⟨fun _ => ⟨rfl, rfl⟩, by simp [State.startValues, Sde.atStart], le_refl _⟩
  notices _ t := by
    simp only [State.startValues, Three.get_fill]
    exact TenantNotices.detached_ok
  joint _ r none := by cases none
  quiet _ _ := by
    refine ⟨fun o => ?_, fun t => ?_⟩
    · fin_cases o <;> rfl
    · simp [State.startValues]
  days h := by
    refine ⟨⟨Nat.zero_le _, List.Pairwise.nil⟩, by simp [State.startValues, Ols.atStart], fun r hr => ?_⟩
    obtain ⟨q, held, same⟩ := stored r hr
    rw [same]
    exact h.2.2 q held
  latches _ t on := by
    simp [State.attached, State.startValues, Tru.atStart, Tenant.detached] at on
  selection _ := by
    refine ⟨fun n marked => ?_, fun n none => by cases none⟩
    simp only [State.startValues, Rmu.atStart, Six.get_mapIdx] at marked
    exact absurd marked (Slot.atStart_not_selected _)

theorem SiteConfig.factory_inRange : SiteConfig.factory.inRange := by decide

/-- A store that a start interrupts holds the content it held. -/
theorem Ols.interruptedStore_content {o : Ols} {intact : Bool} {r : StoredRecord} (h : o.interruptedStore intact = some r) :
    ∃ q, o.store = some q ∧ r.content = q.content := by
  unfold Ols.interruptedStore at h
  split at h
  · obtain ⟨q, held, rfl⟩ := Option.map_eq_some_iff.mp h
    exact ⟨q, held, rfl⟩
  · exact ⟨r, h, rfl⟩

theorem State.freeIndex_keeps (i : Nat) : s.KeepsAll { s with freeIndex := i } :=
  State.KeepsAll.outside s.pending i s.pins

theorem State.pins_keeps (p : Pins) : s.KeepsAll { s with pins := p } :=
  State.KeepsAll.outside s.pending s.freeIndex p

theorem State.beginStart_keeps (cause : StartCause) : s.KeepsAll (s.beginStart cause) := by
  have values : s.KeepsAll
      (s.startValues (some cause) .factory (s.ols.interruptedStore (Config.storeLeftIntact s.freeIndex))) :=
    State.startValues_keeps cause (fun _ => SiteConfig.factory_inRange) fun _ => Ols.interruptedStore_content
  unfold State.beginStart
  dsimp only
  split
  · exact values.trans (State.freeIndex_keeps _)
  · exact values

theorem restoredConfig_inRange {store : Option StoredRecord} (h : ∀ r ∈ store, r.content.config.inRange) :
    (restoredConfig store).inRange := by
  unfold restoredConfig
  split
  next r =>
    split
    · exact h r rfl
    · exact SiteConfig.factory_inRange
  · exact SiteConfig.factory_inRange

/-- The restore takes of the store no more than the day ring that an invariant reads. -/
theorem State.restore_keeps : s.KeepsAll { s with ols := s.ols.restore } := by
  unfold Ols.restore
  split
  next r held =>
    split
    · exact .ols _ (fun h => h.ols) fun h => ⟨h.2.2 r held, h.2⟩
    · exact .refl s
  · exact .refl s

theorem State.startCorrection_keeps : s.KeepsAll s.startCorrection := by
  refine State.KeepsAll.trans ?_ (State.orderFApp_keeps _)
  exact State.fInt_keeps fun _ => clampCorr_bounds _

theorem State.endStart_keeps (cause : StartCause) (off : s.inService = false) : s.KeepsAll (s.endStart cause) := by
  have ended : s.KeepsAll
      { s with
        spm :=
          { s.spm with
            power := powerOf s.pins, startCause := cause, startPending := none, summary := startSummary (powerOf s.pins) } } :=
    State.offSpm_keeps _ (fun h => h.spm) rfl off
  unfold State.endStart
  dsimp only
  split
  · exact ended
  · exact ended.trans State.ovenOn_keeps

theorem State.endRead_spm (r : SensorResult) (s : State) : (s.endRead r).spm = s.spm := by
  simp

theorem State.startCorrection_spm (s : State) : s.startCorrection.spm = s.spm := by
  simp [State.startCorrection]

theorem State.runStart_keeps (cause : StartCause) (read : SensorResult) : s.KeepsAll (s.runStart cause read) := by
  have values : s.KeepsAll (s.startValues (some cause) (restoredConfig s.ols.store) s.ols.store) :=
    State.startValues_keeps cause (fun h => restoredConfig_inRange h.ols.2.1) fun r hr => ⟨r, hr, rfl⟩
  have read := (values.trans (State.endRead_keeps read)).trans State.restore_keeps
  refine (read.trans State.startCorrection_keeps).trans (State.endStart_keeps cause ?_)
  unfold State.inService State.inStart
  rw [State.startCorrection_spm]
  dsimp only
  rw [State.endRead_spm]
  rfl

/-! ## The commands -/

/-- A command answers with a state that keeps what the state before it has. -/
def State.AnswersKeeping (i : Instr) (s : State) : Prop := ∃ t, exec i s = .next t ∧ s.KeepsAll t

/-- A command that answers with one state or the other. -/
theorem outcome_ite_next {c : Prop} [Decidable c] (u v : State) :
    (if c then (.next u : Host.Outcome State Fault Refusal) else .next v) = .next (if c then u else v) := by
  split <;> rfl

/-- A choice between two states that both keep. -/
theorem State.KeepsAll.ite {u v : State} {c : Prop} [Decidable c] (h : c → s.KeepsAll u) (h' : ¬c → s.KeepsAll v) :
    s.KeepsAll (if c then u else v) := by
  split
  next yes => exact h yes
  next no => exact h' no

/-- A command whose two branches both answer and keep. -/
theorem State.AnswersKeeping.ite {i : Instr} {c : Prop} [Decidable c] {u v : State}
    (h : exec i s = if c then .next u else .next v) (yes : c → s.KeepsAll u) (no : ¬c → s.KeepsAll v) :
    s.AnswersKeeping i :=
  ⟨_, h.trans (outcome_ite_next u v), .ite yes no⟩

/-! ### Site time and its expiries -/

theorem State.epochBoundary_answers (line : LineClock) : s.AnswersKeeping (.epochBoundary line) :=
  .ite rfl (fun _ => .refl s) fun _ => State.boundary_keeps line

theorem State.epochClose_keeps : s.KeepsAll (if s.closeDue then (s.advanceToPhase closePhase).closeEpoch (s.tsg.seconds - 1) else s) :=
  .ite (fun _ => (State.advanceToPhase_keeps _).trans (closeEpoch_keeps _)) fun _ => .refl s

theorem State.bridgeDue_valid (due : s.bridgeDue = true) (h : s.clockConsistent) : s.tsg.timeValid = true := by
  unfold State.bridgeDue at due
  simp only [Bool.and_eq_true, beq_iff_eq] at due
  exact h.2.1 (.inr (.inl due.1))

theorem State.setOvenFault_keeps : s.KeepsAll s.setOvenFault := by
  refine State.KeepsAll.trans ?_ State.postOven_keeps
  exact .spm _ (fun h => h.spm) rfl (fun _ _ on => on) id

/-! ### Outputs -/

/-- An output acts at its instants alike after site time has advanced. -/
theorem State.advanceCycles_acts (n : Nat) (o : OutId) (s : State) :
    (s.advanceCycles n).actsAtInstants o = s.actsAtInstants o := by
  have service : (s.advanceCycles n).inService = s.inService := by
    obtain ⟨t, v, shape⟩ := s.advanceCycles_shape n
    rw [shape]; rfl
  unfold State.actsAtInstants
  rw [service, State.advanceCycles_pou, Four.get_mapIdx]
  simp only [Output.advance_frame]

theorem State.pulseInstant_answers (o : OutId) : s.AnswersKeeping (.pulseInstant o) := by
  unfold State.AnswersKeeping
  show ∃ t, execPulseInstant o s = .next t ∧ _
  unfold execPulseInstant
  split
  next past due =>
    refine ⟨_, rfl, State.evaluateOut_keeps ?_ past⟩
    unfold State.dueInstant at due
    split at due
    next acts => exact acts
    · cases due
  · split
    next acts =>
      refine ⟨_, rfl, (State.advanceCycles_keeps _).trans (State.evaluateOut_keeps ?_ _)⟩
      rw [State.advanceCycles_acts]
      exact (Bool.and_eq_true_iff.mp acts).1
    · exact ⟨_, rfl, .refl s⟩

theorem State.endPulse_keeps (o : OutId) : s.KeepsAll (s.endPulse o) := State.setOut_keeps o _ fun _ => rfl

theorem State.pulseWidthEnd_answers (o : OutId) : s.AnswersKeeping (.pulseWidthEnd o) := by
  unfold State.AnswersKeeping
  show ∃ t, execPulseWidthEnd o s = .next t ∧ _
  unfold execPulseWidthEnd
  split
  · exact ⟨_, rfl, .refl s⟩
  · split
    · exact ⟨_, rfl, (State.advanceCycles_keeps _).trans (State.endPulse_keeps o)⟩
    · exact ⟨_, rfl, .refl s⟩

/-! ### Inputs -/

theorem State.pulse_answers (p : PulseInput) (cycles : Nat) : s.AnswersKeeping (.pulse p cycles) := by
  unfold State.AnswersKeeping
  show ∃ t, execPulse p cycles s = .next t ∧ _
  unfold execPulse
  dsimp only
  split
  · exact ⟨_, rfl, .refl s⟩
  · split
    · exact ⟨_, rfl, (State.advanceCycles_keeps cycles).trans (State.takePulse_keeps _ _ _)⟩
    · exact ⟨_, rfl, State.advanceCycles_keeps cycles⟩

theorem State.labelMessage_answers (p : PulseInput) (m : LinkMessage) : s.AnswersKeeping (.labelMessage p m) := by
  cases m with
  | damaged => exact ⟨_, rfl, .refl s⟩
  | whole label fix => exact .ite rfl (fun _ => State.takeLabel_keeps _ _ _ _) fun _ => .refl s

theorem State.writeCompletion_answers (r : StoreResult) : s.AnswersKeeping (.writeCompletion r) := by
  unfold State.AnswersKeeping
  show ∃ t, execWriteCompletion r s = .next t ∧ _
  unfold execWriteCompletion
  split
  next writing => exact ⟨_, rfl, State.storeReports_keeps writing r⟩
  · exact ⟨_, rfl, .refl s⟩

/-! ### Power -/

theorem State.mainsGoodFalls_answers : s.AnswersKeeping .mainsGoodFalls := by
  unfold State.AnswersKeeping
  show ∃ t, execMainsGoodFalls s = .next t ∧ _
  have lines : s.KeepsAll { s with pins := { s.pins with mainsGood := false } } := State.pins_keeps _
  unfold execMainsGoodFalls
  dsimp only
  split
  · refine ⟨_, rfl, (lines.trans State.enterKeepAlive_keeps).trans (.ite (fun _ => ?_) fun _ => .refl _)⟩
    exact State.enterColdKeep_keeps (State.enterKeepAlive_inService _)
  · exact ⟨_, rfl, lines⟩

theorem State.mainsGoodRises_answers : s.AnswersKeeping .mainsGoodRises := by
  have lines : s.KeepsAll { s with pins := { s.pins with mainsGood := true } } := State.pins_keeps _
  refine .ite rfl (fun off => lines.trans (State.returnToRun_keeps ?_)) fun _ => lines
  exact Bool.not_eq_true' _ ▸ (Bool.and_eq_true_iff.mp off).1

/-- Out of RUN no command serves tenants. -/
theorem State.inService_of_power_eq {p : PowerState} (ne : p ≠ .run) (h : (!s.inStart && s.spm.power == p) = true) :
    s.inService = false := by
  refine State.inService_of_power fun run => ne ?_
  simp only [Bool.and_eq_true, beq_iff_eq] at h
  exact h.2.symm.trans run

theorem State.battLowRises_answers : s.AnswersKeeping .battLowRises := by
  have lines : s.KeepsAll { s with pins := { s.pins with battLow := true } } := State.pins_keeps _
  refine .ite rfl (fun cold => lines.trans (State.enterColdKeep_keeps ?_)) fun _ => lines
  exact State.inService_of_power_eq (s := s) (by decide) cold

theorem State.battLowFalls_answers : s.AnswersKeeping .battLowFalls := by
  have lines : s.KeepsAll { s with pins := { s.pins with battLow := false } } := State.pins_keeps _
  refine .ite rfl (fun warm => lines.trans (State.leaveColdKeep_keeps ?_)) fun _ => lines
  exact State.inService_of_power_eq (s := s) (by decide) warm

theorem State.ovenOkRises_answers : s.AnswersKeeping .ovenOkRises := by
  have lines : s.KeepsAll { s with pins := { s.pins with ovenOk := true } } := State.pins_keeps _
  exact .ite rfl (fun _ => lines.trans State.ovenSettles_keeps) fun _ => lines

theorem State.ovenOkFalls_answers : s.AnswersKeeping .ovenOkFalls := by
  have lines : s.KeepsAll { s with pins := { s.pins with ovenOk := false } } := State.pins_keeps _
  exact .ite rfl (fun _ => lines.trans State.ovenLoses_keeps) fun _ => lines

/-! ### Ports -/

theorem State.presentLineFalls_answers (t : Port) : s.AnswersKeeping (.presentLineFalls t) := by
  have lines : s.KeepsAll (s.setPresent t false) := State.pins_keeps _
  refine .ite rfl (fun _ => lines) fun _ => (lines.trans (State.closePort_keeps t)).trans ?_
  exact .ite (fun _ => State.detachTenant_keeps t) fun _ => .refl _

/-- Bytes clocked out change no port that out of service is IDLE. -/
theorem State.clocked_keeps (t : Port) (ps : PortState) (bytes : List Byte)
    (idle : (s.tpi.get t).state = .idle → ps = .idle) : s.KeepsAll (s.clocked t ps bytes) :=
  State.setPort_keeps t _ fun _ state overrun => ⟨idle state, overrun⟩

theorem State.readTransaction_answers (t : Port) (bytes : Nat) : s.AnswersKeeping (.readTransaction t bytes) := by
  unfold State.AnswersKeeping
  show ∃ u, execReadTransaction t bytes s = .next u ∧ _
  unfold execReadTransaction
  split
  · exact ⟨_, rfl, State.clocked_keeps t _ _ id⟩
  · split
    · exact ⟨_, rfl, State.clocked_keeps t _ _ fun _ => rfl⟩
    · exact ⟨_, rfl, State.clocked_keeps t _ _ id⟩

theorem State.responseCompleted_answers (t : Port) : s.AnswersKeeping (.responseCompleted t) := by
  unfold State.AnswersKeeping
  show ∃ u, execResponseCompleted t s = .next u ∧ _
  unfold execResponseCompleted
  split
  next working => exact ⟨_, rfl, State.setPort_keeps t _ fun _ idle => by rw [working] at idle; cases idle⟩
  · exact ⟨_, rfl, .refl s⟩
  · exact ⟨_, rfl, .refl s⟩

/-! ### Requests -/

/-- A request whose act keeps everything and leaves the power state answers. -/
theorem State.request_answers {i : Instr} {may : Bool} {t : Port} {code : Byte} {tag : Word16} {refusal : Body}
    {act : State → State × Answer} (h : exec i s = .next (s.takeRequest may t code tag refusal act))
    (keeps : s.inService = true → (s.attached t || may) = true → s.KeepsAll (act s).1) (spm : (act s).1.spm = s.spm) :
    s.AnswersKeeping i :=
  ⟨_, h, State.takeRequest_keeps may t code tag refusal act keeps spm⟩

/-- The attached of a request that a detached port may not send. -/
theorem attached_of_may {s : State} {t : Port} (h : (s.attached t || false) = true) : s.attached t = true := by
  simpa using h

theorem State.actAdvertise_spm (t : Port) (f : AdvertisementFields) (s : State) : (s.actAdvertise t f).1.spm = s.spm := by
  unfold State.actAdvertise
  split
  · rfl
  · simp only [State.replaceAdvertisement]
    split <;> simp [State.setTenant]

theorem State.actAttach_spm (t : Port) (f : AdvertisementFields) (s : State) : (s.actAttach t f).1.spm = s.spm := by
  unfold State.actAttach
  split
  · exact State.actAdvertise_spm t f s
  · split
    · rfl
    · split
      · rfl
      · simp [State.attachTenant, State.setTenant, State.setNotices]

theorem State.actPropose_spm (t : Port) (kind : Byte) (items : List ConfigItem) (s : State) :
    (s.actPropose t kind items).1.spm = s.spm := by
  unfold State.actPropose
  split
  · rfl
  · split
    · rfl
    · dsimp only
      split
      · simp
      · simp [State.askParties]

theorem State.actConcur_spm (t : Port) (serial : Byte) (s : State) : (s.actConcur t serial).1.spm = s.spm := by
  unfold State.actConcur
  split
  · rfl
  · split
    · rfl
    · split
      · rfl
      · split
        · simp
        · rfl

theorem State.actDecline_spm (t : Port) (serial : Byte) (s : State) : (s.actDecline t serial).1.spm = s.spm := by
  unfold State.actDecline
  split
  · rfl
  · split
    · rfl
    · simp

theorem State.actSetOutput_spm (t : Port) (f : OutputFields) (s : State) : (s.actSetOutput t f).1.spm = s.spm := by
  unfold State.actSetOutput
  dsimp only
  split <;> rfl

theorem State.actClearNotices_spm (t : Port) (kinds : List Byte) (s : State) : (s.actClearNotices t kinds).1.spm = s.spm := by
  unfold State.actClearNotices
  split <;> rfl

/-- Every command answers, and the state it answers with keeps every invariant. -/
theorem State.exec_keeps (i : Instr) (s : State) : s.AnswersKeeping i := by
  cases i with
  | powerOn => exact ⟨_, rfl, State.beginStart_keeps _⟩
  | resetNFalls => exact ⟨_, rfl, (State.pins_keeps _).trans (State.beginStart_keeps _)⟩
  | brownOut => exact ⟨_, rfl, (State.pins_keeps _).trans (State.beginStart_keeps _)⟩
  | startSequence read =>
    unfold State.AnswersKeeping
    show ∃ t, execStartSequence read s = .next t ∧ _
    unfold execStartSequence
    split
    · exact ⟨_, rfl, (State.pins_keeps _).trans (State.runStart_keeps _ read)⟩
    · exact ⟨_, rfl, .refl s⟩
  | epochBoundary line => exact State.epochBoundary_answers line
  | holdOffExpiry slot =>
    exact ⟨_, rfl, .ite (fun due => State.endHoldOff_keeps (Bool.and_eq_true_iff.mp due).2) fun _ => .refl s⟩
  | bridgeExpiry =>
    exact ⟨_, rfl, .ite (fun due => State.enterHoldover_keeps (State.bridgeDue_valid (Bool.and_eq_true_iff.mp due).2))
      fun _ => .refl s⟩
  | jointExpiry => exact ⟨_, rfl, .ite (fun _ => State.cancelJoint_keeps _) fun _ => .refl s⟩
  | ovenFault => exact ⟨_, rfl, .ite (fun _ => State.setOvenFault_keeps) fun _ => .refl s⟩
  | soakEnd => exact ⟨_, rfl, .refl s⟩
  | sensorReadDone read =>
    exact .ite rfl (fun _ => (State.reading_keeps false).trans (State.endRead_keeps read)) fun _ => .refl s
  | epochClose => exact ⟨_, rfl, State.epochClose_keeps⟩
  | writeCompletion result => exact State.writeCompletion_answers result
  | pulse input cycles => exact State.pulse_answers input cycles
  | labelMessage link message => exact State.labelMessage_answers link message
  | pulseInstant out => exact State.pulseInstant_answers out
  | pulseWidthEnd out => exact State.pulseWidthEnd_answers out
  | mainsGoodFalls => exact State.mainsGoodFalls_answers
  | mainsGoodRises => exact State.mainsGoodRises_answers
  | battLowRises => exact State.battLowRises_answers
  | battLowFalls => exact State.battLowFalls_answers
  | ovenOkRises => exact State.ovenOkRises_answers
  | ovenOkFalls => exact State.ovenOkFalls_answers
  | presentLineFalls t => exact State.presentLineFalls_answers t
  | presentLineRises t => exact ⟨_, rfl, State.pins_keeps _⟩
  | readTransaction t bytes => exact State.readTransaction_answers t bytes
  | responseCompleted t => exact State.responseCompleted_answers t
  | malformedFrame t code tag => exact ⟨_, rfl, State.takeMalformed_keeps t code tag⟩
  | attach t tag adv =>
    exact State.request_answers rfl (fun service _ => State.actAttach_keeps service adv) (State.actAttach_spm t adv s)
  | advertise t tag adv =>
    exact State.request_answers rfl (fun _ may => State.actAdvertise_keeps (attached_of_may may) adv)
      (State.actAdvertise_spm t adv s)
  | detach t tag => exact State.request_answers rfl (fun _ _ => State.detachTenant_keeps t) (by simp)
  | readTime t tag => exact State.request_answers rfl (fun _ _ => State.acknowledge_keeps t) (by simp)
  | readStatus t tag =>
    exact State.request_answers rfl (fun _ may => State.armLatches_keeps (attached_of_may may)) rfl
  | reportPhase t tag report => exact State.request_answers rfl (fun _ _ => State.actReport_keeps t report) rfl
  | readReference t tag slot => exact State.request_answers rfl (fun _ _ => .refl s) rfl
  | readLearning t tag first number => exact State.request_answers rfl (fun _ _ => .refl s) rfl
  | readAging t tag => exact State.request_answers rfl (fun _ _ => .refl s) rfl
  | readConfig t tag => exact State.request_answers rfl (fun _ _ => State.acknowledge_keeps t) (by simp)
  | setOutput t tag fields =>
    exact State.request_answers rfl (fun _ _ => State.actSetOutput_keeps t fields) (State.actSetOutput_spm t fields s)
  | propose t tag kind items =>
    have taken := State.takeRequest_keeps (s := s) false t codePropose tag .empty (State.actPropose t kind items)
      (fun _ may => State.actPropose_keeps (attached_of_may may) kind items) (State.actPropose_spm t kind items s)
    exact .ite rfl (fun _ => taken) fun _ => State.takeMalformed_keeps t _ tag
  | concur t tag serial =>
    exact State.request_answers rfl (fun _ _ => State.actConcur_keeps t serial) (State.actConcur_spm t serial s)
  | decline t tag serial =>
    exact State.request_answers rfl (fun _ _ => State.actDecline_keeps t serial) (State.actDecline_spm t serial s)
  | readJoint t tag => exact State.request_answers rfl (fun _ _ => .refl s) rfl
  | readNotices t tag =>
    exact State.request_answers rfl
      (fun _ may => State.setNotices_keeps (attached_of_may may) _ (fun h => ⟨h.1, h.2.1, by simp⟩) rfl) rfl
  | nextNotice t tag =>
    exact State.request_answers rfl
      (fun _ may => State.setNotices_keeps (attached_of_may may) _
        (fun h => ⟨h.1.sublist (List.tail_sublist _), h.2.1, by simp⟩) rfl) rfl
  | clearNotices t tag kinds =>
    have taken := State.takeRequest_keeps (s := s) false t codeClearNotices tag .empty (State.actClearNotices t kinds)
      (fun _ may => State.actClearNotices_keeps (attached_of_may may) kinds) (State.actClearNotices_spm t kinds s)
    exact .ite rfl (fun _ => taken) fun _ => State.takeMalformed_keeps t _ tag
  | noticesDone t tag =>
    exact State.request_answers rfl
      (fun _ may => State.setNotices_keeps (attached_of_may may) _ TenantNotices.Ok.release rfl) rfl
  | setNoticeMask t tag mask =>
    exact State.request_answers rfl
      (fun _ may => State.setNotices_keeps (attached_of_may may) _ (fun h => ⟨h.1, h.2.1, h.2.2⟩) rfl) rfl

/-! ## Steps -/

theorem State.settleDue_keeps {t : State} (h : s.settleDue = some t) : s.KeepsAll t := by
  unfold State.settleDue at h
  split at h
  next n found =>
    obtain rfl := Option.some.inj h
    exact State.endHoldOff_keeps (List.find?_some (p := fun n => s.holdOffDue n) found)
  next o past _ found =>
    obtain rfl := Option.some.inj h
    obtain ⟨q, -, due⟩ := List.exists_of_findSome?_eq_some found
    obtain ⟨u, due, same⟩ := Option.map_eq_some_iff.mp due
    cases same
    refine State.evaluateOut_keeps ?_ past
    unfold State.dueInstant at due
    split at due
    next acts => exact acts
    · cases due
  next o _ _ _ =>
    obtain rfl := Option.some.inj h
    exact State.endPulse_keeps o
  next =>
    split at h
    next due =>
      obtain rfl := Option.some.inj h
      exact State.enterHoldover_keeps (State.bridgeDue_valid due)
    split at h
    · obtain rfl := Option.some.inj h
      exact State.cancelJoint_keeps _
    split at h
    · obtain rfl := Option.some.inj h
      exact State.setOvenFault_keeps
    split at h
    · obtain rfl := Option.some.inj h
      exact closeEpoch_keeps _
    · cases h

theorem State.cycle_keeps : s.KeepsAll s.cycle :=
  .ite (fun _ => State.advanceCycles_keeps 1) fun _ => (State.freeIndex_keeps _).trans (State.boundary_keeps _)

theorem State.idle_keeps : s.KeepsAll s.idle := by
  refine .ite (fun _ => .refl s) fun _ => ?_
  split
  next t due => exact State.settleDue_keeps due
  · exact State.cycle_keeps

/-- Every step keeps every invariant. -/
theorem step_keeps {t : State} (h : step s = .next t) : s.KeepsAll t := by
  unfold step at h
  split at h
  next c rest _ =>
    obtain ⟨u, next, keeps⟩ := State.exec_keeps c { s with pending := rest }
    obtain rfl := Host.Outcome.next.inj (next.symm.trans h)
    exact (State.KeepsAll.outside rest s.freeIndex s.pins).trans keeps
  · obtain rfl := Host.Outcome.next.inj h
    exact State.idle_keeps

end

end Sys2Proof.Machine
end

section
/-!
PROOFS. The step, the reset state and the invariants (O1 to O13).
-/

namespace Sys2Proof.Machine

/-- Settles O1: a command at the front of the queue is the first case of the step. -/
theorem stepRunsFrontCommand : Obligations.StepRunsFrontCommand := by
  intro s c rest front
  unfold step
  rw [front]

/-- Settles O2: every command answers with a state that keeps the invariants, and an idle step with the state that site time
leads to. -/
theorem everyCommandAnswers : Obligations.EveryCommandAnswers := by
  have answers : ∀ (c : Instr) (s : State), Answers c s := fun c s => by
    obtain ⟨t, next, -⟩ := s.exec_keeps c
    exact ⟨t, next⟩
  refine ⟨answers, fun s => ?_⟩
  unfold step
  split
  · exact answers _ _
  · exact ⟨_, rfl⟩

/-- Settles O3: the fields of the reset state, read one by one. -/
theorem resetHoldsStartValues : Obligations.ResetHoldsStartValues := by
  unfold Obligations.ResetHoldsStartValues
  dsimp only
  repeat' refine And.intro ?_ ?_
  all_goals decide

/-- The values of the reset state lie in their ranges. -/
theorem State.reset_valuesInRange : State.reset.valuesInRange := by
  have config : SiteConfig.factory.inRange := SiteConfig.factory_inRange
  refine (State.valuesInRange_iff _).mpr ⟨?_, ⟨config.2.1, fun n => ?_⟩, ?_, ?_, ⟨config, fun p => ?_, Policy.noTenant_inRange⟩,
    by decide, by decide⟩
  · unfold State.timeInRange; decide
  · simp only [State.reset, Rmu.atStart, Six.get_mapIdx]
    exact Slot.atStart_inRange (config.1 n)
  · unfold Sde.InRange; decide
  · exact ⟨by simp [State.reset, Ols.atStart], by simp [State.reset, Ols.atStart], by decide, by decide⟩
  · simp only [State.reset, Tru.atStart, Three.get_fill]
    exact Advertisement.default_inRange

/-- Settles O4: each invariant holds of the reset state. -/
theorem resetIsConsistent : Obligations.ResetIsConsistent := by
  refine ⟨State.reset_valuesInRange, ?_, ?_, fun t => ?_, fun r none => ?_, ?_, ⟨?_, fun w none => ?_, fun r none => ?_⟩, ?_, ?_⟩
  · unfold State.tenantsConsistent; decide
  · unfold State.clockConsistent; decide
  · have detached : State.reset.nu.get t = .detached := Three.get_fill _ t
    rw [detached]
    exact TenantNotices.detached_ok
  · cases none
  · unfold State.quietOutOfService; decide
  · exact ⟨Nat.zero_le _, List.Pairwise.nil⟩
  · cases none
  · cases none
  · unfold State.selectionConsistent; decide
  · unfold State.latchesConsistent; decide

/-- Settles O5. -/
theorem stepKeepsValuesInRange : Obligations.StepKeepsValuesInRange := fun _ _ h next => (step_keeps next).values h

/-- Settles O6. -/
theorem stepKeepsTenantsConsistent : Obligations.StepKeepsTenantsConsistent := fun s s' h next =>
  s'.tenantsConsistent_iff.mpr ((step_keeps next).tenants _ (s.tenantsConsistent_iff.mp h))

/-- Settles O7. -/
theorem stepKeepsClockConsistent : Obligations.StepKeepsClockConsistent := fun _ _ h next => (step_keeps next).clock h

/-- Settles O8. -/
theorem stepKeepsNoticesConsistent : Obligations.StepKeepsNoticesConsistent := fun _ _ h next => (step_keeps next).notices h

/-- Settles O9. -/
theorem stepKeepsJointConsistent : Obligations.StepKeepsJointConsistent := fun _ _ h next => (step_keeps next).joint h

/-- Settles O10. -/
theorem stepKeepsQuietOutOfService : Obligations.StepKeepsQuietOutOfService := fun _ _ h next => (step_keeps next).quiet h

/-- Settles O11. -/
theorem stepKeepsDaysConsistent : Obligations.StepKeepsDaysConsistent := fun _ _ h next => (step_keeps next).days h

/-- Settles O12. -/
theorem stepKeepsLatchesConsistent : Obligations.StepKeepsLatchesConsistent := fun _ _ h next => (step_keeps next).latches h

/-- Settles O13. -/
theorem stepKeepsSelectionConsistent : Obligations.StepKeepsSelectionConsistent := fun _ _ h next =>
  (step_keeps next).selection h

end Sys2Proof.Machine
end

section
/-!
PROOFS. What a request frame says is what was written into it (O14).
-/

namespace Sys2Proof.Wire

open Sys2Proof Sys2Proof.Machine

/-! ## The fields of a request's body -/

section
variable {code : Byte} {tag : Word16} {body pre post : List Byte} {o : Nat}

/-- A body in parts stands in its frame behind the header. -/
theorem requestFrame_parts (mid : List Byte) (h : body = pre ++ mid ++ post) :
    requestFrame code tag body =
      (([BitVec.ofNat 8 (4 + body.length), code] ++ unsignedBytes 2 tag.toNat) ++ pre) ++ mid ++ post := by
  subst h; simp [requestFrame]

theorem header_length (pre : List Byte) (b c : Byte) (tag : Word16) :
    (([b, c] ++ unsignedBytes 2 tag.toNat) ++ pre).length = 4 + pre.length := by
  simp; omega

theorem requestFrame_byteAt (b : Byte) (h : body = pre ++ [b] ++ post) (ho : 4 + pre.length = o) :
    byteAt (requestFrame code tag body) o = b :=
  byteAt_of b (requestFrame_parts _ h) ((header_length _ _ _ _).trans ho)

theorem requestFrame_word16At (w : Word16) (h : body = pre ++ unsignedBytes 2 w.toNat ++ post) (ho : 4 + pre.length = o) :
    word16At (requestFrame code tag body) o = w :=
  word16At_of w (requestFrame_parts _ h) ((header_length _ _ _ _).trans ho)

theorem requestFrame_word32At (w : BitVec 32) (h : body = pre ++ unsignedBytes 4 w.toNat ++ post)
    (ho : 4 + pre.length = o) : word32At (requestFrame code tag body) o = w :=
  word32At_of w (requestFrame_parts _ h) ((header_length _ _ _ _).trans ho)

theorem requestFrame_word48At (w : BitVec 48) (h : body = pre ++ unsignedBytes 6 w.toNat ++ post)
    (ho : 4 + pre.length = o) : word48At (requestFrame code tag body) o = w :=
  word48At_of w (requestFrame_parts _ h) ((header_length _ _ _ _).trans ho)

end

/-! ## The bodies -/

theorem advertisementAt_frame (code : Byte) (tag : Word16) (f : AdvertisementFields) :
    advertisementAt (requestFrame code tag (advertisementBytes f)) = f := by
  have limit : word32At (requestFrame code tag (advertisementBytes f)) 4 = f.limit :=
    requestFrame_word32At (pre := []) (post := [f.permission] ++ unsignedBytes 4 f.slew.toNat ++ [f.squelch]) _
      (by simp [advertisementBytes]) rfl
  have permission : byteAt (requestFrame code tag (advertisementBytes f)) 8 = f.permission :=
    requestFrame_byteAt (pre := unsignedBytes 4 f.limit.toNat) (post := unsignedBytes 4 f.slew.toNat ++ [f.squelch]) _
      (by simp [advertisementBytes]) (by simp)
  have slew : word32At (requestFrame code tag (advertisementBytes f)) 9 = f.slew :=
    requestFrame_word32At (pre := unsignedBytes 4 f.limit.toNat ++ [f.permission]) (post := [f.squelch]) _
      (by simp [advertisementBytes]) (by simp)
  have squelch : byteAt (requestFrame code tag (advertisementBytes f)) 13 = f.squelch :=
    requestFrame_byteAt (pre := unsignedBytes 4 f.limit.toNat ++ [f.permission] ++ unsignedBytes 4 f.slew.toNat) (post := []) _
      (by simp [advertisementBytes]) (by simp)
  unfold advertisementAt
  rw [limit, permission, slew, squelch]

theorem reportAt_frame (code : Byte) (tag : Word16) (f : ReportFields) :
    reportAt (requestFrame code tag (reportBytes f)) f.label.isSome = f := by
  obtain ⟨stamp, phase, quality, label⟩ := f
  generalize hb : reportBytes ⟨stamp, phase, quality, label⟩ = body
  have stampAt : word48At (requestFrame code tag body) 4 = stamp :=
    requestFrame_word48At (pre := [])
      (post := unsignedBytes 6 phase.toNat ++ [quality] ++ (label.map fun l => unsignedBytes 6 l.toNat).getD []) _
      (by subst hb; cases label <;> simp [reportBytes]) rfl
  have phaseAt : word48At (requestFrame code tag body) 10 = phase :=
    requestFrame_word48At (pre := unsignedBytes 6 stamp.toNat)
      (post := [quality] ++ (label.map fun l => unsignedBytes 6 l.toNat).getD []) _
      (by subst hb; cases label <;> simp [reportBytes]) (by simp)
  have qualityAt : byteAt (requestFrame code tag body) 16 = quality :=
    requestFrame_byteAt (pre := unsignedBytes 6 stamp.toNat ++ unsignedBytes 6 phase.toNat)
      (post := (label.map fun l => unsignedBytes 6 l.toNat).getD []) _
      (by subst hb; cases label <;> simp [reportBytes]) (by simp)
  have labelAt : ∀ l, label = some l → word48At (requestFrame code tag body) 17 = l := fun l hl =>
    requestFrame_word48At (pre := unsignedBytes 6 stamp.toNat ++ unsignedBytes 6 phase.toNat ++ [quality]) (post := []) _
      (by subst hb hl; simp [reportBytes]) (by simp)
  unfold reportAt
  rw [stampAt, phaseAt, qualityAt]
  cases label with
  | none => rfl
  | some l => simp [labelAt l rfl]

theorem outputAt_frame (code : Byte) (tag : Word16) (f : OutputFields) :
    outputAt (requestFrame code tag (outputBytes f)) = f := by
  have enable : byteAt (requestFrame code tag (outputBytes f)) 4 = f.enable :=
    requestFrame_byteAt (pre := [])
      (post := unsignedBytes 2 f.interval.toNat ++ unsignedBytes 4 f.width.toNat ++ unsignedBytes 4 f.offset.toNat ++ [f.mode]) _
      (by simp [outputBytes]) rfl
  have interval : word16At (requestFrame code tag (outputBytes f)) 5 = f.interval :=
    requestFrame_word16At (pre := [f.enable])
      (post := unsignedBytes 4 f.width.toNat ++ unsignedBytes 4 f.offset.toNat ++ [f.mode]) _
      (by simp [outputBytes]) rfl
  have width : word32At (requestFrame code tag (outputBytes f)) 7 = f.width :=
    requestFrame_word32At (pre := [f.enable] ++ unsignedBytes 2 f.interval.toNat)
      (post := unsignedBytes 4 f.offset.toNat ++ [f.mode]) _ (by simp [outputBytes]) (by simp)
  have offset : word32At (requestFrame code tag (outputBytes f)) 11 = f.offset :=
    requestFrame_word32At (pre := [f.enable] ++ unsignedBytes 2 f.interval.toNat ++ unsignedBytes 4 f.width.toNat)
      (post := [f.mode]) _ (by simp [outputBytes]) (by simp)
  have mode : byteAt (requestFrame code tag (outputBytes f)) 15 = f.mode :=
    requestFrame_byteAt
      (pre := [f.enable] ++ unsignedBytes 2 f.interval.toNat ++ unsignedBytes 4 f.width.toNat ++ unsignedBytes 4 f.offset.toNat)
      (post := []) _ (by simp [outputBytes]) (by simp)
  unfold outputAt
  rw [enable, interval, width, offset, mode]

theorem itemAt_of {frame pre post : List Byte} {o : Nat} (i : ConfigItem) (h : frame = pre ++ ConfigItem.bytes i ++ post)
    (ho : pre.length = o) : itemAt frame o = i := by
  have setting : byteAt frame o = i.setting :=
    byteAt_of (pre := pre) (post := [i.slot] ++ unsignedBytes 4 i.value.toNat ++ post) _
      (by simp [h, ConfigItem.bytes]) ho
  have slot : byteAt frame (o + 1) = i.slot :=
    byteAt_of (pre := pre ++ [i.setting]) (post := unsignedBytes 4 i.value.toNat ++ post) _
      (by simp [h, ConfigItem.bytes]) (by simp [ho])
  have value : word32At frame (o + 2) = i.value :=
    word32At_of (pre := pre ++ [i.setting, i.slot]) (post := post) _ (by simp [h, ConfigItem.bytes]) (by simp [ho])
  unfold itemAt
  rw [setting, slot, value]

theorem itemsAt_of (items : List ConfigItem) :
    ∀ {frame pre : List Byte} {o : Nat}, frame = pre ++ items.flatMap ConfigItem.bytes → pre.length = o →
      itemsAt frame items.length o = items := by
  induction items with
  | nil => intros; rfl
  | cons i is ih =>
    intro frame pre o h ho
    have first : itemAt frame o = i :=
      itemAt_of (post := is.flatMap ConfigItem.bytes) i (by simp [h]) ho
    have rest : itemsAt frame is.length (o + 6) = is :=
      ih (pre := pre ++ ConfigItem.bytes i) (by simp [h]) (by simp [ConfigItem.bytes, ho])
    rw [List.length_cons, itemsAt, first, rest]

/-! ## The round trip -/

/-- A request whose frame is read back as that request, and is short enough, is what its transaction decodes to. -/
theorem decode_of_request {i : Instr} {p : Port} {code : Byte} {tag : Word16} {body : List Byte}
    (h : requestOf i = some (p, requestFrame code tag body)) (short : body.length ≤ 60)
    (back : request p (requestFrame code tag body) = some i) {t : Port} {bytes : List Byte}
    (encoded : encodeTransaction i = some (t, bytes)) : decodeTransaction t bytes = some i := by
  simp only [encodeTransaction, h, Option.map_some, Option.some.injEq, Prod.mk.injEq] at encoded
  obtain ⟨rfl, rfl⟩ := encoded
  have count : (byteAt (requestFrame code tag body) 0).toNat = 4 + body.length := by
    rw [requestFrame_lengthByte, BitVec.toNat_ofNat]
    omega
  have taken : takeFrame p (requestFrame code tag body) = i := by
    unfold takeFrame
    simp only [count, requestFrame_length]
    rw [if_neg (by omega), List.take_of_length_le (by rw [requestFrame_length]), back]
    rfl
  have some : (requestFrame code tag body).isEmpty = false := rfl
  simp [decodeTransaction, some, taken]

/-- A command that is carried by no request is encoded by no transaction. -/
theorem decode_of_none {i : Instr} (h : requestOf i = none) {t : Port} {bytes : List Byte}
    (encoded : encodeTransaction i = some (t, bytes)) : decodeTransaction t bytes = some i := by
  simp [encodeTransaction, h] at encoded

/-- The frame of a PROPOSE is read back. -/
theorem request_propose (t : Port) (tag : Word16) (kind : Byte) (items : List ConfigItem) (few : items.length ≤ 8) :
    request t (requestFrame codePropose tag (proposeBytes kind items)) = some (.propose t tag kind items) := by
  have kindAt : byteAt (requestFrame codePropose tag (proposeBytes kind items)) 4 = kind :=
    requestFrame_byteAt (pre := []) (post := BitVec.ofNat 8 items.length :: items.flatMap ConfigItem.bytes) _ rfl rfl
  have countAt : byteAt (requestFrame codePropose tag (proposeBytes kind items)) 5 = BitVec.ofNat 8 items.length :=
    requestFrame_byteAt (pre := [kind]) (post := items.flatMap ConfigItem.bytes) _ rfl rfl
  have count : (byteAt (requestFrame codePropose tag (proposeBytes kind items)) 5).toNat = items.length := by
    rw [countAt, BitVec.toNat_ofNat]; omega
  have itemsAt : itemsAt (requestFrame codePropose tag (proposeBytes kind items)) items.length 6 = items :=
    itemsAt_of items (requestFrame_parts (pre := [kind, BitVec.ofNat 8 items.length]) (post := []) _
      (by simp [proposeBytes]) |>.trans (List.append_nil _)) (by simp)
  unfold request
  simp only [requestFrame_code, requestFrame_length, requestFrame_tag, proposeBytes_length, codePropose]
  show (if 4 + (2 + 6 * items.length) = 6 + 6 * (byteAt _ 5).toNat ∧ (byteAt _ 5).toNat ≤ 8 then _ else none) = _
  rw [← codePropose, count, kindAt, itemsAt, if_pos ⟨by omega, few⟩]

/-- The frame of a request whose body is one byte is read back. -/
theorem byteAt_body (code : Byte) (tag : Word16) (b : Byte) (post : List Byte) :
    byteAt (requestFrame code tag (b :: post)) 4 = b :=
  requestFrame_byteAt (pre := []) (post := post) _ rfl rfl

/-- The frame of a REPORT_PHASE is read back, with a label and without. -/
theorem request_reportPhase (t : Port) (tag : Word16) (f : ReportFields) :
    request t (requestFrame codeReportPhase tag (reportBytes f)) = some (.reportPhase t tag f) := by
  have back := reportAt_frame codeReportPhase tag f
  have length := reportBytes_length f
  cases label : f.label with
  | none =>
    simp only [label, Option.isSome_none] at back length
    simp [request, codeReportPhase, length]
    exact back
  | some l =>
    simp only [label, Option.isSome_some] at back length
    simp [request, codeReportPhase, length]
    exact back

/-- Settles O14: each request's frame is read back field by field. -/
theorem transactionsRoundTrip : Obligations.TransactionsRoundTrip := by
  intro i t bytes formed encoded
  cases i with
  | attach p tag f =>
    refine decode_of_request rfl (by simp) ?_ encoded
    simp [request, codeAttach, advertisementAt_frame]
  | advertise p tag f =>
    refine decode_of_request rfl (by simp) ?_ encoded
    simp [request, codeAdvertise, advertisementAt_frame]
  | reportPhase p tag f =>
    refine decode_of_request rfl ?_ (request_reportPhase p tag f) encoded
    rw [reportBytes_length]
    split <;> simp
  | readReference p tag slot =>
    refine decode_of_request rfl (by simp) ?_ encoded
    simp [request, codeReadReference, byteAt_body]
  | readLearning p tag first number =>
    refine decode_of_request rfl (by simp) ?_ encoded
    have numberAt : ∀ code, byteAt (requestFrame code tag [first, number]) 5 = number := fun _ =>
      requestFrame_byteAt (pre := [first]) (post := []) _ rfl rfl
    simp [request, codeReadLearning, byteAt_body, numberAt]
  | setOutput p tag f =>
    refine decode_of_request rfl (by simp) ?_ encoded
    simp [request, codeSetOutput, outputAt_frame]
  | propose p tag kind items =>
    have few : items.length ≤ 8 := by simpa [Instr.wellFormed, proposeLengthOk] using formed
    exact decode_of_request rfl (by simp; omega) (request_propose p tag kind items few) encoded
  | concur p tag serial =>
    refine decode_of_request rfl (by simp) ?_ encoded
    simp [request, codeConcur, byteAt_body]
  | decline p tag serial =>
    refine decode_of_request rfl (by simp) ?_ encoded
    simp [request, codeDecline, byteAt_body]
  | clearNotices p tag kinds =>
    have length : 1 ≤ kinds.length ∧ kinds.length ≤ 16 := by simpa [Instr.wellFormed, clearLengthOk] using formed
    refine decode_of_request rfl (by omega) ?_ encoded
    have kindsAt : ∀ code, (requestFrame code tag kinds).drop 4 = kinds := fun _ => rfl
    simp [request, codeClearNotices, kindsAt]
    omega
  | setNoticeMask p tag mask =>
    refine decode_of_request rfl (by simp) ?_ encoded
    have maskAt : ∀ code, word16At (requestFrame code tag (unsignedBytes 2 mask.toNat)) 4 = mask := fun _ =>
      requestFrame_word16At (pre := []) (post := []) _ (by simp) rfl
    simp [request, codeSetNoticeMask, maskAt]
  | detach p tag => exact decode_of_request rfl (by simp) (by simp [request, codeDetach]) encoded
  | readTime p tag => exact decode_of_request rfl (by simp) (by simp [request, codeReadTime]) encoded
  | readStatus p tag => exact decode_of_request rfl (by simp) (by simp [request, codeReadStatus]) encoded
  | readAging p tag => exact decode_of_request rfl (by simp) (by simp [request, codeReadAging]) encoded
  | readConfig p tag => exact decode_of_request rfl (by simp) (by simp [request, codeReadConfig]) encoded
  | readJoint p tag => exact decode_of_request rfl (by simp) (by simp [request, codeReadJoint]) encoded
  | readNotices p tag => exact decode_of_request rfl (by simp) (by simp [request, codeReadNotices]) encoded
  | nextNotice p tag => exact decode_of_request rfl (by simp) (by simp [request, codeNextNotice]) encoded
  | noticesDone p tag => exact decode_of_request rfl (by simp) (by simp [request, codeNoticesDone]) encoded
  | _ => exact decode_of_none rfl encoded

end Sys2Proof.Wire
end

section
/-!
PROOFS. The bytes of responses (O44).
-/

namespace Sys2Proof.Machine

/-! ## Fields written out -/

/-- An unsigned field byte by byte. -/
theorem unsignedBytes_eq_map (n v : Nat) :
    unsignedBytes n v = (List.range n).map fun i => BitVec.ofInt 8 ((v : Int) / 256 ^ (n - 1 - i)) := by
  induction n with
  | zero => rfl
  | succ n ih =>
    rw [unsignedBytes, ih, List.range_succ_eq_map, List.map_cons, List.map_map]
    have first : BitVec.ofNat 8 (v / 256 ^ n) = BitVec.ofInt 8 ((v : Int) / 256 ^ (n + 1 - 1 - 0)) := by
      rw [show ((v : Int) / 256 ^ (n + 1 - 1 - 0)) = ((v / 256 ^ n : Nat) : Int) by simp]
      exact (BitVec.ofInt_natCast 8 _).symm
    rw [first]
    congr 1
    refine List.map_congr_left fun i hi => ?_
    rw [Function.comp_apply, show n + 1 - 1 - (i + 1) = n - 1 - i by omega]

/-- A byte of a value is read from the value modulo the width of its field. -/
theorem ofInt_emod_ediv (v : Int) {n k : Nat} (h : k < n) :
    BitVec.ofInt 8 (v % 256 ^ n / 256 ^ k) = BitVec.ofInt 8 (v / 256 ^ k) := by
  obtain ⟨m, rfl⟩ := Nat.exists_eq_add_of_lt h
  have split : v / 256 ^ k = v % 256 ^ (k + m + 1) / 256 ^ k + 256 * (256 ^ m * (v / 256 ^ (k + m + 1))) := by
    conv_lhs => rw [← Int.emod_add_mul_ediv v (256 ^ (k + m + 1))]
    rw [show (256 : Int) ^ (k + m + 1) * (v / 256 ^ (k + m + 1)) = 256 ^ k * (256 * (256 ^ m * (v / 256 ^ (k + m + 1)))) by
      ring]
    rw [Int.add_mul_ediv_left _ _ (by positivity)]
  rw [split]
  apply BitVec.eq_of_toInt_eq
  rw [BitVec.toInt_ofInt, BitVec.toInt_ofInt]
  simp [Int.bmod_def, Int.add_mul_emod_self_left]

/-- A signed field byte by byte, where the value fits it. -/
theorem signedBytes_eq_map {n : Nat} {v : Int} (low : -(128 * 256 ^ n : Int) ≤ v) (high : v < 128 * 256 ^ n) :
    signedBytes (n + 1) v = (List.range (n + 1)).map fun i => BitVec.ofInt 8 (v / 256 ^ (n + 1 - 1 - i)) := by
  have fits : fitsSigned (n + 1) v = true := by
    simp only [fitsSigned, Bool.and_eq_true, decide_eq_true_eq]
    push_cast
    rw [pow_succ]
    omega
  have nonneg : (0 : Int) ≤ v % ((256 ^ (n + 1) : Nat) : Int) := Int.emod_nonneg _ (by positivity)
  rw [Wire.signedBytes_of_fits fits, unsignedBytes_eq_map, Int.toNat_of_nonneg nonneg]
  refine List.map_congr_left fun i hi => ?_
  push_cast
  exact ofInt_emod_ediv v (by omega)

/-- The bits of a flags byte add up as powers of two. -/
theorem flagByte_eq (flags : List Bool) :
    flagByte flags = BitVec.ofNat 8 (flags.zipIdx.map fun b => if b.1 then 2 ^ b.2 else 0).sum := by
  have sum : ∀ (flags : List Bool) (k : Nat),
      ((flags.zipIdx k).map fun b => if b.1 then 2 ^ b.2 else 0).sum =
        2 ^ k * flags.foldr (fun b acc => (if b then 1 else 0) + 2 * acc) 0 := by
    intro flags
    induction flags with
    | nil => intro k; rfl
    | cons b bs ih =>
      intro k
      rw [List.zipIdx_cons, List.map_cons, List.sum_cons, ih, List.foldr_cons]
      split <;> ring
  rw [sum flags 0, Nat.pow_zero, Nat.one_mul]
  rfl

/-! ## READ_TRANSACTION -/

/-- The value of a field of width bytes, most significant byte first, as the statement writes it. -/
def bigEndian (width : Nat) (v : Int) : List Byte :=
  (List.range width).map fun i => BitVec.ofInt 8 (v / 256 ^ (width - 1 - i))

/-- A value fits its signed field, as the statement writes it. -/
def FitsWidth (width : Nat) (v : Int) : Prop := -(128 * 256 ^ (width - 1)) ≤ v ∧ v < 128 * 256 ^ (width - 1)

theorem bigEndian_nat (n v : Nat) : bigEndian n v = unsignedBytes n v := (unsignedBytes_eq_map n v).symm

theorem bigEndian_of_fits {n : Nat} {v : Int} (h : FitsWidth (n + 1) v) : bigEndian (n + 1) v = signedBytes (n + 1) v :=
  (signedBytes_eq_map h.1 h.2).symm

/-- A byte of a count is a field of one byte. -/
theorem bigEndian_one (v : Nat) : bigEndian 1 v = [BitVec.ofNat 8 v] := by
  rw [bigEndian_nat]
  simp [unsignedBytes]

theorem Response.bytes_eq (r : Response) :
    r.bytes =
      bigEndian 1 (6 + r.body.bytes.length) ++ [r.code] ++ bigEndian 2 r.tag.toNat ++
        [r.outcome.code, if r.overrun then 1 else 0] ++ r.body.bytes := by
  have length := bigEndian_one (6 + r.body.bytes.length)
  push_cast at length
  have flag : flagByte [r.overrun] = if r.overrun then 1 else 0 := by cases r.overrun <;> rfl
  rw [Response.bytes, frameBytes, length, bigEndian_nat, flag]
  simp

/-- The selected slot of a reading as a byte. -/
theorem selectedByte_eq (n : Option SlotId) : [selectedByte n] = bigEndian 1 ((n.map fun m => m.val).getD 0) := by
  cases n with
  | none => rfl
  | some m => exact (bigEndian_one m.val).symm

theorem TimeReading.bytes_eq (x : TimeReading) (phase : FitsWidth 6 x.phase) (fApp : FitsWidth 4 x.fApp) (e : FitsWidth 6 x.e)
    (slew : FitsWidth 4 x.policy.sRes) (limit : FitsWidth 4 x.policy.lCom) :
    x.bytes =
      bigEndian 6 x.seconds.toNat ++ bigEndian 6 x.phase ++ bigEndian 4 x.fApp ++ bigEndian 6 x.e ++
        [x.clock.code,
          flagByte
            [x.timeValid, x.assisted, x.inTolerance, x.noticesWaiting, x.selected.isSome, x.policy.stepsPermitted,
              x.policy.squelch]] ++
        bigEndian 1 ((x.selected.map fun n => n.val).getD 0) ++ bigEndian 4 x.policy.sRes ++
        bigEndian 4 x.policy.lCom ++ bigEndian 2 x.generation.toNat := by
  rw [bigEndian_nat 6, bigEndian_nat 2, bigEndian_of_fits phase, bigEndian_of_fits fApp, bigEndian_of_fits e,
    bigEndian_of_fits slew, bigEndian_of_fits limit, ← selectedByte_eq, TimeReading.bytes]
  simp

theorem StatusReading.bytes_eq (x : StatusReading) :
    let k := x.summary
    x.bytes =
      [x.latches.byte, x.startCause.code, x.outcome.code, x.oven.code,
        flagByte
          [x.ovenFault, k.isSome, (k.map (·.beganAtStart)).getD false, (k.map (·.ovenFaultSeen)).getD false,
            (k.map (·.ended)).getD false]] ++
        bigEndian 2 x.soak ++ bigEndian 6 ((k.map (·.entrySeconds.toNat)).getD 0) ++
        bigEndian 4 ((k.map (·.boundaries)).getD 0) ++ bigEndian 4 ((k.map (·.coldBoundaries)).getD 0) ++
        bigEndian 1 ((k.map (·.coldEntries)).getD 0) := by
  dsimp only
  simp only [bigEndian_nat]
  unfold StatusReading.bytes
  cases x.summary with
  | none =>
    have flags : flagByte [x.ovenFault] = flagByte [x.ovenFault, false, false, false, false] := by
      cases x.ovenFault <;> rfl
    simp only [flags, Option.map_none, Option.getD_none]
    rfl
  | some k => simp only [Option.map_some, Option.getD_some, bigEndian_nat]; simp

/-- Settles O44: the frames by their tables, and the three cases of a read transaction. -/
theorem readTransactionClocksOut : Obligations.ReadTransactionClocksOut := by
  intro s p n
  dsimp only
  simp only [← flagByte_eq]
  refine ⟨Response.bytes_eq, rfl, rfl, fun x phase fApp e slew limit => ?_, fun x => ?_, fun start => ?_, fun r service ready => ?_,
    fun start none => ?_⟩
  · refine (TimeReading.bytes_eq x phase fApp e slew limit).trans ?_
    cases x.clock <;> rfl
  · refine (StatusReading.bytes_eq x).trans ?_
    obtain ⟨latches, cause, outcome, oven, fault, soak, summary⟩ := x
    cases cause <;> cases outcome <;> cases oven <;> rfl
  · show execReadTransaction p n s = _
    rw [execReadTransaction, if_pos start]
    have fill : clockOut n [] = List.replicate n 0xFF := by simp [clockOut, fillByte]
    rw [fill]
    rfl
  · obtain ⟨started, run⟩ : s.inStart = false ∧ s.spm.power = .run := by simpa [State.inService] using service
    show execReadTransaction p n s = _
    rw [execReadTransaction, if_neg (by simp [started]), run, ready]
    rfl
  · have notReady : s.notReadyFrame p =
        [6, 0, 0, 0, 0x0E, flagByte [(s.tpi.get p).overrun, (s.tpi.get p).state.isWorking, decide (s.spm.power ≠ .run)]] := by
      have closed : (s.spm.power != .run) = decide (s.spm.power ≠ .run) := by cases s.spm.power <;> rfl
      rw [State.notReadyFrame, closed]
      rfl
    show execReadTransaction p n s = _
    rw [execReadTransaction, if_neg (by simp [start])]
    split
    next r run ready =>
      rcases none with off | none
      · exact absurd run off
      · exact absurd ready (none r)
    · rw [notReady]
      simp only [flagByte_eq]
      rfl

end Sys2Proof.Machine
end

section
/-!
PROOFS. The ports and the requests that change little: responses, refusals, readings, notices and outputs (O39, O45, O46, O50, O54).
-/

namespace Sys2Proof.Machine

/-- Settles O45: each case is the branch of the command that its hypothesis names. -/
theorem responsesCompleteAndMalformedAnswered : Obligations.ResponsesCompleteAndMalformedAnswered := by
  intro s p code tag
  dsimp only
  refine ⟨fun r working => ?_, fun none => ?_, fun takes => ?_, fun off => ?_, fun on working => ?_⟩
  · show execResponseCompleted p s = _
    rw [execResponseCompleted, working]
    rfl
  · show execResponseCompleted p s = _
    rw [execResponseCompleted]
    split
    next r working => exact absurd working (none r)
    · rfl
    · rfl
  · exact congrArg _ (State.takeRequest_of_may takes code tag .empty _)
  · exact congrArg _ (State.takeRequest_of_closed off true p code tag .empty _)
  · exact congrArg _ (State.takeRequest_of_working on working true code tag .empty _)

/-- A request is taken under its code and tag; one that a detached port may not send is refused with the body the model chose. -/
def RequestTaken (i : Instr) (p : Port) (frame : List Byte) (s : State) : Prop :=
  ∃ may refusal act,
    exec i s = .next (s.takeRequest may p (Wire.byteAt frame 1) (Wire.word16At frame 2) refusal act) ∧
    (i.wellFormed = true → Wire.byteAt frame 1 ∉ ([0x10, 0x13, 0x16, 0x19] : List Byte) →
      may = false ∧ refusal = if Wire.byteAt frame 1 = 0x15 then .report none else .empty)

/-- A request whose command takes it. -/
theorem RequestTaken.of_exec {i : Instr} {p q : Port} {frame : List Byte} {code : Byte} {tag : Word16} {body : List Byte}
    {s : State} (request : Wire.requestOf i = some (p, Wire.requestFrame code tag body))
    (carried : Wire.requestOf i = some (q, frame)) (may : Bool) (refusal : Body) (act : State → State × Answer)
    (taken : i.wellFormed = true → exec i s = .next (s.takeRequest may p code tag refusal act))
    (malformed : i.wellFormed = false → exec i s = .next (s.takeMalformed p code tag))
    (refused : code ∉ ([0x10, 0x13, 0x16, 0x19] : List Byte) →
      may = false ∧ refusal = if code = 0x15 then .report none else .empty) : RequestTaken i q frame s := by
  obtain ⟨rfl, rfl⟩ := Prod.mk.inj (Option.some.inj (request.symm.trans carried))
  unfold RequestTaken
  rw [Wire.requestFrame_code, Wire.requestFrame_tag]
  cases formed : i.wellFormed with
  | true => exact ⟨may, refusal, act, taken formed, fun _ => refused⟩
  | false => exact ⟨_, _, _, malformed formed, fun h => absurd h (by simp)⟩

/-- A request of any length is well formed, and its command takes it. -/
theorem RequestTaken.of_take {i : Instr} {p q : Port} {frame : List Byte} {code : Byte} {tag : Word16} {body : List Byte}
    {s : State} (request : Wire.requestOf i = some (p, Wire.requestFrame code tag body))
    (carried : Wire.requestOf i = some (q, frame)) {may : Bool} {refusal : Body} {act : State → State × Answer}
    (formed : i.wellFormed = true) (taken : exec i s = .next (s.takeRequest may p code tag refusal act))
    (refused : code ∉ ([0x10, 0x13, 0x16, 0x19] : List Byte) →
      may = false ∧ refusal = if code = 0x15 then .report none else .empty) : RequestTaken i q frame s :=
  .of_exec request carried may refusal act (fun _ => taken) (fun h => absurd (h.symm.trans formed) (by decide)) refused

/-- Every request is taken under its code and tag. -/
theorem requestTaken_of_requestOf {i : Instr} {p : Port} {frame : List Byte} (carried : Wire.requestOf i = some (p, frame)) (s : State) :
    RequestTaken i p frame s := by
  cases i with
  | attach t tag f => exact .of_take rfl carried rfl rfl fun h => absurd h (by decide)
  | readTime t tag => exact .of_take rfl carried rfl rfl fun h => absurd h (by decide)
  | readReference t tag slot => exact .of_take rfl carried rfl rfl fun h => absurd h (by decide)
  | readConfig t tag => exact .of_take rfl carried rfl rfl fun h => absurd h (by decide)
  | propose t tag kind items =>
    refine .of_exec rfl carried false .empty (State.actPropose t kind items) (fun formed => ?_) (fun formed => ?_)
      fun _ => ⟨rfl, rfl⟩
    · exact if_pos (by simpa [Instr.wellFormed, proposeLengthOk] using formed)
    · exact if_neg (by simpa [Instr.wellFormed, proposeLengthOk] using formed)
  | clearNotices t tag kinds =>
    refine .of_exec rfl carried false .empty (State.actClearNotices t kinds) (fun formed => ?_) (fun formed => ?_)
      fun _ => ⟨rfl, rfl⟩
    · exact if_pos (by simpa [Instr.wellFormed, clearLengthOk] using formed)
    · refine if_neg fun length => ?_
      simp [Instr.wellFormed, clearLengthOk] at formed
      omega
  | advertise t tag f => exact .of_take rfl carried rfl rfl fun _ => ⟨rfl, rfl⟩
  | detach t tag => exact .of_take rfl carried rfl rfl fun _ => ⟨rfl, rfl⟩
  | readStatus t tag => exact .of_take rfl carried rfl rfl fun _ => ⟨rfl, rfl⟩
  | reportPhase t tag f => exact .of_take rfl carried rfl rfl fun _ => ⟨rfl, rfl⟩
  | readLearning t tag first number => exact .of_take rfl carried rfl rfl fun _ => ⟨rfl, rfl⟩
  | readAging t tag => exact .of_take rfl carried rfl rfl fun _ => ⟨rfl, rfl⟩
  | setOutput t tag f => exact .of_take rfl carried rfl rfl fun _ => ⟨rfl, rfl⟩
  | concur t tag serial => exact .of_take rfl carried rfl rfl fun _ => ⟨rfl, rfl⟩
  | decline t tag serial => exact .of_take rfl carried rfl rfl fun _ => ⟨rfl, rfl⟩
  | readJoint t tag => exact .of_take rfl carried rfl rfl fun _ => ⟨rfl, rfl⟩
  | readNotices t tag => exact .of_take rfl carried rfl rfl fun _ => ⟨rfl, rfl⟩
  | nextNotice t tag => exact .of_take rfl carried rfl rfl fun _ => ⟨rfl, rfl⟩
  | noticesDone t tag => exact .of_take rfl carried rfl rfl fun _ => ⟨rfl, rfl⟩
  | setNoticeMask t tag mask => exact .of_take rfl carried rfl rfl fun _ => ⟨rfl, rfl⟩
  | _ => cases carried

/-- Settles O46: every request is taken as `requestTaken_of_requestOf` says, and the take turns it away in the three cases. -/
theorem requestsAreTurnedAway : Obligations.RequestsAreTurnedAway := by
  intro s i p frame carried
  obtain ⟨may, refusal, act, taken, refused⟩ := requestTaken_of_requestOf carried s
  dsimp only
  rw [taken]
  refine ⟨fun off => ?_, fun on working => ?_, fun formed takes detached code => ?_⟩
  · rw [State.takeRequest_of_closed off]
    rfl
  · rw [State.takeRequest_of_working on working]
    rfl
  · obtain ⟨rfl, rfl⟩ := refused formed code
    rw [State.takeRequest_of_detached takes detached]

/-! ## Readings (O50) -/

theorem slotOf_of_lt {b : Byte} {n : SlotId} (h : b.toNat = n.val) : slotOf b = some n := by
  have lt : b.toNat < 6 := by omega
  rw [slotOf, dif_pos lt]
  exact congrArg _ (Fin.ext h)

theorem slotOf_of_le {b : Byte} (h : 5 < b.toNat) : slotOf b = none := dif_neg (by omega)

/-- Learning is enabled while the oven is settled with its soak over, the sensor works, θs is present and the part is in RUN. -/
theorem State.learningEnabled_eq (s : State) :
    s.learningEnabled =
      (decide (s.spm.oven = OvenState.settled ∧ s.spm.soak = 0) && !s.ols.sensorFault && s.ols.theta.isSome &&
        decide (s.spm.power = .run)) := by
  rw [Bool.eq_iff_iff]
  simp [State.learningEnabled]

/-- Settles O50: the take of the request, and the reading that the model forms. -/
theorem referenceAndLearningAreRead : Obligations.ReferenceAndLearningAreRead := by
  intro s p tag slot first number
  refine ⟨fun takes high => ?_, fun n takes low => ?_, fun takes => ⟨?_, ?_⟩⟩
  · refine (congrArg _ (State.takeRequest_of_may takes _ _ _ _)).trans ?_
    dsimp only
    rw [State.answerReference, slotOf_of_le high]
    rfl
  · refine (congrArg _ (State.takeRequest_of_may takes _ _ _ _)).trans ?_
    dsimp only
    rw [State.answerReference, slotOf_of_lt low]
    rfl
  · refine (congrArg _ (State.takeRequest_of_attached takes _ _ _ _ _)).trans ?_
    have asked : learningAsked first.toNat number.toNat =
        decide (first.toNat ≤ 31 ∧ 1 ≤ number.toNat ∧ number.toNat ≤ 8) := by
      rw [Bool.eq_iff_iff]
      simp [learningAsked, and_assoc]
    dsimp only [State.learningReading]
    rw [asked, State.learningEnabled_eq]
    simp only [decide_eq_true_eq]
    rfl
  · exact congrArg _ (State.takeRequest_of_attached takes _ _ _ _ _)

/-! ## Notices (O54) -/

theorem mem_withoutKinds {kinds : List Byte} {set : List Notice} {x : Notice} :
    x ∈ withoutKinds kinds set ↔ x ∈ set ∧ ∀ k ∈ kinds, k.toNat ≠ x.kind := by
  simp [withoutKinds, List.mem_filter]

/-- Settles O54: each request acts on its own tenant's notice state as its definition says. -/
theorem noticeRequestsAct : Obligations.NoticeRequestsAct := by
  intro s p tag takes
  dsimp only
  refine ⟨?_, fun none => ?_, fun first rest eq => ?_, fun kinds one most => ⟨fun bad => ?_, fun good => ?_⟩, ?_, fun mask => ?_⟩
  · exact congrArg _ (State.takeRequest_of_attached takes _ _ _ _ _)
  · refine (congrArg _ (State.takeRequest_of_attached takes _ _ _ _ _)).trans ?_
    dsimp only
    rw [none]
    dsimp only [List.tail_nil, List.head?_nil]
    rw [← none]
    rfl
  · refine (congrArg _ (State.takeRequest_of_attached takes _ _ _ _ _)).trans ?_
    dsimp only
    rw [eq]
    rfl
  · show execClearNotices p tag kinds s = _
    rw [execClearNotices, if_pos ⟨one, most⟩, State.takeRequest_of_attached takes, State.actClearNotices, if_pos]
    · rfl
    · simpa using bad
  · refine ⟨withoutKinds kinds (s.nu.get p).notices, ?_, List.filter_sublist, fun x => mem_withoutKinds⟩
    show execClearNotices p tag kinds s = _
    rw [execClearNotices, if_pos ⟨one, most⟩, State.takeRequest_of_attached takes, State.actClearNotices, if_neg]
    · rfl
    · simpa using good
  · exact congrArg _ (State.takeRequest_of_attached takes _ _ _ _ _)
  · exact congrArg _ (State.takeRequest_of_attached takes _ _ _ _ _)

/-! ## SET_OUTPUT (O39) -/

theorem clampCount_eq {lo hi : Nat} (h : lo ≤ hi) (v : Nat) :
    clampCount lo hi v = (max lo (min hi v), if max lo (min hi v) = v then .ok else .clamped) := by
  unfold clampCount
  split
  next inside =>
    have same : max lo (min hi v) = v := by omega
    rw [same, if_pos rfl]
  next outside => rw [if_neg (by omega)]

theorem clampItem_eq {lo hi : Int} (h : lo ≤ hi) (v : Int) :
    clampItem lo hi v = (max lo (min hi v), if max lo (min hi v) = v then .ok else .clamped) := by
  unfold clampItem
  split
  next inside =>
    have same : max lo (min hi v) = v := by omega
    rw [same, if_pos rfl]
  next outside => rw [if_neg (by omega)]; rfl

theorem squelchModeOf_code (mode : SquelchMode) : squelchModeOf mode.code = some mode := by
  cases mode <;> rfl

theorem squelchModeOf_of_lt {b : Byte} (h : 2 < b.toNat) : squelchModeOf b = none := by
  unfold squelchModeOf
  split
  · omega
  · omega
  · omega
  · rfl

/-- Settles O39: the pending record of `takeOutput`, field by field, and the outcome of its results. -/
theorem setOutputTakesFields : Obligations.SetOutputTakesFields := by
  intro s t tag f takes
  dsimp only
  refine ⟨fun high => ?_, fun mode known interval => ?_⟩
  · refine (congrArg _ (State.takeRequest_of_attached takes _ _ _ _ _)).trans ?_
    rw [State.actSetOutput, squelchModeOf_of_lt high]
    rfl
  · refine (congrArg _ (State.takeRequest_of_attached takes _ _ _ _ _)).trans ?_
    rw [State.actSetOutput, ← known, squelchModeOf_code]
    dsimp only [takeOutput]
    generalize supportedIntervals.contains f.interval.toNat = listed at interval ⊢
    generalize (if listed = true then f.interval.toNat else
      ((s.pou.get (tenantOut t)).pending.getD (s.pou.get (tenantOut t)).current).interval) = ms at interval ⊢
    have half : 1 ≤ halfInterval ms := by unfold halfInterval; omega
    rw [clampCount_eq half, clampItem_eq (by decide)]
    have outcome : ∀ w o : Prop, ∀ [Decidable w] [Decidable o],
        outputOutcome [.ok, if listed = true then .ok else .ignored, if w then .ok else .clamped,
          if o then .ok else .clamped, .ok] =
        if listed = false then .ignored else if ¬w ∨ ¬o then .clamped else .ok := by
      intro w o _ _
      cases listed <;> by_cases hw : w <;> by_cases ho : o <;> simp [hw, ho, outputOutcome]
    rw [outcome]
    have enable : (f.enable != 0) = decide (f.enable ≠ 0) := by
      rw [Bool.eq_iff_iff]; simp
    rw [enable]
    rfl

end Sys2Proof.Machine
end

section
/-!
PROOFS. Learning and the resolution: the aging slope, the filing of a result, the policy (O30, O31, O33).
-/

namespace Sys2Proof.Machine

/-! ## The aging slope (O30) -/

/-- Settles O30: the end records of a ring that has them, and the span between them. -/
theorem agingSlopeFromEndRecords : Obligations.AgingSlopeFromEndRecords := by
  intro ring
  refine ⟨fun short => ?_, fun o n head last long => ⟨fun near => ?_, fun far => ?_⟩⟩
  · unfold agingOf
    split
    · rw [if_neg fun both => by omega]
    · rfl
  · simp only [agingOf, head, last]
    rw [if_neg fun both => by omega]
  · simp only [agingOf, head, last]
    rw [if_pos ⟨long, far⟩]
    rfl

/-! ## The filing of a result (O31) -/

/-- A division by 1 rounds nothing. -/
theorem roundDiv_one (x : Int) : roundDiv x 1 = x := by
  unfold roundDiv
  dsimp only
  split <;> omega

/-- The record of a bin after a result f is filed in it (R93). -/
def BinRecord.filed (r : BinRecord) (f : Int) : BinRecord :=
  let n := min 65535 (r.count + 1)
  { count := n
    mean := r.mean + roundDiv (f - r.mean) (min n 64)
    spread := if r.count = 0 then 0 else r.spread + roundDiv (mag (f - r.mean) - r.spread) (min n 64) }

theorem Ols.fileResult_bins (o : Ols) (f θ : Int) (b : BinId) :
    (o.fileResult f θ).bins.get b = if b = binOf θ then (o.bins.get b).filed f else o.bins.get b := by
  have bins : (o.fileResult f θ).bins = o.bins.set (binOf θ) ((o.bins.get (binOf θ)).filed f) := by
    unfold Ols.fileResult
    dsimp only
    split <;> rfl
  rw [bins, Vector.get_eq_getElem, Vector.getElem_set]
  by_cases same : b = binOf θ
  · rw [if_pos (congrArg Fin.val same.symm), if_pos same, same]
  · rw [if_neg fun eq => same (Fin.ext eq.symm), if_neg same]
    rfl

theorem BinRecord.filed_weight (r : BinRecord) : 0 < min (min 65535 (r.count + 1)) 64 := by omega

/-- Settles O31: the bin of the temperature takes the record of `BinRecord.filed`, whose mean and spread are running averages. -/
theorem resultFiledInBin : Obligations.ResultFiledInBin := by
  intro o f θ
  have new : (o.fileResult f θ).bins.get (binOf θ) = (o.bins.get (binOf θ)).filed f := by
    rw [Ols.fileResult_bins, if_pos rfl]
  dsimp only
  rw [new]
  generalize o.bins.get (binOf θ) = old
  refine ⟨rfl, rfl, rfl, fun empty => ?_, fun l1 l2 l3 l4 => ?_, fun nonneg => ?_, fun b ne => ?_, fun day => ?_, fun full => ?_⟩
  · show old.mean + roundDiv (f - old.mean) (min (min 65535 (old.count + 1)) 64) = f
    rw [empty]
    show old.mean + roundDiv (f - old.mean) 1 = f
    rw [roundDiv_one]
    omega
  · exact average_bounds old.filed_weight l1 l2 l3 l4
  · show 0 ≤ if old.count = 0 then 0 else old.spread + roundDiv (mag (f - old.mean) - old.spread) _
    split
    · exact le_refl _
    · exact average_nonneg old.filed_weight nonneg (mag_nonneg _)
  · rw [Ols.fileResult_bins, if_neg ne]
  · simp only [Ols.fileResult, if_pos day]
    trivial
  · simp only [Ols.fileResult, if_neg (Nat.not_lt.mpr full)]
    trivial

/-! ## The resolution (O33) -/

/-- The least of a list of limits is one of them, and no more than any. -/
theorem foldl_min_least {α : Type} (f : α → Int) (as : List α) :
    ∀ a : α, (∀ x ∈ a :: as, as.foldl (fun m x => min m (f x)) (f a) ≤ f x) ∧
      ∃ x ∈ a :: as, as.foldl (fun m x => min m (f x)) (f a) = f x := by
  have general : ∀ (as : List α) (m : Int), (as.foldl (fun m x => min m (f x)) m ≤ m ∧
      ∀ x ∈ as, as.foldl (fun m x => min m (f x)) m ≤ f x) ∧
      (as.foldl (fun m x => min m (f x)) m = m ∨ ∃ x ∈ as, as.foldl (fun m x => min m (f x)) m = f x) := by
    intro as
    induction as with
    | nil => exact fun m => ⟨⟨le_refl _, by simp⟩, .inl rfl⟩
    | cons b bs ih =>
      intro m
      obtain ⟨⟨below, belowAll⟩, attained⟩ := ih (min m (f b))
      refine ⟨⟨below.trans (min_le_left _ _), fun x hx => ?_⟩, ?_⟩
      · rcases List.mem_cons.mp hx with rfl | hx
        · exact below.trans (min_le_right _ _)
        · exact belowAll x hx
      · rcases attained with eq | ⟨x, hx, eq⟩
        · rcases min_choice m (f b) with left | right
          · exact .inl (eq.trans left)
          · exact .inr ⟨b, List.mem_cons_self, eq.trans right⟩
        · exact .inr ⟨x, List.mem_cons_of_mem _ hx, eq⟩
  intro a
  obtain ⟨⟨below, belowAll⟩, attained⟩ := general as (f a)
  refine ⟨fun x hx => ?_, ?_⟩
  · rcases List.mem_cons.mp hx with rfl | hx
    · exact below
    · exact belowAll x hx
  · rcases attained with eq | ⟨x, hx, eq⟩
    · exact ⟨a, List.mem_cons_self, eq⟩
    · exact ⟨x, List.mem_cons_of_mem _ hx, eq⟩

/-- Settles O33: the policy is read from the advertisements of the attached tenants, of which there is none or a first one. -/
theorem resolutionIsMostCareful : Obligations.ResolutionIsMostCareful := by
  intro ts
  dsimp only
  have unfolded : resolvedPolicy ts = match attachedAdvs ts with
      | [] => .noTenant
      | a :: as =>
        { stepsPermitted := (a :: as).all (·.allow)
          sRes := as.foldl (fun m x => min m x.slew) a.slew
          lCom := as.foldl (fun m x => min m x.limit) a.limit
          squelch := (a :: as).any (·.squelch) } := rfl
  refine ⟨fun none => ?_, fun ⟨t, attached⟩ => ?_⟩
  · have empty : attachedAdvs ts = [] := by
      refine List.eq_nil_iff_forall_not_mem.mpr fun a ha => ?_
      obtain ⟨t, attached, -⟩ := mem_attachedAdvs_iff.mp ha
      exact Bool.false_ne_true ((none t).symm.trans attached)
    rw [unfolded, empty]
    rfl
  · have mem : ∀ u : Port, (ts.get u).attached = true → (ts.get u).adv ∈ attachedAdvs ts := fun u hu =>
      mem_attachedAdvs_iff.mpr ⟨u, hu, rfl⟩
    have back : ∀ a ∈ attachedAdvs ts, ∃ u : Port, (ts.get u).attached = true ∧ a = (ts.get u).adv := fun a =>
      mem_attachedAdvs_iff.mp
    rw [unfolded]
    clear unfolded
    cases advs : attachedAdvs ts with
    | nil => exact absurd (advs ▸ mem t attached) (by simp)
    | cons a as =>
      rw [advs] at mem back
      obtain ⟨slewLeast, slew, slewMem, slewEq⟩ := foldl_min_least (·.slew) as a
      obtain ⟨limitLeast, limit, limitMem, limitEq⟩ := foldl_min_least (·.limit) as a
      dsimp only
      refine ⟨?_, ?_, fun u hu => ⟨slewLeast _ (mem u hu), limitLeast _ (mem u hu)⟩, ?_, ?_⟩
      · rw [List.all_eq_true]
        refine ⟨fun all u hu => all _ (mem u hu), fun all x hx => ?_⟩
        obtain ⟨u, hu, rfl⟩ := back x hx
        exact all u hu
      · rw [List.any_eq_true]
        refine ⟨fun ⟨x, hx, wish⟩ => ?_, fun ⟨u, hu, wish⟩ => ⟨_, mem u hu, wish⟩⟩
        obtain ⟨u, hu, rfl⟩ := back x hx
        exact ⟨u, hu, wish⟩
      · obtain ⟨u, hu, rfl⟩ := back slew slewMem
        exact ⟨u, hu, slewEq⟩
      · obtain ⟨u, hu, rfl⟩ := back limit limitMem
        exact ⟨u, hu, limitEq⟩

end Sys2Proof.Machine
end

section
/-!
PROOFS. The pulses and the labels (O34, O35).
-/

namespace Sys2Proof.Machine

/-! ## Tallies (R31) -/

theorem tallyOf_cons_same {k : Seconds} {t : Tally} (h : t.epoch = k) (ts : List Tally) : tallyOf k (t :: ts) = t := by
  simp [tallyOf, h]

theorem tallyOf_cons_other {k : Seconds} {t : Tally} (h : t.epoch ≠ k) (ts : List Tally) :
    tallyOf k (t :: ts) = tallyOf k ts := by
  simp [tallyOf, h]

theorem tallyOf_markTally (k : Seconds) (f : FaultSet) (pulses : Nat) (ts : List Tally) :
    tallyOf k (markTally k f pulses ts) =
      { epoch := k, pulses := (tallyOf k ts).pulses + pulses, faults := (tallyOf k ts).faults.union f } := by
  induction ts with
  | nil => simp [markTally, tallyOf, FaultSet.union]
  | cons t ts ih =>
    rw [markTally]
    split
    next same =>
      rw [tallyOf_cons_same (by exact same), tallyOf_cons_same same, ← same]
    next other => rw [tallyOf_cons_other other, tallyOf_cons_other other, ih]

theorem tallyOf_markTally_ne {j k : Seconds} (h : j ≠ k) (f : FaultSet) (pulses : Nat) (ts : List Tally) :
    tallyOf j (markTally k f pulses ts) = tallyOf j ts := by
  induction ts with
  | nil => simp [markTally, tallyOf, Ne.symm h]
  | cons t ts ih =>
    rw [markTally]
    split
    next same =>
      have other : t.epoch ≠ j := fun eq => h (eq.symm.trans same)
      rw [tallyOf_cons_other (by exact other), tallyOf_cons_other other]
    next =>
      by_cases same : t.epoch = j
      · rw [tallyOf_cons_same same, tallyOf_cons_same same]
      · rw [tallyOf_cons_other same, tallyOf_cons_other same, ih]

theorem FaultSet.union_extra (f : FaultSet) : f.union { extra := true } = { f with extra := true } := by
  simp [FaultSet.union]

theorem FaultSet.union_gate (f : FaultSet) : f.union { gate := true } = { f with gate := true } := by
  simp [FaultSet.union]

theorem FaultSet.union_empty (f : FaultSet) : f.union {} = f := by
  simp [FaultSet.union]

/-! ## An observation on a pulse slot -/

@[simp] theorem Rmu.setTarget_target (r : Rmu) (p : PulseInput) (x : Option LabelTarget) :
    (r.setTarget p x).target p = x := by
  cases p <;> rfl

theorem Rmu.setTarget_target_ne (r : Rmu) {p q : PulseInput} (h : q ≠ p) (x : Option LabelTarget) :
    (r.setTarget p x).target q = r.target q := by
  cases p <;> cases q <;> first | rfl | exact absurd rfl h

/-- The RMU with the slot and the label target of one pulse input replaced. -/
def Rmu.observe (r : Rmu) (p : PulseInput) (sl : Slot) (x : Option LabelTarget) : Rmu :=
  (r.setSlot (pulseSlot p) sl).setTarget p x

section
variable (r : Rmu) (p : PulseInput) (sl : Slot) (x : Option LabelTarget)

@[simp] theorem Rmu.observe_slot : (r.observe p sl x).slots.get (pulseSlot p) = sl := by
  simp [Rmu.observe, Rmu.setSlot]

theorem Rmu.observe_slot_ne {n : SlotId} (h : n ≠ pulseSlot p) : (r.observe p sl x).slots.get n = r.slots.get n := by
  simp [Rmu.observe, Rmu.setSlot, Six.get_set_ne _ _ h]

@[simp] theorem Rmu.observe_target : (r.observe p sl x).target p = x := Rmu.setTarget_target _ _ _

theorem Rmu.observe_target_ne {q : PulseInput} (h : q ≠ p) : (r.observe p sl x).target q = r.target q :=
  Rmu.setTarget_target_ne _ h _

theorem Rmu.observe_frame :
    r.observe p sl x =
      { r with
        slots := (r.observe p sl x).slots, targetA := (r.observe p sl x).targetA, targetB := (r.observe p sl x).targetB } := by
  cases p <;> rfl

end

theorem SlotState.takes_iff (st : SlotState) : st.takes = true ↔ st = .qualifying ∨ st = .usable ∨ st = .selected := by
  cases st <;> simp [SlotState.takes]

/-- The take of a pulse, case by case (R24). -/
theorem Rmu.takePulse_eq (r : Rmu) (p : PulseInput) (c : Seconds) (phase : Nat) :
    let sl := r.slots.get (pulseSlot p)
    let k := (pulseEpoch c phase sl.settings.comp).1
    let e := (pulseEpoch c phase sl.settings.comp).2
    r.takePulse p c phase =
      if !sl.state.takes || !r.isOpen k then r
      else if 1 ≤ (tallyOf k sl.tallies).pulses then r.observe p (sl.fault k { extra := true } 1) (some ⟨k, false, none⟩)
      else if sl.gated e then r.observe p (sl.fault k { gate := true } 1) (some ⟨k, false, none⟩)
      else r.observe p (sl.enqueue ⟨k, e, none, none⟩ 1) (some ⟨k, true, none⟩) := rfl

/-- The nearest second mark of a pulse (R23). -/
theorem pulseEpoch_fst (c : Seconds) (phase : Nat) (comp : Int) :
    (pulseEpoch c phase comp).1 = if (phase : Int) - comp ≤ 500000000000 then c else c + 1 := by
  unfold pulseEpoch
  dsimp only
  split <;> rfl

/-- The phase of a pulse against its mark (R23). -/
theorem pulseEpoch_snd (c : Seconds) (phase : Nat) (comp : Int) :
    (pulseEpoch c phase comp).2 =
      if (phase : Int) - comp ≤ 500000000000 then -((phase : Int) - comp) else 1000000000000 - ((phase : Int) - comp) := by
  have second : (psPerSecond : Int) = 1000000000000 := by norm_num [psPerSecond]
  unfold pulseEpoch
  dsimp only
  split
  · rfl
  · rw [second]

theorem exec_pulse_of_inService {s : State} (service : s.inService = true) (p : PulseInput) (cycles : Nat) :
    exec (.pulse p cycles) s =
      .next
        { s.advanceCycles cycles with
          rmu := s.rmu.takePulse p (s.advanceCycles cycles).tsg.seconds (s.advanceCycles cycles).tsg.phase } := by
  obtain ⟨started, -⟩ := Bool.and_eq_true_iff.mp service
  have serves : (s.advanceCycles cycles).inService = true := by
    simpa [State.inService, State.inStart] using service
  have rmu : (s.advanceCycles cycles).rmu = s.rmu := by simp
  show execPulse p cycles s = _
  unfold execPulse
  rw [if_neg (by simpa using started)]
  dsimp only
  rw [if_pos serves, rmu]

theorem exec_pulse_of_inStart {s : State} (start : s.inStart = true) (p : PulseInput) (cycles : Nat) :
    exec (.pulse p cycles) s = .next s := by
  show execPulse p cycles s = _
  rw [execPulse, if_pos start]

theorem exec_pulse_of_off {s : State} (start : s.inStart = false) (off : s.spm.power ≠ .run) (p : PulseInput)
    (cycles : Nat) : exec (.pulse p cycles) s = .next (s.advanceCycles cycles) := by
  have off : (s.advanceCycles cycles).inService = false := by
    refine State.inService_of_power fun run => off ?_
    simpa using run
  show execPulse p cycles s = _
  rw [execPulse, if_neg (by simp [start])]
  dsimp only
  rw [if_neg (by simp [off])]

/-- A state with its own RMU put in it. -/
theorem State.with_rmu_self {s : State} {r : Rmu} (h : s.rmu = r) : { s with rmu := r } = s := by
  rw [← h]

/-- Settles O34: the four cases of `Rmu.takePulse`, on the state after the cycles. -/
theorem pulseIsTaken : Obligations.PulseIsTaken := by
  intro s p cycles
  dsimp only
  refine ⟨fun start => exec_pulse_of_inStart start p cycles, fun start off => exec_pulse_of_off start off p cycles,
    fun service => ?_⟩
  · rw [exec_pulse_of_inService service, Rmu.takePulse_eq]
    simp only [← pulseEpoch_fst, ← pulseEpoch_snd (s.advanceCycles cycles).tsg.seconds]
    have same : (s.advanceCycles cycles).rmu = s.rmu := by simp
    generalize s.advanceCycles cycles = a at same
    generalize pulseEpoch a.tsg.seconds a.tsg.phase _ = ke
    obtain ⟨k, e⟩ := ke
    dsimp only
    generalize s.rmu = r at same
    generalize hsl : r.slots.get (pulseSlot p) = sl
    rw [← SlotState.takes_iff, ← Slot.gated_iff]
    refine ⟨fun no => ?_, fun takes opened => ?_⟩
    · rw [if_pos (by simpa [imp_iff_not_or] using no)]
      exact congrArg Host.Outcome.next (State.with_rmu_self same)
    · rw [if_neg (by simp [takes, opened])]
      have marked : ∀ (f : FaultSet) (q : List QueueItem) (j : Seconds), j ≠ k →
          tallyOf j { sl with queue := q, tallies := markTally k f 1 sl.tallies }.tallies = tallyOf j sl.tallies :=
        fun f _ j ne => tallyOf_markTally_ne ne f 1 _
      by_cases extra : 1 ≤ (tallyOf k sl.tallies).pulses
      · rw [if_pos extra]
        refine ⟨_, rfl, rfl, fun n ne => Rmu.observe_slot_ne _ _ _ _ ne, fun q ne => Rmu.observe_target_ne _ _ _ _ ne,
          Rmu.observe_frame _ _ _ _, ?_⟩
        rw [Rmu.observe_slot, Rmu.observe_target]
        refine ⟨fun _ => ?_, fun no => absurd extra no, fun no => absurd extra no, marked _ sl.queue, fun _ => ⟨rfl, rfl⟩,
          fun no => absurd extra no, fun no => absurd extra no⟩
        exact (tallyOf_markTally _ _ _ _).trans (by rw [FaultSet.union_extra])
      · rw [if_neg extra]
        by_cases gate : sl.gated e = true
        · rw [if_pos gate]
          refine ⟨_, rfl, rfl, fun n ne => Rmu.observe_slot_ne _ _ _ _ ne, fun q ne => Rmu.observe_target_ne _ _ _ _ ne,
            Rmu.observe_frame _ _ _ _, ?_⟩
          rw [Rmu.observe_slot, Rmu.observe_target]
          refine ⟨fun yes => absurd yes extra, fun _ _ => ?_, fun _ no => absurd gate no, marked _ sl.queue,
            fun yes => absurd yes extra, fun _ _ => ⟨rfl, rfl⟩, fun _ no => absurd gate no⟩
          exact (tallyOf_markTally _ _ _ _).trans (by rw [FaultSet.union_gate])
        · rw [if_neg gate]
          refine ⟨_, rfl, rfl, fun n ne => Rmu.observe_slot_ne _ _ _ _ ne, fun q ne => Rmu.observe_target_ne _ _ _ _ ne,
            Rmu.observe_frame _ _ _ _, ?_⟩
          rw [Rmu.observe_slot, Rmu.observe_target]
          refine ⟨fun yes => absurd yes extra, fun _ yes => absurd yes gate, fun _ _ => ?_, marked _ _,
            fun yes => absurd yes extra, fun _ yes => absurd yes gate, fun _ _ => ⟨rfl, rfl⟩⟩
          exact (tallyOf_markTally _ _ _ _).trans (by rw [FaultSet.union_empty])

/-! ## Labels -/

/-- A label message against its target, case by case (R25). -/
theorem Rmu.takeLabel_eq (r : Rmu) {p : PulseInput} {x : LabelTarget} (target : r.target p = some x) (label : Seconds)
    (fix valid : Bool) :
    let sl := r.slots.get (pulseSlot p)
    r.takeLabel p label fix valid =
      if !sl.state.takes || !r.isOpen x.epoch || x.label.isSome then r
      else
        r.observe p
          (if !x.hasEntry then sl
          else if !fix then { sl.fault x.epoch { quality := true } 0 with queue := dropStamped x.epoch sl.queue }
          else if valid && sl.state != .selected && label != x.epoch then
            { sl.fault x.epoch { label := true } 0 with queue := dropStamped x.epoch sl.queue }
          else
            { sl with
              queue := mapEntries (fun e => if e.stamp = x.epoch then { e with label := some label } else e) sl.queue })
          (some { x with label := some label }) := by
  have keep : ∀ y, r.observe p (r.slots.get (pulseSlot p)) y = r.setTarget p y := by
    intro y
    cases p <;> simp [Rmu.observe, Rmu.setSlot, Rmu.setTarget]
  have order : ∀ sl y, (r.setTarget p y).setSlot (pulseSlot p) sl = r.observe p sl y := by
    intro sl y
    cases p <;> rfl
  unfold Rmu.takeLabel
  dsimp only
  rw [target]
  dsimp only
  split
  · rfl
  · split
    · exact (keep _).symm
    · split
      · exact order _ _
      · split <;> exact order _ _

/-- Settles O35: the cases of `Rmu.takeLabel_eq`. -/
theorem labelIsJudged : Obligations.LabelIsJudged := by
  intro s p label fix
  dsimp only
  have run : exec (.labelMessage p (.whole label fix)) s =
      if s.inService then .next { s with rmu := s.rmu.takeLabel p label fix s.tsg.timeValid } else .next s := rfl
  refine ⟨rfl, fun none => ?_, fun x service target => ?_⟩
  · rw [run]
    split
    next service =>
      rcases none with off | none
      · rw [off] at service; cases service
      · simp only [Rmu.takeLabel, none]
    · rfl
  · rw [run, if_pos service, Rmu.takeLabel_eq _ target]
    generalize hsl : s.rmu.slots.get (pulseSlot p) = sl
    refine ⟨fun no => ?_, fun takes opened fresh => ?_⟩
    · rw [if_pos]
      rw [← SlotState.takes_eq_false_iff] at no
      rcases no with idle | closed | taken
      · simp [idle]
      · simp [closed]
      · simp [Option.isSome_iff_ne_none.mpr taken]
    · rw [← SlotState.takes_iff] at takes
      rw [if_neg (by simp [takes, opened, fresh])]
      refine ⟨_, rfl, rfl, Rmu.observe_target _ _ _ _, fun n ne => Rmu.observe_slot_ne _ _ _ _ ne,
        fun q ne => Rmu.observe_target_ne _ _ _ _ ne, Rmu.observe_frame _ _ _ _, ?_⟩
      rw [Rmu.observe_slot]
      have contradicts : (s.tsg.timeValid && sl.state != .selected && label != x.epoch) = true ↔
          s.tsg.timeValid = true ∧ sl.state ≠ .selected ∧ label ≠ x.epoch := by
        simp [and_assoc]
      rw [← contradicts]
      refine ⟨fun bare => ?_, fun entry bad => ?_, fun entry good mismatch => ?_, fun entry good matched => ?_⟩
      · simp [bare]
      · simp [entry, bad, Slot.fault]
      · simp only [entry, good, mismatch, Slot.fault]; rfl
      · simp only [entry, good, Bool.eq_false_iff.mpr matched]; rfl

end Sys2Proof.Machine
end

section
/-!
PROOFS. What is told stays told: how postings of other kinds leave a tenant's notices, and the judgement of tolerance (O60).
-/

namespace Sys2Proof.Machine

/-! ## Reports that go on standing -/

/-- A report that fits goes on fitting when the report r, of its kind, is merged into it (R200). -/
def Report.KeepsFitting (fits : Report → Prop) (r : Report) : Prop :=
  ∀ old : Report, fits old → old.kind = r.kind → fits (old.merge r)

/-- Reports that fit go on fitting whatever is posted of the kinds given. -/
def Ignores (fits : Report → Prop) (kinds : List Nat) : Prop := ∀ r : Report, r.kind ∈ kinds → r.KeepsFitting fits

theorem ignores_of_kind {fits : Report → Prop} {k : Nat} (h : ∀ r, fits r → r.kind = k) {kinds : List Nat} (ne : k ∉ kinds) :
    Ignores fits kinds := fun _ hr old ok same => absurd (h old ok ▸ same ▸ hr) ne

theorem ignores_eq (r : Report) {kinds : List Nat} (ne : r.kind ∉ kinds) : Ignores (fun x => x = r) kinds :=
  ignores_of_kind (fun _ h => congrArg Report.kind h) ne

theorem ignores_false (kinds : List Nat) : Ignores (fun _ => False) kinds := fun _ _ _ h => h.elim

theorem Ignores.mono {fits : Report → Prop} {ks ks' : List Nat} (h : Ignores fits ks) (sub : ks' ⊆ ks) : Ignores fits ks' :=
  fun r hr => h r (sub hr)

/-- The report of a tolerance flag that changes (R124). -/
def tolReport (inTol : Bool) (e : Int) : Report := if inTol then .tolRegained e else .tolLost e

/-- A newer report stands after a merge, but for the kinds that merge by union. -/
theorem Report.merge_of_kind {old new : Report} (h : new.kind ∉ [4, 5, 15]) : old.merge new = new :=
  Report.merge_of_not_union (fun _ _ _ e => h (by simp [e, Report.kind])) (fun _ _ _ e => h (by simp [e, Report.kind]))
    fun _ _ _ e => h (by simp [e, Report.kind])

/-- From one notice state to another the frozen flag and the mask stand, and where a report that fits stood in a set, one stands. -/
structure TenantNotices.Retains (fits : Report → Prop) (n n' : TenantNotices) : Prop where
  frozen : n'.frozen = n.frozen
  mask : n'.mask = n.mask
  pending : (∃ x ∈ n.pending, fits x.report) → ∃ x ∈ n'.pending, fits x.report
  notices : (∃ x ∈ n.notices, fits x.report) → ∃ x ∈ n'.notices, fits x.report

theorem TenantNotices.Retains.refl (fits : Report → Prop) (n : TenantNotices) : n.Retains fits n := ⟨rfl, rfl, id, id⟩

theorem TenantNotices.Retains.trans {fits : Report → Prop} {a b c : TenantNotices} (h : a.Retains fits b)
    (h' : b.Retains fits c) : a.Retains fits c :=
  ⟨h'.frozen.trans h.frozen, h'.mask.trans h.mask, h'.pending ∘ h.pending, h'.notices ∘ h.notices⟩

theorem TenantNotices.retains_latches (fits : Report → Prop) (n : TenantNotices) (l : Latches) :
    n.Retains fits { n with latches := l } := ⟨rfl, rfl, id, id⟩

/-- A filing into a set leaves a report that fits there. -/
theorem fileNotice_retains {fits : Report → Prop} {x : Notice} (keeps : x.report.KeepsFitting fits) {ns : List Notice}
    (h : ∃ y ∈ ns, fits y.report) : ∃ y ∈ fileNotice x ns, fits y.report := by
  obtain ⟨y, mem, ok⟩ := h
  induction ns with
  | nil => cases mem
  | cons m ms ih =>
    unfold fileNotice
    split
    · exact ⟨y, List.mem_cons_of_mem _ mem, ok⟩
    · rcases List.mem_cons.mp mem with rfl | mem
      · split
        next same => exact ⟨_, List.mem_cons_self, keeps _ ok same.symm⟩
        · exact ⟨_, List.mem_cons_self, ok⟩
      · split
        · exact ⟨y, List.mem_cons_of_mem _ mem, ok⟩
        · obtain ⟨z, hz, fit⟩ := ih mem
          exact ⟨z, List.mem_cons_of_mem _ hz, fit⟩

theorem TenantNotices.file_retains {fits : Report → Prop} {r : Report} (keeps : r.KeepsFitting fits) (n : TenantNotices) :
    n.Retains fits (n.file r) := by
  refine ⟨n.file_frozen r, n.file_mask r, fun h => ?_, fun h => ?_⟩ <;> unfold TenantNotices.file
  · split
    · exact fileNotice_retains keeps h
    · split <;> exact h
  · split
    · exact h
    · split
      · exact fileNotice_retains keeps h
      · exact h

/-- A filing leaves a report that fits in the set it goes to, where the report fits whatever it is merged into. -/
theorem fileNotice_fits {fits : Report → Prop} {r : Report} (fit : fits r)
    (merged : ∀ old : Report, old.kind = r.kind → fits (old.merge r)) (ns : List Notice) :
    ∃ x ∈ fileNotice ⟨r, 1⟩ ns, fits x.report := by
  rcases mem_fileNotice ⟨r, 1⟩ ns with h | ⟨y, _, same, h⟩
  · exact ⟨_, h, fit⟩
  · exact ⟨_, h, merged _ same⟩

/-! ## Being told -/

section
variable {fits : Report → Prop} {s : State} {p : Port}

theorem State.post_retains {r : Report} (keeps : r.KeepsFitting fits) (named : Port → Bool) (s : State) :
    (s.nu.get p).Retains fits ((s.post named r).nu.get p) := by
  rw [State.post_get]
  split
  · exact TenantNotices.file_retains keeps _
  · exact .refl _ _

theorem State.postAll_retains {r : Report} (keeps : r.KeepsFitting fits) (s : State) :
    (s.nu.get p).Retains fits ((s.postAll r).nu.get p) := State.post_retains keeps _ s

theorem State.postTo_retains {r : Report} (keeps : r.KeepsFitting fits) (t : Port) (s : State) :
    (s.nu.get p).Retains fits ((s.postTo t r).nu.get p) := State.post_retains keeps _ s

theorem State.watchLatches_retains (s : State) : (s.nu.get p).Retains fits (s.watchLatches.nu.get p) := by
  rw [State.watchLatches_get]; split
  · exact TenantNotices.retains_latches _ _ _
  · exact .refl _ _

/-- A filing between s and t tells the tenant, where what comes before leaves the frozen flag and the mask and what comes after
leaves the notice. -/
theorem State.toldThat_of_file {fits₀ : Report → Prop} {n : TenantNotices} {t : State} {kind : Nat} {r : Report}
    (before : (s.nu.get p).Retains fits₀ n) (after : (n.file r).Retains fits (t.nu.get p)) (ofKind : r.kind = kind)
    (fit : fits r) (merged : ∀ old : Report, old.kind = r.kind → fits (old.merge r)) : s.toldThat t p kind fits := by
  intro _
  subst ofKind
  refine ⟨fun frozen => after.pending ?_, fun thawed enabled => after.notices ?_⟩
  · rw [TenantNotices.file_of_frozen (before.frozen.trans frozen)]
    exact fileNotice_fits fit merged _
  · rw [TenantNotices.file_of_enabled (before.frozen.trans thawed) (by rw [before.mask, enabled])]
    exact fileNotice_fits fit merged _

/-- `toldThat_of_file` for one report, of a kind that is not merged by union. -/
theorem State.told_of_file {fits₀ : Report → Prop} {n : TenantNotices} {t : State} {r : Report}
    (plain : r.kind ∉ [4, 5, 15]) (before : (s.nu.get p).Retains fits₀ n)
    (after : (n.file r).Retains (fun x => x = r) (t.nu.get p)) : s.told t p r :=
  State.toldThat_of_file before after rfl rfl fun _ _ => Report.merge_of_kind plain

end

/-! ## The judgement of tolerance -/

/-- The latch-lows stand or fall, and the rest of a tenant's notice state stands. -/
def TenantNotices.LowsFall (n n' : TenantNotices) : Prop :=
  n' = { n with latches := n'.latches } ∧ n'.latches.LowsLe n.latches ∧
    n'.latches.refFault = n.latches.refFault ∧ n'.latches.stepped = n.latches.stepped

theorem TenantNotices.LowsFall.refl (n : TenantNotices) : n.LowsFall n := ⟨rfl, .refl _, rfl, rfl⟩

theorem TenantNotices.LowsFall.trans {a b c : TenantNotices} (h : a.LowsFall b) (h' : b.LowsFall c) : a.LowsFall c := by
  obtain ⟨eq, ⟨l1, l2, l3, l4⟩, ref, step⟩ := h
  obtain ⟨eq', ⟨l1', l2', l3', l4'⟩, ref', step'⟩ := h'
  exact ⟨by rw [eq', eq], ⟨l1 ∘ l1', l2 ∘ l2', l3 ∘ l3', l4 ∘ l4'⟩, ref'.trans ref, step'.trans step⟩

theorem TenantNotices.LowsFall.file {n n' : TenantNotices} (h : n.LowsFall n') (r : Report) :
    (n.file r).LowsFall (n'.file r) := by
  obtain ⟨eq, lows, ref, step⟩ := h
  refine ⟨?_, by rwa [TenantNotices.file_latches, TenantNotices.file_latches], by
    rw [TenantNotices.file_latches, TenantNotices.file_latches, ref], by
    rw [TenantNotices.file_latches, TenantNotices.file_latches, step]⟩
  rw [TenantNotices.file_latches, eq]
  unfold TenantNotices.file
  dsimp only
  split
  · rfl
  · split <;> rfl

theorem State.watchLatches_lowsFall (s : State) (p : Port) : (s.nu.get p).LowsFall (s.watchLatches.nu.get p) := by
  rw [State.watchLatches_get]; split
  · exact ⟨rfl, Latches.follow_lowsLe _ _, rfl, rfl⟩
  · exact .refl _

section
variable {s : State} {p q : Port}

theorem State.judgeTenant_attached (q p : Port) (s : State) : (s.judgeTenant q).attached p = s.attached p :=
  State.attached_congr (by rw [(s.judgeTenant_frame q).2.2.2.1]) p

theorem State.judgeTenant_e (q : Port) (s : State) : (s.judgeTenant q).sde.e = s.sde.e := by
  obtain ⟨_, h⟩ := State.judgeTenant_sde q s; rw [h]

theorem State.judgeTenant_toleranceOf (q p : Port) (s : State) : (s.judgeTenant q).toleranceOf p = s.toleranceOf p := by
  simp only [State.toleranceOf, State.judgeTenant_attached, State.judgeTenant_e, State.judgeTenant_frame]

/-- The judgement of tenant p finds its flag changed (R124). -/
abbrev State.flagChanges (s : State) (p : Port) : Prop := s.attached p = true ∧ s.toleranceOf p ≠ s.sde.tol.get p

theorem State.judgeTenant_of_changes (h : s.flagChanges p) :
    s.judgeTenant p =
      (s.setTol p (s.toleranceOf p)).watchLatches.postTo p (tolReport (s.toleranceOf p) s.sde.e) := by
  unfold State.judgeTenant
  exact if_neg (by rw [h.1, beq_eq_false_iff_ne.mpr h.2]; decide)

theorem State.judgeTenant_of_keeps (h : ¬s.flagChanges p) : s.judgeTenant p = s := by
  unfold State.judgeTenant
  refine if_pos ?_
  cases attached : s.attached p with
  | false => rfl
  | true => simpa [State.flagChanges, attached] using h

theorem State.judgeTenant_tol (q p : Port) (s : State) :
    (s.judgeTenant q).sde.tol.get p = if p = q ∧ s.attached p = true then s.toleranceOf p else s.sde.tol.get p := by
  by_cases changes : s.flagChanges q
  · rw [State.judgeTenant_of_changes changes, (State.postTo_frame _ _ _).2.2.1, (State.watchLatches_frame _).2.2.1,
      State.setTol_sde]
    by_cases same : p = q
    · subst same; rw [if_pos ⟨rfl, changes.1⟩]; exact Three.get_set_same _ _ _
    · rw [if_neg fun h => same h.1]; exact Three.get_set_ne _ _ same
  · rw [State.judgeTenant_of_keeps changes]
    split
    next h =>
      obtain ⟨rfl, attached⟩ := h
      exact (not_not.mp fun ne => changes ⟨attached, ne⟩).symm
    · rfl

/-- The notices of tenant p once it is judged: a change of its flag is filed. -/
def State.judgedNotices (s : State) (p : Port) : TenantNotices :=
  if s.flagChanges p then (s.nu.get p).file (tolReport (s.toleranceOf p) s.sde.e) else s.nu.get p

theorem State.judgeTenant_self (p : Port) (s : State) : (s.judgedNotices p).LowsFall ((s.judgeTenant p).nu.get p) := by
  unfold State.judgedNotices
  by_cases changes : s.flagChanges p
  · rw [if_pos changes, State.judgeTenant_of_changes changes, State.postTo_nu_get]
    have attached : (s.setTol p (s.toleranceOf p)).watchLatches.attached p = true := changes.1
    rw [attached, BEq.rfl, Bool.and_self, if_pos rfl]
    exact TenantNotices.LowsFall.file (State.watchLatches_lowsFall (s.setTol p (s.toleranceOf p)) p) _
  · rw [if_neg changes, State.judgeTenant_of_keeps changes]
    exact .refl _

theorem State.judgeTenant_other (ne : p ≠ q) (s : State) : (s.nu.get p).LowsFall ((s.judgeTenant q).nu.get p) := by
  by_cases changes : s.flagChanges q
  · rw [State.judgeTenant_of_changes changes, State.postTo_nu_get, beq_eq_false_iff_ne.mpr ne, Bool.and_false,
      if_neg (by decide)]
    exact State.watchLatches_lowsFall (s.setTol q (s.toleranceOf q)) p
  · rw [State.judgeTenant_of_keeps changes]
    exact .refl _

theorem State.judgeTenant_flagChanges (ne : p ≠ q) (s : State) : (s.judgeTenant q).flagChanges p ↔ s.flagChanges p := by
  simp only [State.flagChanges, State.judgeTenant_attached, State.judgeTenant_toleranceOf, State.judgeTenant_tol, ne,
    false_and, if_false]

theorem State.judgedNotices_judgeTenant (ne : p ≠ q) (s : State) :
    (s.judgedNotices p).LowsFall ((s.judgeTenant q).judgedNotices p) := by
  unfold State.judgedNotices
  rw [if_congr (State.judgeTenant_flagChanges ne s) rfl rfl, State.judgeTenant_toleranceOf, State.judgeTenant_e]
  split
  · exact (State.judgeTenant_other ne s).file _
  · exact State.judgeTenant_other ne s

/-- What the judgement of every tenant leaves of one of them. -/
theorem State.judgeAll_nu (p : Port) (s : State) : (s.judgedNotices p).LowsFall (s.judgeAll.nu.get p) := by
  unfold State.judgeAll
  match p with
  | 0 =>
    exact ((State.judgeTenant_self 0 s).trans (State.judgeTenant_other (by decide) _)).trans
      (State.judgeTenant_other (by decide) _)
  | 1 =>
    exact ((State.judgedNotices_judgeTenant (by decide) s).trans (State.judgeTenant_self 1 _)).trans
      (State.judgeTenant_other (by decide) _)
  | 2 =>
    exact ((State.judgedNotices_judgeTenant (by decide) s).trans (State.judgedNotices_judgeTenant (by decide) _)).trans
      (State.judgeTenant_self 2 _)

/-- Every attached tenant has its flag by the judgement; a detached one keeps its flag. -/
theorem State.judgeAll_tol (p : Port) (s : State) :
    s.judgeAll.sde.tol.get p = if s.attached p = true then s.toleranceOf p else s.sde.tol.get p := by
  simp only [State.judgeAll, State.judgeTenant_tol, State.judgeTenant_attached, State.judgeTenant_toleranceOf]
  match p with
  | 0 => simp
  | 1 => simp
  | 2 => simp

theorem TenantNotices.LowsFall.retains {n n' : TenantNotices} (h : n.LowsFall n') (fits : Report → Prop) :
    n.Retains fits n' := h.1 ▸ TenantNotices.retains_latches fits n _

theorem tolReport_kind (b : Bool) (e : Int) : (tolReport b e).kind = if b then 1 else 0 := by cases b <;> rfl

theorem State.judgedNotices_retains {fits : Report → Prop} (h : Ignores fits [0, 1]) (p : Port) (s : State) :
    (s.nu.get p).Retains fits (s.judgedNotices p) := by
  unfold State.judgedNotices
  split
  · exact TenantNotices.file_retains (h _ (by rw [tolReport_kind]; split <;> simp)) _
  · exact .refl _ _

theorem State.judgeAll_retains {fits : Report → Prop} (h : Ignores fits [0, 1]) (p : Port) (s : State) :
    (s.nu.get p).Retains fits (s.judgeAll.nu.get p) :=
  (State.judgedNotices_retains h p s).trans ((State.judgeAll_nu p s).retains fits)

theorem State.setE_retains {fits : Report → Prop} (h : Ignores fits [0, 1]) (e : Int) (s : State) :
    (s.nu.get p).Retains fits ((s.setE e).nu.get p) := State.judgeAll_retains h p { s with sde := { s.sde with e := min e eCap } }

theorem State.setE_tol (e : Int) (p : Port) (s : State) :
    (s.setE e).sde.tol.get p =
      if s.attached p = true then
        s.tsg.timeValid && decide (min e eCap ≤ (s.tru.tenants.get p).adv.limit)
      else s.sde.tol.get p := by
  unfold State.setE
  rw [State.judgeAll_tol]
  show (if s.attached p = true then s.attached p && _ && _ else _) = _
  split
  next attached => rw [attached, Bool.true_and]
  · rfl

theorem State.toleranceOf_of_attached (h : s.attached p = true) :
    s.toleranceOf p = (s.tsg.timeValid && decide (s.sde.e ≤ (s.tru.tenants.get p).adv.limit)) := by
  rw [State.toleranceOf, h, Bool.true_and]

/-- A judgement of every tenant between s and t judges the attached ones by what t holds, where no later change touches the flags, E and
the time-valid flag, and none the notices of tolerance. -/
theorem State.judgedFrom_of_judgeAll {fits₀ : Report → Prop} {a t : State} {had : Port → Bool}
    (tenants : a.tru.tenants = s.tru.tenants) (tenants' : t.tru.tenants = s.tru.tenants)
    (valid : t.tsg.timeValid = a.tsg.timeValid) (e : t.sde.e = a.sde.e) (tol : t.sde.tol = a.judgeAll.sde.tol)
    (found : ∀ p : Port, s.attached p = true → a.sde.tol.get p = had p)
    (before : ∀ p : Port, (s.nu.get p).Retains fits₀ (a.nu.get p))
    (after : ∀ (p : Port) (r : Report), r.kind ≤ 1 → (a.judgeAll.nu.get p).Retains (fun x => x = r) (t.nu.get p)) :
    s.judgedFrom t had := by
  intro p attached
  have attachedA : a.attached p = true := by rwa [State.attached_congr (tenants.trans tenants'.symm)]
  have attachedS : s.attached p = true := by rwa [State.attached_congr tenants'.symm]
  have flag : a.toleranceOf p = (t.tsg.timeValid && decide (t.sde.e ≤ (s.tru.tenants.get p).adv.limit)) := by
    rw [State.toleranceOf_of_attached attachedA, valid, e, tenants]
  dsimp only
  rw [← flag, tol, State.judgeAll_tol, if_pos attachedA]
  refine ⟨rfl, fun changed => ?_⟩
  have changes : a.flagChanges p := ⟨attachedA, by rwa [found p attachedS]⟩
  have filed : a.judgedNotices p = (a.nu.get p).file (tolReport (a.toleranceOf p) t.sde.e) := by
    rw [State.judgedNotices, if_pos changes, e]
  show s.told t p (tolReport (a.toleranceOf p) t.sde.e)
  have kind := tolReport_kind (a.toleranceOf p) t.sde.e
  have low : (tolReport (a.toleranceOf p) t.sde.e).kind ≤ 1 := by rw [kind]; split <;> decide
  refine State.told_of_file (fun h => ?_) (before p)
    ((filed ▸ (State.judgeAll_nu p a).retains _).trans (after p _ low))
  simp only [List.mem_cons, List.not_mem_nil, or_false] at h
  omega

end

/-! ## Changes written out -/

/-- Two states with the same fields are one. -/
theorem State.eq_of_fields {s t : State} (tsg : s.tsg = t.tsg) (rmu : s.rmu = t.rmu) (sde : s.sde = t.sde)
    (ols : s.ols = t.ols) (tru : s.tru = t.tru) (nu : s.nu = t.nu) (pou : s.pou = t.pou) (spm : s.spm = t.spm)
    (tpi : s.tpi = t.tpi) (pins : s.pins = t.pins) (free : s.freeIndex = t.freeIndex) (pending : s.pending = t.pending) :
    s = t := by
  cases s; cases t
  simp only [State.mk.injEq]
  exact ⟨tsg, rmu, sde, ols, tru, nu, pou, spm, tpi, pins, free, pending⟩

theorem State.judgeAll_shape (s : State) :
    s.judgeAll = { s with sde := { s.sde with tol := s.judgeAll.sde.tol }, nu := s.judgeAll.nu } := by
  obtain ⟨tol, sde⟩ := s.judgeAll_sde
  obtain ⟨h1, h2, h3, h4, h5, h6, h7, h8, h9, h10⟩ := s.judgeAll_frame
  exact State.eq_of_fields h1 h2 (by rw [sde]) h3 h4 rfl h5 h6 h7 h8 h9 h10

theorem State.setE_shape (e : Int) (s : State) :
    s.setE e = { s with sde := { s.sde with e := min e eCap, tol := (s.setE e).sde.tol }, nu := (s.setE e).nu } :=
  State.judgeAll_shape _

section
variable {s : State} {p q : Port}

theorem State.judgeTenant_detached (out : s.attached p = false) (q : Port) :
    (s.judgeTenant q).nu.get p = s.nu.get p := by
  by_cases changes : s.flagChanges q
  · rw [State.judgeTenant_of_changes changes, State.postTo_nu_get, State.watchLatches_get]
    have out' : (s.setTol q (s.toleranceOf q)).attached p = false := out
    have out'' : (s.setTol q (s.toleranceOf q)).watchLatches.attached p = false := out
    rw [out', out'']
    rfl
  · rw [State.judgeTenant_of_keeps changes]

theorem State.judgeAll_detached (out : s.attached p = false) : s.judgeAll.nu.get p = s.nu.get p := by
  have out1 : (s.judgeTenant 0).attached p = false := (State.judgeTenant_attached 0 p s).trans out
  have out2 : ((s.judgeTenant 0).judgeTenant 1).attached p = false := (State.judgeTenant_attached 1 p _).trans out1
  rw [State.judgeAll, State.judgeTenant_detached out2, State.judgeTenant_detached out1, State.judgeTenant_detached out]

/-- A flag that goes out takes the latch with it. -/
theorem State.judgeTenant_latch (changes : s.flagChanges p) (lost : s.toleranceOf p = false) :
    ((s.judgeTenant p).nu.get p).latches.inTolerance = false := by
  rw [State.judgeTenant_of_changes changes, State.postTo_nu_get, lost]
  have attached : (s.setTol p false).attached p = true := changes.1
  have attached' : (s.setTol p false).watchLatches.attached p = true := changes.1
  rw [attached', BEq.rfl, Bool.and_self, if_pos rfl, TenantNotices.file_latches, State.watchLatches_get, attached, if_pos rfl]
  show (_ && (s.setTol p false).sde.tol.get p) = false
  rw [State.setTol_sde, Three.get_set_same, Bool.and_false]

theorem State.judgeTenant_latch_other (ne : p ≠ q) (h : ((s.nu.get p).latches.inTolerance) = false) :
    ((s.judgeTenant q).nu.get p).latches.inTolerance = false :=
  Bool.eq_false_iff.mpr fun raised =>
    absurd ((State.judgeTenant_other ne s).2.1.2.1 raised) (by rw [h]; decide)

theorem State.judgeAll_latch (changes : s.flagChanges p) (lost : s.toleranceOf p = false) :
    (s.judgeAll.nu.get p).latches.inTolerance = false := by
  unfold State.judgeAll
  match p with
  | 0 =>
    exact State.judgeTenant_latch_other (by decide)
      (State.judgeTenant_latch_other (by decide) (State.judgeTenant_latch changes lost))
  | 1 =>
    refine State.judgeTenant_latch_other (by decide) (State.judgeTenant_latch ?_ ?_)
    · exact (State.judgeTenant_flagChanges (by decide) s).mpr changes
    · rw [State.judgeTenant_toleranceOf, lost]
  | 2 =>
    refine State.judgeTenant_latch ?_ ?_
    · exact (State.judgeTenant_flagChanges (by decide) _).mpr ((State.judgeTenant_flagChanges (by decide) s).mpr changes)
    · rw [State.judgeTenant_toleranceOf, State.judgeTenant_toleranceOf, lost]

theorem State.judgedNotices_latches (p : Port) (s : State) : (s.judgedNotices p).latches = (s.nu.get p).latches := by
  unfold State.judgedNotices; split
  · exact TenantNotices.file_latches _ _
  · rfl

end

/-- Settles O60: one tenant at a time, the flag by the judgement and the notices by the filing of its change. -/
theorem toleranceIsJudged : Obligations.ToleranceIsJudged := by
  intro s
  dsimp only
  refine ⟨s.judgeAll_shape, fun same => ?_, fun p => ⟨fun out => ⟨?_, State.judgeAll_detached out⟩, fun attached => ?_⟩⟩
  · have keeps : ∀ p : Port, ¬s.flagChanges p := fun p h =>
      h.2 ((State.toleranceOf_of_attached h.1).trans (same p h.1).symm)
    rw [State.judgeAll, State.judgeTenant_of_keeps (keeps 0), State.judgeTenant_of_keeps (keeps 1),
      State.judgeTenant_of_keeps (keeps 2)]
  · rw [State.judgeAll_tol, if_neg (Bool.eq_false_iff.mp out)]
  · rw [← State.toleranceOf_of_attached attached]
    obtain ⟨notices, ⟨l1, l2, l3, l4⟩, ref, stepped⟩ := State.judgeAll_nu p s
    rw [State.judgedNotices_latches] at l1 l2 l3 l4 ref stepped
    refine ⟨by rw [State.judgeAll_tol, if_pos attached], fun changed lost => State.judgeAll_latch ⟨attached, changed⟩ lost,
      ⟨l1, l2, l3, l4, ref, stepped⟩, notices.trans ?_⟩
    by_cases same : s.toleranceOf p = s.sde.tol.get p
    · rw [State.judgedNotices, if_neg fun h => h.2 same, if_pos same]
    · rw [State.judgedNotices, if_pos ⟨attached, same⟩, if_neg same]; rfl

end Sys2Proof.Machine
end

section
/-!
PROOFS. Assistance, seconds sets, the arbiter, expiries and the store's report (O23, O37, O56, O58, O59).
-/

namespace Sys2Proof.Machine

/-! ## Assistance -/

theorem State.setAssisted_nu (b : Bool) (p : Port) (s : State) :
    (s.setAssisted b).nu.get p =
      if s.attached p = true then (s.nu.get p).file (.clockState s.sde.clock b s.tsg.timeValid) else s.nu.get p :=
  State.postAll_nu_get _ _ _

/-- Where assistance holds: the LF epoch is GOOD and the conditions stand (R115). -/
theorem State.assistance_of_good {s : State} {lf : SlotItem} {f : Int} {l : Option Seconds} (good : lf.outcome = .good f l) :
    s.assistance lf =
      if s.sde.lfCount = 600 ∧ lf.priority ≠ 0 ∧ lf.state ≠ .off ∧ s.spm.power = .run ∧ s.spm.oven = .settled then some f
      else none := by
  rw [State.assistance, good]

theorem State.assistance_of_not_good {s : State} {lf : SlotItem} (h : ∀ f l, lf.outcome ≠ .good f l) :
    s.assistance lf = none := by
  rw [State.assistance]
  split
  next f l good => exact absurd good (h f l)
  all_goals rfl

theorem State.judgeAssistance_of_some {s : State} {lf : SlotItem} {f : Int} (h : s.assistance lf = some f) :
    s.judgeAssistance lf =
      if s.sde.assisted then s.orderFApp (s.tsg.fApp - roundDiv (f - s.sde.bias) 4)
      else (s.orderFApp (s.tsg.fApp - roundDiv (f - s.sde.bias) 4)).setAssisted true := by
  rw [State.judgeAssistance, h]

theorem State.judgeAssistance_of_none {s : State} {lf : SlotItem} (h : s.assistance lf = none) :
    s.judgeAssistance lf = if s.sde.assisted then s.endAssistance else s := by
  rw [State.judgeAssistance, h]

/-- Settles O58: by whether assistance holds and whether the flag stands. -/
theorem assistanceSteers : Obligations.AssistanceSteers := by
  intro s lf
  dsimp only
  refine ⟨fun f l good able => ?_, fun h => ?_⟩
  · have holds : s.assistance lf = some f := by rw [State.assistance_of_good good, if_pos able]
    rw [State.judgeAssistance_of_some holds]
    cases assisted : s.sde.assisted with
    | true =>
      refine ⟨?_, fun _ => rfl, (by cases ·)⟩
      rw [if_pos rfl, ← assisted]; rfl
    | false => exact ⟨rfl, (by cases ·), fun _ p => State.setAssisted_nu _ _ _⟩
  · have ends : s.assistance lf = none := by
      by_cases good : ∃ f l, lf.outcome = .good f l
      · obtain ⟨f, l, good⟩ := good
        rw [State.assistance_of_good good]
        exact if_neg (h.resolve_right fun h => h f l good)
      · exact State.assistance_of_not_good fun f l e => good ⟨f, l, e⟩
    rw [State.judgeAssistance_of_none ends]
    exact ⟨fun off => by rw [off]; rfl, fun on => by
      rw [on]; exact ⟨rfl, fun p => State.setAssisted_nu _ _ _⟩⟩

/-! ## Labels and seconds sets -/

theorem State.labelRule_of_invalid {s : State} (h : s.tsg.timeValid = false) (k l : Seconds) :
    s.labelRule k (some l) = (s, if l = k then none else some l) := by
  simp [State.labelRule, h]

theorem State.labelRule_of_same {s : State} (h : s.tsg.timeValid = true) (k : Seconds) :
    s.labelRule k (some k) = ({ s with sde := { s.sde with labelMismatch := 0 } }, none) := by
  simp [State.labelRule, h]

theorem State.labelRule_of_few {s : State} (h : s.tsg.timeValid = true) {k l : Seconds} (ne : l ≠ k)
    (few : s.sde.labelMismatch < 2) :
    s.labelRule k (some l) = ({ s with sde := { s.sde with labelMismatch := s.sde.labelMismatch + 1 } }, none) := by
  simp only [State.labelRule, h, Bool.not_true, Bool.false_eq_true, if_false, if_neg ne,
    if_neg (show ¬3 ≤ s.sde.labelMismatch + 1 by omega)]

theorem State.labelRule_of_third {s : State} (h : s.tsg.timeValid = true) {k l : Seconds} (ne : l ≠ k)
    (third : 2 ≤ s.sde.labelMismatch) :
    s.labelRule k (some l) = ({ s with sde := { s.sde with labelMismatch := 0 } }, some l) := by
  simp only [State.labelRule, h, Bool.not_true, Bool.false_eq_true, if_false, if_neg ne,
    if_pos (show 3 ≤ s.sde.labelMismatch + 1 by omega)]

/-- Settles O59: the label's rule by its branches, and the set by the fields that it writes. -/
theorem secondsSetFollowsLabels : Obligations.SecondsSetFollowsLabels := by
  intro s k l
  dsimp only
  refine ⟨rfl, fun h => State.labelRule_of_invalid h k l,
    fun h => ⟨fun e => e ▸ State.labelRule_of_same h l, fun ne => State.labelRule_of_few h ne,
      fun ne => State.labelRule_of_third h ne⟩, rfl, rfl, rfl, rfl, rfl, rfl, fun n => Six.get_mapIdx _ _ _, rfl, fun p => ?_⟩
  have attached : (s.applySet (l + (s.tsg.seconds - k))).attached p = s.attached p := rfl
  have nu : (s.applySet (l + (s.tsg.seconds - k))).nu = s.nu := rfl
  have posted : (State.postAll (.secondsSet (l + (s.tsg.seconds - k))) (s.applySet (l + (s.tsg.seconds - k)))).attached p =
    s.attached p := rfl
  rw [State.setFromLabel, State.latchStepped_get, posted, State.postAll_nu_get, attached, nu]
  cases s.attached p <;> rfl

/-! ## The arbiter -/

/-- Slot n stands before slot m: a lower priority number, or the lower slot among equals (R49). -/
def Precedes (items : Six SlotItem) (n m : SlotId) : Prop :=
  (items.get n).priority < (items.get m).priority ∨ (items.get n).priority = (items.get m).priority ∧ n ≤ m

theorem Precedes.refl (items : Six SlotItem) (n : SlotId) : Precedes items n n := .inr ⟨rfl, Nat.le_refl _⟩

theorem Precedes.trans {items : Six SlotItem} {a b c : SlotId} (h : Precedes items a b) (h' : Precedes items b c) :
    Precedes items a c := by
  rcases h with h | ⟨h, le⟩ <;> rcases h' with h' | ⟨h', le'⟩
  · exact .inl (h.trans h')
  · exact .inl (h' ▸ h)
  · exact .inl (h ▸ h')
  · exact .inr ⟨h.trans h', le.trans le'⟩

/-- The better of a slot and a later one precedes both. -/
theorem betterOf_precedes (items : Six SlotItem) {b x : SlotId} (later : b < x) :
    ∃ y, betterOf items (some b) x = some y ∧ Precedes items y b ∧ Precedes items y x ∧ (y = b ∨ y = x) := by
  unfold betterOf
  dsimp only
  split
  next lower => exact ⟨x, rfl, .inl lower, .refl _ _, .inr rfl⟩
  next h => exact ⟨b, rfl, .refl _ _, (Nat.lt_or_eq_of_le (Nat.not_lt.mp h)).imp_right fun e => ⟨e, later.le⟩, .inl rfl⟩

/-- Through slots in order, the best so far comes to precede every one. -/
theorem foldl_betterOf_precedes (items : Six SlotItem) (l : List SlotId) (b : SlotId)
    (order : (b :: l).Pairwise (· < ·)) :
    ∃ n, l.foldl (betterOf items) (some b) = some n ∧ ∀ m ∈ b :: l, Precedes items n m := by
  induction l generalizing b with
  | nil => exact ⟨b, rfl, fun m h => by rw [List.mem_singleton.mp h]; exact .refl _ _⟩
  | cons x xs ih =>
    obtain ⟨first, rest⟩ := List.pairwise_cons.mp order
    obtain ⟨y, better, yb, yx, same⟩ := betterOf_precedes items (first x List.mem_cons_self)
    have order' : (y :: xs).Pairwise (· < ·) := by
      rcases same with rfl | rfl
      · exact List.pairwise_cons.mpr ⟨fun z h => first z (List.mem_cons_of_mem _ h), (List.pairwise_cons.mp rest).2⟩
      · exact rest
    obtain ⟨n, found, all⟩ := ih y order'
    refine ⟨n, by rw [List.foldl_cons, better, found], fun m h => ?_⟩
    have ny := all y List.mem_cons_self
    rcases List.mem_cons.mp h with rfl | h
    · exact ny.trans yb
    · rcases List.mem_cons.mp h with rfl | h
      · exact ny.trans yx
      · exact all m (List.mem_cons_of_mem _ h)

/-- The best slot of a test: there is none where no phase-capable slot meets it, and else it precedes every one that does. -/
theorem bestSlot_spec (items : Six SlotItem) (test : SlotId → Bool) :
    (bestSlot items test = none ∧ ∀ n ∈ phaseSlots, test n = false) ∨
      ∃ n, bestSlot items test = some n ∧ n ∈ phaseSlots ∧ test n = true ∧
        ∀ m ∈ phaseSlots, test m = true → Precedes items n m := by
  have order : (phaseSlots.filter test).Pairwise (· < ·) := List.Pairwise.filter _ (by decide)
  cases slots : phaseSlots.filter test with
  | nil =>
    refine .inl ⟨by rw [bestSlot, slots]; rfl, fun n h => ?_⟩
    have := List.filter_eq_nil_iff.mp slots n h
    exact Bool.eq_false_iff.mpr this
  | cons b l =>
    obtain ⟨n, found, all⟩ := foldl_betterOf_precedes items l b (slots ▸ order)
    have best : bestSlot items test = some n := by rw [bestSlot, slots]; exact found
    have mem := List.mem_filter.mp ((foldl_betterOf_mem items (phaseSlots.filter test) none best).resolve_left (by simp))
    exact .inr ⟨n, best, mem.1, mem.2, fun m h ok => all m (slots ▸ List.mem_filter.mpr ⟨h, ok⟩)⟩

theorem mem_phaseSlots_iff (n : SlotId) : n ∈ phaseSlots ↔ n ≠ 2 := by
  match n with
  | 0 | 1 | 2 | 3 | 4 | 5 => decide

/-- A candidate is one of the phase slots. -/
theorem isCandidate_iff_able (items : Six SlotItem) (n : SlotId) :
    isCandidate items n = true ↔ n ≠ 2 ∧ (items.get n).state = .usable ∧ (items.get n).priority ≠ 0 := by
  rw [isCandidate_iff]
  exact and_congr_left' bne_iff_ne

theorem restores_iff (items : Six SlotItem) (c : SiteConfig) (m n : SlotId) :
    restores items c m n = true ↔
      isCandidate items n = true ∧ c.waitToRestore ≤ (items.get n).usableRun ∧
        ((items.get m).priority = 0 ∨ (items.get n).priority < (items.get m).priority) := by
  simp [restores, and_assoc]

/-- The best slot of a test that only phase slots meet. -/
theorem bestSlot_of_phase {items : Six SlotItem} {test : SlotId → Bool} (phase : ∀ n, test n = true → n ≠ 2) :
    (bestSlot items test = none → ∀ n, ¬test n = true) ∧
      (∀ n, bestSlot items test = some n → test n = true ∧ ∀ m, test m = true → Precedes items n m) := by
  have slot : ∀ m, test m = true → m ∈ phaseSlots := fun m h => (mem_phaseSlots_iff m).mpr (phase m h)
  rcases bestSlot_spec items test with ⟨none, all⟩ | ⟨n, found, -, ok, all⟩
  · exact ⟨fun _ m h => Bool.eq_false_iff.mp (all m (slot m h)) h, fun n h => absurd (none.symm.trans h) (by simp)⟩
  · exact ⟨fun h => absurd (found.symm.trans h) (by simp), fun m h =>
      Option.some.inj (found.symm.trans h) ▸ ⟨ok, fun m h => all m (slot m h) h⟩⟩

/-- Settles O56: the fold over the phase slots finds the one that precedes every other, of the candidates or of the restoring ones. -/
theorem selectionIsArbitrated : Obligations.SelectionIsArbitrated := by
  intro items c now
  dsimp only
  have able := isCandidate_iff_able items
  obtain ⟨no, best⟩ := bestSlot_of_phase (items := items) fun n h => ((able n).mp h).1
  refine ⟨fun unselected => ?_, fun m selected holds => ?_⟩
  · have pick : chooseSlot items c now = bestSlot items (isCandidate items) := by
      rcases unselected with rfl | ⟨m, rfl, lost⟩
      · rfl
      · exact if_neg lost
    simp only [pick, ← able]
    exact ⟨no, best⟩
  · subst selected
    have pick : chooseSlot items c (some m) =
        if c.revertive then (bestSlot items (restores items c m)).or (some m) else some m := if_pos holds
    have phase : ∀ n, restores items c m n = true → n ≠ 2 := fun n h => ((able n).mp ((restores_iff _ _ _ _).mp h).1).1
    obtain ⟨no, best⟩ := bestSlot_of_phase (items := items) phase
    simp only [← able, ← restores_iff, pick]
    refine ⟨fun stays => if_neg (Bool.eq_false_iff.mp stays), fun revertive => ?_⟩
    rw [if_pos revertive]
    cases found : bestSlot items (restores items c m) with
    | none => exact ⟨fun _ => rfl, fun ⟨n, h⟩ => absurd h (no found n)⟩
    | some n => exact ⟨fun none => absurd (best n found).1 (none n), fun _ => ⟨n, rfl, best n found⟩⟩

end Sys2Proof.Machine
end

section
/-!
PROOFS. What a raised boundary leaves of each block (O19, O20, O22, O36, O55).
-/

namespace Sys2Proof.Machine

/-! ## The blocks after a raised boundary -/

section
variable {fits : Report → Prop} {p : Port}

theorem State.evaluateOut_retains (h : Ignores fits [15]) (o : OutId) (past : Nat) (s : State) :
    (s.nu.get p).Retains fits ((s.evaluateOut o past).nu.get p) := by
  unfold State.evaluateOut
  dsimp only
  split
  · unfold State.postSquelch
    split
    · exact State.postTo_retains (h _ (by simp [squelchReport, Report.kind])) _ (s.setOut o (s.outputAtInstant o past))
    · exact State.postAll_retains (h _ (by simp [squelchReport, Report.kind])) (s.setOut o (s.outputAtInstant o past))
  · exact .refl _ _

theorem State.crossOutput_retains (h : Ignores fits [15]) (o : OutId) (s : State) :
    (s.nu.get p).Retains fits ((s.crossOutput o).nu.get p) := by
  unfold State.crossOutput; split
  · exact State.evaluateOut_retains h o _ s
  · exact .refl _ _

theorem State.crossSecond_retains (h : Ignores fits [15]) (s : State) :
    (s.nu.get p).Retains fits (s.crossSecond.nu.get p) := by
  have start : (s.nu.get p).Retains fits (s.passSecond.nu.get p) := by
    rw [s.passSecond_frame.2.2.2.2.1]; exact .refl _ _
  exact (((start.trans (State.crossOutput_retains h 0 _)).trans (State.crossOutput_retains h 1 _)).trans
    (State.crossOutput_retains h 2 _)).trans (State.crossOutput_retains h 3 _)

theorem State.failedSample_retains (h : Ignores fits [13]) (s : State) :
    (s.nu.get p).Retains fits (s.failedSample.nu.get p) := by
  unfold State.failedSample
  dsimp only
  split
  · exact State.postAll_retains (h _ (by simp [Report.kind]))
      { s with ols := { s.ols with failures := satAdd 10 s.ols.failures 1, sensorFault := true } }
  · exact .refl _ _

theorem State.startRead_retains (h : Ignores fits [13]) (s : State) :
    (s.nu.get p).Retains fits (s.startRead.nu.get p) := by
  unfold State.startRead
  dsimp only
  split
  · exact State.failedSample_retains h s
  · exact .refl _ _

end

/-- What a raised boundary begins with, once site time has crossed the end of the second and the RMU has done its part. -/
structure State.AtBoundary (line : LineClock) (s a : State) : Prop where
  tsg : a.tsg = s.passSecond.tsg
  rmu : a.rmu = (s.rmuBoundary s.tsg.seconds line).rmu
  sde : a.sde = s.sde
  ols : a.ols = s.ols
  tru : a.tru = s.tru
  spm : a.spm = s.spm
  nu : a.nu = s.crossSecond.nu
  pou : a.pou = s.crossSecond.pou
  tpi : a.tpi = s.tpi
  pins : a.pins = s.pins
  freeIndex : a.freeIndex = s.freeIndex
  pending : a.pending = s.pending

/-- The work of the other blocks at a raised boundary, to the marks. -/
def State.afterBoundary (a : State) : State :=
  (((((a.sdeBoundary.dayBoundary).startRead).ageJoint).adoptOutputs).spmBoundary).markPassed

theorem exec_raised {s : State} (h : s.raises) (line : LineClock) :
    ∃ a, s.AtBoundary line a ∧ exec (.epochBoundary line) s = .next a.afterBoundary := by
  refine ⟨s.crossSecond.rmuBoundary (s.crossSecond.tsg.seconds - 1) line, ?_, exec_epochBoundary_of_raises h line⟩
  obtain ⟨h1, h2, h3, h4, h5, h6, h7, h8, h9, h10, h11⟩ :=
    State.rmuBoundary_frame (s.crossSecond.tsg.seconds - 1) line s.crossSecond
  obtain ⟨r, g2, g3, g4, g5, g6, g7, g8, g9⟩ := s.crossSecond_frame
  have seconds : s.crossSecond.tsg.seconds - 1 = s.tsg.seconds := by
    rw [State.crossSecond_tsg, State.passSecond_seconds, seconds_add_sub]
  exact ⟨h1.trans s.crossSecond_tsg, by simp only [State.rmuBoundary, seconds, r, g5], h2.trans g2, h3.trans g3, h4.trans g4,
    h7.trans g5, h5, h6, h8.trans g6, h9.trans g7, h10.trans g8, h11.trans g9⟩

section
variable {line : LineClock} {s a : State}

theorem State.AtBoundary.seconds (h : s.AtBoundary line a) : a.tsg.seconds = s.tsg.seconds + 1 := by
  rw [h.tsg, State.passSecond_seconds]

theorem State.AtBoundary.fApp (h : s.AtBoundary line a) : a.tsg.fApp = s.tsg.fApp := by rw [h.tsg, State.passSecond_fApp]

theorem State.AtBoundary.timeValid (h : s.AtBoundary line a) : a.tsg.timeValid = s.tsg.timeValid := by
  rw [h.tsg, State.passSecond_timeValid]

theorem State.AtBoundary.retains {fits : Report → Prop} {p : Port} (h : s.AtBoundary line a) (quiet : Ignores fits [15]) :
    (s.nu.get p).Retains fits (a.nu.get p) := h.nu ▸ State.crossSecond_retains quiet s

theorem State.AtBoundary.attached (h : s.AtBoundary line a) (p : Port) : a.attached p = s.attached p :=
  State.attached_congr (congrArg _ h.tru) p

end

theorem State.afterBoundary_tsg (a : State) : a.afterBoundary.tsg = a.sdeBoundary.tsg := by simp [State.afterBoundary]

theorem State.afterBoundary_rmu (a : State) : a.afterBoundary.rmu = a.rmu := by simp [State.afterBoundary]

theorem State.afterBoundary_sde (a : State) : a.afterBoundary.sde = a.sdeBoundary.sde := by simp [State.afterBoundary]

theorem State.afterBoundary_ols (a : State) : a.afterBoundary.ols = a.sdeBoundary.dayBoundary.startRead.ols := by
  simp [State.afterBoundary]

theorem State.afterBoundary_nu (a : State) : a.afterBoundary.nu = a.sdeBoundary.dayBoundary.startRead.nu := by
  simp [State.afterBoundary]

theorem State.afterBoundary_tru (a : State) :
    a.afterBoundary.tru = { a.tru with joint := a.tru.joint.map fun r => { r with age := min 30 (r.age + 1) } } := by
  simp [State.afterBoundary, satAdd]

theorem State.afterBoundary_spm (a : State) : a.afterBoundary.spm = a.spm.boundary := by simp [State.afterBoundary]

theorem State.afterBoundary_attached (p : Port) (a : State) : a.afterBoundary.attached p = a.attached p :=
  State.attached_congr (by rw [State.afterBoundary_tru]) p

/-! ## The SDE at a raised boundary -/

section
variable {a : State}

theorem State.sdeBoundary_of_still (h : a.sde.clock ≠ .holdover) (h' : a.sde.clock ≠ .bridge) : a.sdeBoundary = a := by
  simp only [State.sdeBoundary, State.formHours, State.predictionStep, State.growE, State.countBridge, h, h', false_and,
    or_self, if_false]

/-- The state on which E grows in HOLDOVER: the hours formed and F_app moved. -/
def State.predictedHoldover (a : State) : State := a.formHours.predictionStep

theorem State.formHours_of_holdover (h : a.sde.clock = .holdover) :
    a.formHours = { a with sde := { a.sde with hours := hoursSince a.sde.anchorSeconds a.tsg.seconds } } := if_pos h

theorem State.predictedHoldover_sde (h : a.sde.clock = .holdover) :
    a.predictedHoldover.sde = { a.sde with hours := hoursSince a.sde.anchorSeconds a.tsg.seconds } := by
  rw [State.predictedHoldover, (State.predictionStep_frame _).2.1, State.formHours_of_holdover h]

theorem State.setE_clock (e : Int) (s : State) : (s.setE e).sde.clock = s.sde.clock := by
  rw [State.setE_shape]

theorem State.sdeBoundary_of_holdover (h : a.sde.clock = .holdover) :
    a.sdeBoundary = a.predictedHoldover.setE (a.sde.e + a.predictedHoldover.growth) := by
  have sde := State.predictedHoldover_sde h
  have clock : a.predictedHoldover.sde.clock = .holdover := by rw [sde]; exact h
  have grown : a.predictedHoldover.growE = a.predictedHoldover.setE (a.sde.e + a.predictedHoldover.growth) := by
    rw [State.growE, if_pos (.inr clock), sde]
  have still : (a.predictedHoldover.setE (a.sde.e + a.predictedHoldover.growth)).sde.clock ≠ .bridge := by
    rw [State.setE_clock, clock]; decide
  show a.predictedHoldover.growE.countBridge = _
  rw [grown, State.countBridge, if_neg still]

theorem State.sdeBoundary_of_bridge (h : a.sde.clock = .bridge) :
    a.sdeBoundary =
      { a.setE (a.sde.e + a.growth) with
        sde := { (a.setE (a.sde.e + a.growth)).sde with bridgeRemaining := a.sde.bridgeRemaining - 1 } } := by
  have away : a.sde.clock ≠ .holdover := by rw [h]; decide
  have clock : (a.setE (a.sde.e + a.growth)).sde.clock = .bridge := (State.setE_clock _ a).trans h
  have remaining : (a.setE (a.sde.e + a.growth)).sde.bridgeRemaining = a.sde.bridgeRemaining := by rw [State.setE_shape]
  have still : a.formHours.predictionStep = a := by
    rw [State.formHours, if_neg away, State.predictionStep, if_neg fun x => away x.1]
  rw [State.sdeBoundary, still, State.growE, if_pos (.inl h), State.countBridge, if_pos clock, remaining]

/-- The SDE's boundary changes of the SDE at most the hours, bridge remaining, E and the flags. -/
theorem State.sdeBoundary_sde :
    a.sdeBoundary.sde =
      { a.sde with
        hours := a.sdeBoundary.sde.hours, bridgeRemaining := a.sdeBoundary.sde.bridgeRemaining
        e := a.sdeBoundary.sde.e, tol := a.sdeBoundary.sde.tol } := by
  by_cases holdover : a.sde.clock = .holdover
  · rw [State.sdeBoundary_of_holdover holdover, State.setE_shape]
    simp only [State.predictedHoldover_sde holdover]
  · by_cases bridge : a.sde.clock = .bridge
    · rw [State.sdeBoundary_of_bridge bridge, State.setE_shape]
    · rw [State.sdeBoundary_of_still holdover bridge]

theorem State.sdeBoundary_retains {fits : Report → Prop} {p : Port} (h : Ignores fits [0, 1]) :
    (a.nu.get p).Retains fits (a.sdeBoundary.nu.get p) := by
  by_cases holdover : a.sde.clock = .holdover
  · rw [State.sdeBoundary_of_holdover holdover]
    have start : a.predictedHoldover.nu = a.nu := by simp [State.predictedHoldover]
    exact start ▸ State.setE_retains h _ a.predictedHoldover
  · by_cases bridge : a.sde.clock = .bridge
    · rw [State.sdeBoundary_of_bridge bridge]
      exact State.setE_retains h _ a
    · rw [State.sdeBoundary_of_still holdover bridge]
      exact .refl _ _

end

theorem State.dayAndRead_retains {fits : Report → Prop} {p : Port} (h : Ignores fits [13]) (a : State) :
    (a.nu.get p).Retains fits (a.dayBoundary.startRead.nu.get p) := by
  have days : a.dayBoundary.nu = a.nu := (State.dayBoundary_frame a).2.2.2.2.1
  have read := State.startRead_retains (p := p) h a.dayBoundary
  rwa [days] at read

/-! ## The OLS at a raised boundary -/

theorem State.requestWrite_ols (s : State) :
    s.requestWrite.ols =
      if s.ols.writing = none then { s.ols with writing := some ⟨s.retainedContent, .invalidate⟩ }
      else { s.ols with rewritePending := true } := by
  unfold State.requestWrite
  cases s.ols.writing <;> rfl

/-- A request for a write asks for the content that stands (R98, R100). -/
theorem State.requestWrite_requested (s : State) :
    (s.ols.writing = none →
      s.requestWrite.ols.writing = some ⟨s.retainedContent, .invalidate⟩ ∧
        s.requestWrite.ols.rewritePending = s.ols.rewritePending) ∧
    (s.ols.writing ≠ none →
      s.requestWrite.ols.writing = s.ols.writing ∧ s.requestWrite.ols.rewritePending = true) := by
  rw [State.requestWrite_ols]
  exact ⟨fun idle => by rw [if_pos idle]; exact ⟨rfl, rfl⟩, fun busy => by rw [if_neg busy]; exact ⟨rfl, rfl⟩⟩

/-- A failed sample raises the failure count, and the tenth sets the fault flag (R89). -/
theorem State.failedSample_ols (s : State) :
    s.failedSample.ols =
      { s.ols with
        failures := min 10 (s.ols.failures + 1)
        sensorFault := s.ols.sensorFault || decide (min 10 (s.ols.failures + 1) = 10) } := by
  unfold State.failedSample satAdd
  dsimp only
  split
  next h => simp [h]
  next h =>
    cases fault : s.ols.sensorFault with
    | true => simp
    | false => simp [fault] at h ⊢; omega

theorem State.failedSample_nu (p : Port) (s : State) :
    s.failedSample.nu.get p =
      if s.attached p = true ∧ s.ols.sensorFault = false ∧ min 10 (s.ols.failures + 1) = 10 then
        (s.nu.get p).file (.sensorFault true)
      else s.nu.get p := by
  unfold State.failedSample satAdd
  dsimp only
  by_cases tenth : min 10 (s.ols.failures + 1) = 10 ∧ s.ols.sensorFault = false
  · rw [if_pos tenth, State.postAll_nu_get]
    show (if s.attached p = true then _ else _) = _
    simp [tenth]
  · rw [if_neg tenth, if_neg fun h => tenth ⟨h.2.2, h.2.1⟩]

theorem State.startRead_ols (s : State) :
    s.startRead.ols =
      { (if s.ols.reading = true then s.failedSample.ols else s.ols) with reading := true } := by
  unfold State.startRead
  cases s.ols.reading <;> rfl

end Sys2Proof.Machine
end

section
/-!
PROOFS. The obligations about a raised boundary, block by block (O19, O20, O22, O36, O55).
-/

namespace Sys2Proof.Machine

/-! ## The sensor -/

theorem State.dayBoundary_sensor (a : State) :
    a.dayBoundary.ols.reading = a.ols.reading ∧ a.dayBoundary.ols.theta = a.ols.theta ∧
      a.dayBoundary.ols.lastSample = a.ols.lastSample ∧ a.dayBoundary.ols.failures = a.ols.failures ∧
      a.dayBoundary.ols.sensorFault = a.ols.sensorFault ∧ a.dayBoundary.ols.bins = a.ols.bins ∧
      a.dayBoundary.ols.store = a.ols.store := by
  unfold State.dayBoundary
  split
  · rw [State.requestWrite_ols]
    simp only [Ols.endDay]
    split <;> split <;> simp
  · simp

/-- The state at which a raised boundary starts the sensor read. -/
def State.beforeRead (a : State) : State := a.sdeBoundary.dayBoundary

theorem State.beforeRead_sensor (a : State) :
    a.beforeRead.ols.reading = a.ols.reading ∧ a.beforeRead.ols.theta = a.ols.theta ∧
      a.beforeRead.ols.lastSample = a.ols.lastSample ∧ a.beforeRead.ols.failures = a.ols.failures ∧
      a.beforeRead.ols.sensorFault = a.ols.sensorFault ∧ a.beforeRead.ols.bins = a.ols.bins ∧
      a.beforeRead.ols.store = a.ols.store := by
  have h := State.dayBoundary_sensor a.sdeBoundary
  rwa [(State.sdeBoundary_frame _).2.1] at h

theorem State.beforeRead_tru (a : State) : a.beforeRead.tru = a.tru := by simp [State.beforeRead]

theorem State.beforeRead_retains {fits : Report → Prop} {p : Port} (h : Ignores fits [0, 1]) (a : State) :
    (a.nu.get p).Retains fits (a.beforeRead.nu.get p) := by
  rw [State.beforeRead, (State.dayBoundary_frame _).2.2.2.2.1]
  exact State.sdeBoundary_retains h

/-- The tenth failed sample is told when a raised boundary abandons a read. -/
theorem State.AtBoundary.told_sensorFault {line : LineClock} {s a : State} (h : s.AtBoundary line a)
    (reading : s.ols.reading = true) (tenth : min 10 (s.ols.failures + 1) = 10) (clear : s.ols.sensorFault = false)
    (p : Port) : s.told a.afterBoundary p (.sensorFault true) := by
  intro attached
  obtain ⟨h1, -, -, h4, h5, -, -⟩ := a.beforeRead_sensor
  rw [h.ols] at h1 h4 h5
  have attached' : a.beforeRead.attached p = true := by
    rw [State.attached_congr (t := a) (congrArg _ a.beforeRead_tru), ← State.afterBoundary_attached]
    exact attached
  have filed : a.afterBoundary.nu.get p = (a.beforeRead.nu.get p).file (.sensorFault true) := by
    rw [State.afterBoundary_nu]
    show a.beforeRead.startRead.nu.get p = _
    rw [State.startRead, if_pos (h1.trans reading)]
    show a.beforeRead.failedSample.nu.get p = _
    rw [State.failedSample_nu, if_pos ⟨attached', h5.trans clear, h4 ▸ tenth⟩]
  have before := (h.retains (p := p) (ignores_false _)).trans (State.beforeRead_retains (ignores_false _) a)
  exact State.told_of_file (by decide) before (filed ▸ .refl _ _) attached

theorem exec_sensorReadDone_of_reading {s : State} (start : s.inStart = false) (reading : s.ols.reading = true)
    (r : SensorResult) :
    exec (.sensorReadDone r) s = .next (State.endRead r { s with ols := { s.ols with reading := false } }) := by
  show execSensorReadDone r s = _
  rw [execSensorReadDone, start, reading]
  rfl

theorem State.validSample_nu (θ : Int) (p : Port) (s : State) :
    (s.validSample θ).nu.get p =
      if s.attached p = true ∧ s.ols.sensorFault = true then (s.nu.get p).file (.sensorFault false) else s.nu.get p := by
  unfold State.validSample
  dsimp only
  cases fault : s.ols.sensorFault with
  | true =>
    rw [if_pos rfl, State.postAll_nu_get]
    simp only [and_true]
    rfl
  | false => rw [if_neg (by decide), if_neg fun h => absurd h.2 (by decide)]

theorem State.validSample_ols (θ : Int) (s : State) :
    (s.validSample θ).ols =
      { s.ols with
        lastSample := some θ, failures := 0, sensorFault := false
        theta :=
          match s.ols.theta with
          | none => some θ
          | some old => if s.ols.sensorFault then some θ else some (old + roundDiv (θ - old) 8) } := by
  unfold State.validSample
  cases s.ols.theta <;> cases s.ols.sensorFault <;> rfl

/-- Settles O36: at a boundary the OLS's part of the raised boundary, else the sample that ends the read. -/
theorem sensorReadEnds : Obligations.SensorReadEnds := by
  intro s read
  refine ⟨fun line raises => ?_, fun idle => ?_, fun start reading =>
    ⟨_, exec_sensorReadDone_of_reading start reading read, ?_, fun θ value low high => ?_, fun failed => ?_⟩⟩
  · obtain ⟨a, at', next⟩ := exec_raised raises line
    refine ⟨_, next, ?_⟩
    obtain ⟨h1, h2, h3, h4, h5, -, -⟩ := a.beforeRead_sensor
    have ols : a.afterBoundary.ols = _ := (State.afterBoundary_ols a).trans (State.startRead_ols a.beforeRead)
    have failed := State.failedSample_ols a.beforeRead
    rw [at'.ols] at h1 h2 h3 h4 h5
    rw [h1] at ols
    rw [h4, h5] at failed
    dsimp only
    refine ⟨by rw [ols], ?_, ?_, fun off => ?_, fun on => ⟨?_, ?_, fun tenth clear p =>
      at'.told_sensorFault on tenth clear p⟩⟩
    · rw [ols]; dsimp only; split
      · rw [failed, h2]
      · exact h2
    · rw [ols]; dsimp only; split
      · rw [failed, h3]
      · exact h3
    · rw [off, if_neg (by decide)] at ols; rw [ols]; exact ⟨h4, h5⟩
    · rw [on, if_pos rfl, failed] at ols; rw [ols]
    · rw [on, if_pos rfl, failed] at ols; rw [ols]
  · show execSensorReadDone read s = _
    rw [execSensorReadDone, idle, Bool.and_false]
    rfl
  · obtain ⟨h1, h2, h3, h4, h5, h6, h7, h8, h9, h10⟩ :=
      State.endRead_frame read { s with ols := { s.ols with reading := false } }
    exact State.eq_of_fields h1 h2 h3 rfl h4 rfl h5 h6 h7 h8 h9 h10
  · subst value
    have valid : State.endRead (.value θ) { s with ols := { s.ols with reading := false } } =
      State.validSample θ { s with ols := { s.ols with reading := false } } := if_pos ⟨low, high⟩
    rw [valid]
    exact ⟨State.validSample_ols θ _, fun p => State.validSample_nu θ p _⟩
  · have fails : State.endRead read { s with ols := { s.ols with reading := false } } =
      State.failedSample { s with ols := { s.ols with reading := false } } := by
      rcases failed with rfl | ⟨θ, rfl, out⟩
      · rfl
      · exact if_neg (by omega)
    rw [fails]
    exact ⟨State.failedSample_ols _, fun p => State.failedSample_nu p _⟩

/-! ## The line clock and the hold-offs -/

theorem Slot.countHoldOff_eq (sl : Slot) :
    sl.countHoldOff = { sl with holdOff := if sl.state = .disqualified then sl.holdOff - 1 else sl.holdOff } := by
  unfold Slot.countHoldOff; split <;> rfl

theorem Slot.countHoldOff_of_takes {sl : Slot} (h : sl.state.takes = true) : sl.countHoldOff = sl :=
  if_neg fun disqualified => by rw [disqualified] at h; cases h

theorem State.rmuBoundary_get (k : Seconds) (line : LineClock) (n : SlotId) (s : State) :
    (s.rmuBoundary k line).rmu.slots.get n =
      ((if s.spm.power = .run then s.rmu.takeLineClock k line else s.rmu).slots.get n).countHoldOff := by
  simp [State.rmuBoundary]

/-- What the line clock leaves of the RMU but the LF slot. -/
theorem Rmu.takeLineClock_frame (k : Seconds) (line : LineClock) (r : Rmu) :
    (r.takeLineClock k line).lastClosed = r.lastClosed ∧ (r.takeLineClock k line).targetA = r.targetA ∧
      (r.takeLineClock k line).targetB = r.targetB ∧
      ∀ n : SlotId, n ≠ 2 → (r.takeLineClock k line).slots.get n = r.slots.get n := by
  unfold Rmu.takeLineClock
  split
  · exact ⟨rfl, rfl, rfl, fun _ _ => rfl⟩
  · dsimp only
    split
    · exact ⟨rfl, rfl, rfl, fun _ _ => rfl⟩
    · split
      · exact ⟨rfl, rfl, rfl, fun _ _ => rfl⟩
      · exact ⟨rfl, rfl, rfl, fun n ne => Six.get_set_ne _ _ ne⟩

theorem Slot.takeLf_state (k : Seconds) (f : Int) (sl : Slot) : (sl.takeLf k f).state = sl.state := by
  unfold Slot.takeLf
  split
  · rfl
  · split <;> rfl

/-- The LF slot after a count of the line clock: judged where a previous mark stands and nothing has made the observation void. -/
theorem Rmu.takeLineClock_lf (k : Seconds) (count : Nat) (gap : Bool) (r : Rmu) :
    (r.takeLineClock k (.counted count gap)).slots.get 2 =
      match r.lfMark with
      | some old =>
        if r.lfVoid = true ∨ gap = true then r.slots.get 2
        else (r.slots.get 2).takeLf k (lfFrequency old (lfMarkOf r.lfNominal count))
      | none => r.slots.get 2 := by
  unfold Rmu.takeLineClock
  dsimp only
  cases r.lfMark with
  | none => rfl
  | some old =>
    dsimp only
    by_cases void : r.lfVoid = true ∨ gap = true
    · rw [if_pos void, if_pos (by simpa using void)]
    · rw [if_neg void, if_neg (by simpa using void)]
      exact Six.get_set_same r.slots 2 _

theorem Rmu.takeLineClock_mark (k : Seconds) (count : Nat) (gap : Bool) (r : Rmu) :
    (r.takeLineClock k (.counted count gap)).lfMark = some (lfMarkOf r.lfNominal count) ∧
      (r.takeLineClock k (.counted count gap)).lfVoid = false := by
  unfold Rmu.takeLineClock
  dsimp only
  split
  · exact ⟨rfl, rfl⟩
  · split <;> exact ⟨rfl, rfl⟩

theorem State.rmuBoundary_rmu (k : Seconds) (line : LineClock) (s : State) :
    let r := if s.spm.power = .run then s.rmu.takeLineClock k line else s.rmu
    (s.rmuBoundary k line).rmu = { r with slots := (s.rmuBoundary k line).rmu.slots } := rfl

theorem Rmu.takeLineClock_counts (k : Seconds) (line : LineClock) (r : Rmu) :
    ((r.takeLineClock k line).slots.get 2).state = (r.slots.get 2).state ∧
      ((r.takeLineClock k line).slots.get 2).holdOff = (r.slots.get 2).holdOff := by
  cases line with
  | inGap => exact ⟨rfl, rfl⟩
  | counted count gap =>
    rw [Rmu.takeLineClock_lf]
    split
    · split
      · exact ⟨rfl, rfl⟩
      · unfold Slot.takeLf
        split
        · exact ⟨rfl, rfl⟩
        · split <;> exact ⟨rfl, rfl⟩
    · exact ⟨rfl, rfl⟩

/-- Settles O55: the RMU's part of a raised boundary, by the power state, the line clock's count and the mark. -/
theorem boundaryMeasuresLineClock : Obligations.BoundaryMeasuresLineClock := by
  intro s line raises
  obtain ⟨a, at', next⟩ := exec_raised raises line
  refine ⟨_, next, ?_⟩
  rw [State.afterBoundary_rmu, at'.rmu, State.rmuBoundary_rmu]
  dsimp only
  rw [State.rmuBoundary_get, ← Slot.countHoldOff_eq, ← SlotState.takes_iff]
  refine ⟨fun off => ?_, fun run => ⟨?_, fun count gap counted => ?_⟩⟩
  · rw [if_neg off]; exact ⟨rfl, rfl, rfl⟩
  · rintro rfl; rw [if_pos run]; exact ⟨rfl, rfl⟩
  · subst counted
    rw [if_pos run, Rmu.takeLineClock_lf]
    obtain ⟨mark, clear⟩ := Rmu.takeLineClock_mark s.tsg.seconds count gap s.rmu
    refine ⟨mark, clear, fun idle => ?_, fun last held fresh whole takes => ?_⟩
    · cases held : s.rmu.lfMark with
      | none => rfl
      | some last =>
        dsimp only
        split
        · rfl
        next valid =>
          have deaf : ¬(s.rmu.slots.get 2).state.takes = true := by
            simpa [held, not_or.mp valid] using idle
          rw [Slot.takeLf, if_pos (by simpa using deaf)]
    · rw [held]
      dsimp only
      rw [if_neg (by simp [fresh, whole])]
      have still : ((s.rmu.slots.get 2).takeLf s.tsg.seconds (lfFrequency last (lfMarkOf s.rmu.lfNominal count))).state.takes =
        true := by rwa [Slot.takeLf_state]
      rw [Slot.countHoldOff_of_takes still, Slot.takeLf, if_neg (by simp [takes]), ← Slot.gated_iff]
      exact ⟨fun gate => if_pos gate, fun pass => if_neg pass⟩

/-- Settles O22: the counts of the RMU, the TRU and the SPM, each in its own block. -/
theorem boundaryCounts : Obligations.BoundaryCounts := by
  intro s line raises
  obtain ⟨a, at', next⟩ := exec_raised raises line
  refine ⟨_, next, ?_⟩
  rw [State.afterBoundary_rmu, State.afterBoundary_tru, State.afterBoundary_spm, at'.rmu, at'.tru, at'.spm]
  obtain ⟨closed, targetA, targetB, others⟩ := Rmu.takeLineClock_frame s.tsg.seconds line s.rmu
  have slot : ∀ n : SlotId,
      (((if s.spm.power = .run then s.rmu.takeLineClock s.tsg.seconds line else s.rmu).slots.get n).state =
          (s.rmu.slots.get n).state ∧
        ((if s.spm.power = .run then s.rmu.takeLineClock s.tsg.seconds line else s.rmu).slots.get n).holdOff =
          (s.rmu.slots.get n).holdOff) ∧
      (n ≠ 2 →
        (if s.spm.power = .run then s.rmu.takeLineClock s.tsg.seconds line else s.rmu).slots.get n = s.rmu.slots.get n) := by
    intro n
    split
    · by_cases lf : n = 2
      · subst lf
        exact ⟨Rmu.takeLineClock_counts _ _ _, fun ne => absurd rfl ne⟩
      · rw [others n lf]; exact ⟨⟨rfl, rfl⟩, fun _ => rfl⟩
    · exact ⟨⟨rfl, rfl⟩, fun _ => rfl⟩
  refine ⟨fun n => ?_, ?_, ?_, ?_, rfl, rfl, rfl, rfl, rfl, rfl, fun run => if_pos run, fun away => ?_⟩
  · obtain ⟨⟨state, holdOff⟩, same⟩ := slot n
    dsimp only
    rw [State.rmuBoundary_get, Slot.countHoldOff_eq]
    refine ⟨state, by dsimp only; rw [state, holdOff], fun phase => ?_⟩
    rw [same phase]
  · rw [State.rmuBoundary_rmu]; dsimp only; split
    · exact closed
    · rfl
  · rw [State.rmuBoundary_rmu]; dsimp only; split
    · exact targetA
    · rfl
  · rw [State.rmuBoundary_rmu]; dsimp only; split
    · exact targetB
    · rfl
  · show (if s.spm.power = .run then _ else _) = _
    rw [if_neg away]
    congr 1
    funext k
    simp only [KeepAliveSummary.countBoundary, satAdd, beq_iff_eq]

/-! ## The end of a day -/

theorem State.predictionStep_tsg (a : State) : ∃ f, a.predictionStep.tsg = { a.tsg with fApp := f } := by
  unfold State.predictionStep
  split
  · exact ⟨_, rfl⟩
  · exact ⟨a.tsg.fApp, rfl⟩

/-- The SDE's boundary changes of the TSG at most the applied correction. -/
theorem State.sdeBoundary_tsg (a : State) : ∃ f, a.sdeBoundary.tsg = { a.tsg with fApp := f } := by
  have h : a.sdeBoundary.tsg = a.formHours.predictionStep.tsg := by simp [State.sdeBoundary]
  rw [h, ← (State.formHours_frame a).1]
  exact State.predictionStep_tsg _

theorem State.sdeBoundary_seconds (a : State) : a.sdeBoundary.tsg.seconds = a.tsg.seconds := by
  obtain ⟨f, h⟩ := a.sdeBoundary_tsg; rw [h]

theorem State.sdeBoundary_timeValid (a : State) : a.sdeBoundary.tsg.timeValid = a.tsg.timeValid := by
  obtain ⟨f, h⟩ := a.sdeBoundary_tsg; rw [h]

theorem State.sdeBoundary_retainedContent (a : State) : a.sdeBoundary.retainedContent = a.retainedContent := by
  have sde := a.sdeBoundary_sde
  obtain ⟨-, ols, tru, -⟩ := a.sdeBoundary_frame
  unfold State.retainedContent
  rw [sde, ols, tru]

/-- The start of a sensor read leaves the learned values, the day and the writer. -/
theorem State.startRead_learned (a : State) :
    a.startRead.ols =
      { a.ols with
        reading := true, failures := a.startRead.ols.failures, sensorFault := a.startRead.ols.sensorFault } := by
  rw [State.startRead_ols, State.failedSample_ols]
  split <;> rfl

theorem State.dayBoundary_of_day {a : State} (h : a.tsg.seconds.toNat % 86400 = 0) :
    a.dayBoundary = State.requestWrite { a with ols := a.ols.endDay (dayOf (a.tsg.seconds - 1)) } := if_pos h

theorem State.dayBoundary_of_same {a : State} (h : a.tsg.seconds.toNat % 86400 ≠ 0) : a.dayBoundary = a := if_neg h

theorem Ols.appends_iff (o : Ols) (day : Nat) :
    o.appends day = true ↔ 72000 ≤ o.dayLocked ∧ ∀ r, o.ring.getLast? = some r → r.day < day := by
  unfold Ols.appends
  cases o.ring.getLast? <;> simp

theorem appendDay_of_short {ring : List DayRecord} (h : ring.length ≤ 8) (r : DayRecord) :
    appendDay ring r = (if ring.length = 8 then ring.tail else ring) ++ [r] := by
  unfold appendDay
  by_cases full : ring.length = 8
  · rw [if_pos full, if_pos (Nat.le_of_eq full.symm), full, List.drop_one]
  · rw [if_neg full, if_neg (by omega)]

theorem Ols.endDay_of_appends {o : Ols} {day : Nat} (h : o.appends day = true) :
    o.endDay day =
      { o with
        ring := appendDay o.ring (o.dayRecord day)
        aging := (agingOf (appendDay o.ring (o.dayRecord day))).1
        agingEst := (agingOf (appendDay o.ring (o.dayRecord day))).2, dayLocked := 0, dayCorr := 0, dayTemp := 0 } := by
  rw [Ols.endDay, if_pos h]

theorem Ols.endDay_of_not_appends {o : Ols} {day : Nat} (h : ¬o.appends day = true) :
    o.endDay day = { o with dayLocked := 0, dayCorr := 0, dayTemp := 0 } := by
  rw [Ols.endDay, if_neg h]

/-- The end of a day changes the ring, the aging slope and the accumulators alone. -/
theorem Ols.endDay_eq (o : Ols) (day : Nat) :
    o.endDay day =
      { o with
        ring := (o.endDay day).ring, aging := (o.endDay day).aging, agingEst := (o.endDay day).agingEst
        dayLocked := 0, dayCorr := 0, dayTemp := 0 } := by
  unfold Ols.endDay
  split <;> rfl

theorem State.requestWrite_learned (a : State) :
    a.requestWrite.ols =
      { a.ols with writing := a.requestWrite.ols.writing, rewritePending := a.requestWrite.ols.rewritePending } := by
  rw [State.requestWrite_ols]; split <;> rfl

/-- Settles O20: the day is ended by the OLS's part, on the record and the accumulators that the boundary found. -/
theorem boundaryEndsDay : Obligations.BoundaryEndsDay := by
  intro s line raises
  obtain ⟨a, at', next⟩ := exec_raised raises line
  refine ⟨_, next, ?_⟩
  have seconds : a.sdeBoundary.tsg.seconds = s.tsg.seconds + 1 := a.sdeBoundary_seconds.trans at'.seconds
  have ols : a.sdeBoundary.ols = s.ols := (State.sdeBoundary_frame a).2.1.trans at'.ols
  have content : a.sdeBoundary.retainedContent = s.retainedContent := by
    rw [State.sdeBoundary_retainedContent]
    unfold State.retainedContent
    rw [at'.sde, at'.ols, at'.tru]
  have learned := (State.afterBoundary_ols a).trans (State.startRead_learned _)
  rw [State.afterBoundary_ols, State.startRead_learned]
  by_cases day : (s.tsg.seconds + 1).toNat % 86400 = 0
  · have ended : a.sdeBoundary.dayBoundary =
        State.requestWrite { a.sdeBoundary with ols := s.ols.endDay (s.tsg.seconds.toNat / 86400) } := by
      rw [State.dayBoundary_of_day (by rw [seconds]; exact day), seconds, seconds_add_sub, ols]; rfl
    rw [ended] at learned ⊢
    generalize hb : ({ a.sdeBoundary with ols := s.ols.endDay (s.tsg.seconds.toNat / 86400) } : State) = b at learned ⊢
    have bOls : b.ols = s.ols.endDay (s.tsg.seconds.toNat / 86400) := by rw [← hb]
    have bContent : b.retainedContent =
        { s.retainedContent with
          ring := (s.ols.endDay (s.tsg.seconds.toNat / 86400)).ring
          aging := (s.ols.endDay (s.tsg.seconds.toNat / 86400)).aging } := by
      rw [← content, ← hb]
      unfold State.retainedContent
      dsimp only
      rw [Ols.endDay_eq, ols]
    have requested := b.requestWrite_requested
    rw [bContent, bOls] at requested
    have idle : (s.ols.endDay (s.tsg.seconds.toNat / 86400)).writing = s.ols.writing := by rw [Ols.endDay_eq]
    have pending : (s.ols.endDay (s.tsg.seconds.toNat / 86400)).rewritePending = s.ols.rewritePending := by
      rw [Ols.endDay_eq]
    rw [idle, pending] at requested
    rw [State.requestWrite_learned, bOls]
    refine ⟨fun _ => ?_, fun other => absurd day other, ?_, ?_, rfl⟩
    · dsimp only
      refine ⟨by rw [Ols.endDay_eq], by rw [Ols.endDay_eq], by rw [Ols.endDay_eq], fun appends short => ?_, fun kept => ?_,
        by rw [State.requestedWrite, learned]; exact requested⟩
      · rw [Ols.endDay_of_appends ((Ols.appends_iff _ _).mpr appends)]
        exact ⟨appendDay_of_short short _, rfl⟩
      · rw [Ols.endDay_of_not_appends]
        · exact ⟨rfl, rfl, rfl⟩
        · rw [Ols.appends_iff]
          rintro ⟨enough, later⟩
          rcases kept with few | ⟨r, last, le⟩
          · omega
          · exact absurd (later r last) (by omega)
    · dsimp only; rw [Ols.endDay_eq]
    · dsimp only; rw [Ols.endDay_eq]
  · rw [State.dayBoundary_of_same (by rw [seconds]; exact day), ols]
    exact ⟨fun h => absurd h day, fun _ => ⟨rfl, rfl, rfl, rfl, rfl, rfl, rfl, rfl⟩, rfl, rfl, rfl⟩

end Sys2Proof.Machine
end

section
/-!
PROOFS. The prediction and the growth of E at a raised boundary (O19).
-/

namespace Sys2Proof.Machine

section
variable {x y : State}

theorem State.currentBin_congr (ols : x.ols = y.ols) : x.currentBin = y.currentBin := by rw [State.currentBin, State.currentBin, ols]

theorem State.tempTerm_congr (ols : x.ols = y.ols) (b : Option BinId) : x.tempTerm b = y.tempTerm b := by
  unfold State.tempTerm; rw [State.currentBin_congr ols, ols]

/-- The growth reads the OLS, the TRU, the SPM and the SDE alone. -/
theorem State.growth_congr (ols : x.ols = y.ols) (tru : x.tru = y.tru) (spm : x.spm = y.spm) (sde : x.sde = y.sde) :
    x.growth = y.growth := by
  unfold State.growth State.cold State.tempPenalty State.agingUncertainty State.growthHours
  rw [State.currentBin_congr ols, State.tempTerm_congr ols, ols, tru, spm, sde]

/-- The prediction reads the OLS and the SDE alone. -/
theorem State.predicted_congr (ols : x.ols = y.ols) (sde : x.sde = y.sde) : x.predicted = y.predicted := by
  unfold State.predicted State.agingTerm
  rw [State.tempTerm_congr ols, ols, sde]

theorem roundDiv_zero_left (b : Nat) : roundDiv 0 b = 0 := by
  unfold roundDiv
  cases b with
  | zero => rfl
  | succ n => simp [Nat.div_eq_of_lt]

theorem State.tempTerm_of_none {b : Option BinId} (h : x.currentBin = none ∨ b = none) : x.tempTerm b = none := by
  unfold State.tempTerm
  split
  next c d hc => exact absurd h (by rw [hc]; simp)
  · rfl

theorem State.tempTerm_of_some {b c : BinId} (h : x.currentBin = some c) :
    x.tempTerm (some b) =
      if 16 ≤ (x.ols.bins.get c).count ∧ 16 ≤ (x.ols.bins.get b).count ∧ x.ols.sensorFault = false then
        some ((x.ols.bins.get c).mean - (x.ols.bins.get b).mean)
      else none := by
  unfold State.tempTerm Ols.usable
  rw [h]
  simp [and_assoc]

end

/-- E set between s and t judges the attached tenants by it, where no later change touches the flags, E and the time-valid flag, and none
the notices of tolerance. -/
theorem State.judgedIn_of_setE {fits₀ : Report → Prop} {s b t : State} {x : Int}
    (tenants : b.tru.tenants = s.tru.tenants) (tenants' : t.tru.tenants = s.tru.tenants)
    (valid : t.tsg.timeValid = b.tsg.timeValid) (e : t.sde.e = min x eCap) (tol : t.sde.tol = (b.setE x).sde.tol)
    (found : ∀ p : Port, b.sde.tol.get p = s.sde.tol.get p)
    (before : ∀ p : Port, (s.nu.get p).Retains fits₀ (b.nu.get p))
    (after : ∀ (p : Port) (r : Report), r.kind ≤ 1 → ((b.setE x).nu.get p).Retains (fun x => x = r) (t.nu.get p)) :
    s.judgedIn t :=
  State.judgedFrom_of_judgeAll (a := { b with sde := { b.sde with e := min x eCap } }) tenants tenants' valid e tol
    (fun p _ => found p) before after

/-- Settles O19: HOLDOVER by the prediction and the growth on it, BRIDGE by the growth at h = 0, and elsewhere nothing. -/
theorem boundaryPredictsAndGrows : Obligations.BoundaryPredictsAndGrows := by
  intro s line raises
  obtain ⟨a, at', next⟩ := exec_raised raises line
  refine ⟨_, next, ?_⟩
  intro now temp penalty slope uncertainty third
  have isTemp : temp = s.tempTerm s.sde.anchorBin := by
    show (match now, s.sde.anchorBin with | some b, some a => _ | _, _ => none) = _
    have hn : s.currentBin = now := rfl
    cases now' : now with
    | none => exact (State.tempTerm_of_none (.inl (hn.trans now'))).symm
    | some c =>
      cases anchor : s.sde.anchorBin with
      | none => exact (State.tempTerm_of_none (.inr rfl)).symm
      | some b => exact (State.tempTerm_of_some (hn.trans now')).symm
  have isPenalty : penalty = s.tempPenalty := by
    show (if temp.isSome then (now.map _).getD 200 else _) = _
    rw [State.tempPenalty, isTemp]
    refine if_congr Iff.rfl ?_ rfl
    show _ = (match now with | some b => _ | none => _)
    cases now <;> rfl
  have growthOf : ∀ d : Sde, d.clock = .holdover ∨ d.clock = .bridge → d.anchorBin = s.sde.anchorBin →
      d.residual = s.sde.residual →
      State.growth { s with sde := d } =
        if s.spm.oven ≠ .settled then 5000
        else if d.clock = .holdover ∧ d.assisted then max d.wander s.tru.config.sigmaFloor
        else third + roundDiv (uncertainty * (if d.clock = .holdover then d.hours else 0 : Nat)) 24 := by
    intro d clock bin residual
    have cold : State.cold { s with sde := d } = true ↔ s.spm.oven ≠ .settled := by
      rcases clock with h | h <;> simp [State.cold, h]
    have samePenalty : State.tempPenalty { s with sde := d } = penalty := by
      rw [isPenalty]
      show (if (State.tempTerm s d.anchorBin).isSome then _ else if _ ∧ s.currentBin = d.anchorBin ∧ _ then _ else _) = _
      rw [bin]; rfl
    rw [State.growth, samePenalty, if_congr cold rfl rfl]
    refine if_congr Iff.rfl rfl (if_congr Iff.rfl rfl ?_)
    show max d.residual _ + penalty + _ = max s.sde.residual _ + penalty + _
    rw [residual]; rfl
  have seconds := at'.seconds
  have judged : ∀ (b : State) (x : Int), a.sdeBoundary.nu = (b.setE x).nu → a.sdeBoundary.sde.e = min x eCap →
      a.sdeBoundary.sde.tol = (b.setE x).sde.tol → b.tru = s.tru → b.nu = a.nu → b.sde.tol = s.sde.tol →
      b.tsg.timeValid = s.tsg.timeValid → s.judgedIn a.afterBoundary := by
    intro b x told e flags tru nu tol valid
    refine State.judgedIn_of_setE (b := b) (x := x) (fits₀ := fun _ => False) (congrArg _ tru)
      (by rw [State.afterBoundary_tru, at'.tru]) ?_ (by rw [State.afterBoundary_sde, e])
      (by rw [State.afterBoundary_sde, flags]) (fun p => by rw [tol]) (fun p => ?_) fun p r low => ?_
    · rw [State.afterBoundary_tsg, State.sdeBoundary_timeValid, at'.timeValid, valid]
    · rw [nu]; exact at'.retains (ignores_false _)
    · rw [State.afterBoundary_nu, ← told]
      exact State.dayAndRead_retains (ignores_eq r (by simp; omega)) _
  rw [State.afterBoundary_sde, State.afterBoundary_tsg]
  by_cases holdover : s.sde.clock = .holdover
  · have clock : a.sde.clock = .holdover := by rw [at'.sde]; exact holdover
    generalize hb : a.predictedHoldover = b
    obtain ⟨d, hd⟩ : ∃ d : Sde, d =
      { s.sde with hours := ((s.tsg.seconds + 1 - s.sde.anchorSeconds).toNat - 1) / 3600 } := ⟨_, rfl⟩
    have formed : a.formHours.sde = d := by
      rw [State.formHours_of_holdover clock, hd, hoursSince, at'.sde, seconds]
    obtain ⟨fTsg, fRmu, fOls, fTru, fNu, fPou, fSpm, -⟩ := a.formHours_frame
    obtain ⟨-, pSde, pOls, pTru, pNu, -, pSpm, -⟩ := a.formHours.predictionStep_frame
    rw [show a.formHours.predictionStep = b from hb] at pSde pOls pTru pNu pSpm
    rw [formed] at pSde
    rw [fOls, at'.ols] at pOls
    rw [fTru, at'.tru] at pTru
    rw [fSpm, at'.spm] at pSpm
    rw [fNu] at pNu
    have growth : b.growth = State.growth { s with sde := d } := State.growth_congr pOls pTru pSpm pSde
    rw [growthOf d (.inl (by rw [hd]; exact holdover)) (by rw [hd]) (by rw [hd])] at growth
    have grown : a.sdeBoundary = b.setE (s.sde.e + b.growth) := by
      rw [State.sdeBoundary_of_holdover clock, hb, at'.sde]
    have grownSde := congrArg State.sde (b.setE_shape (s.sde.e + b.growth))
    rw [← grown, pSde] at grownSde
    have site : a.sdeBoundary.tsg = b.tsg := by rw [grown, (State.setE_frame _ _).1]
    have predicted : a.formHours.predicted =
        s.sde.anchorCorr + temp.getD 0 +
          roundDiv (slope * (((s.tsg.seconds + 1 - s.sde.anchorSeconds).toNat - 1) / 3600 : Nat)) 24 := by
      rw [State.predicted_congr (y := { s with sde := d }) (fOls.trans at'.ols) formed, isTemp, hd]
      rfl
    have fApp : b.tsg.fApp =
        if s.sde.assisted = false ∧ s.spm.oven = .settled then
          clampCorr (s.tsg.fApp + max (-1000) (min 1000 (a.formHours.predicted - s.tsg.fApp)))
        else s.tsg.fApp := by
      have steps : (a.formHours.sde.clock = .holdover ∧ a.formHours.sde.assisted = false ∧ a.formHours.spm.oven = .settled) ↔
          s.sde.assisted = false ∧ s.spm.oven = .settled := by
        rw [formed, hd, fSpm, at'.spm]
        exact and_iff_right holdover
      rw [← hb, State.predictedHoldover, State.predictionStep, if_congr steps rfl rfl]
      split
      · show clampCorr (a.formHours.tsg.fApp + clampAbs 1000 (_ - a.formHours.tsg.fApp)) = _
        rw [fTsg, at'.fApp]; rfl
      · rw [fTsg, at'.fApp]
    refine ⟨fun _ => ?_, fun bridge => absurd (holdover.symm.trans bridge) (by decide), fun _ => ?_,
      fun away => absurd holdover away⟩
    · have e : a.sdeBoundary.sde.e = min (s.sde.e + b.growth) eCap := by rw [grownSde]
      rw [growth, if_congr Iff.rfl rfl (if_congr (and_iff_right (by rw [hd]; exact holdover)) rfl
        (by rw [if_pos (by rw [hd]; exact holdover)]))] at e
      refine ⟨?_, ?_, ?_, ?_⟩
      · rw [grownSde, hd]
      · rw [site, fApp, predicted]
      · rw [e, hd]; rfl
      · rw [grownSde, hd]; exact ⟨holdover, rfl, rfl, rfl, rfl⟩
    · refine judged b _ (congrArg _ grown) (by rw [grownSde]) (by rw [grown]) pTru pNu (by rw [pSde, hd]) ?_
      rw [← at'.timeValid, ← State.sdeBoundary_timeValid a, site]
  · by_cases bridge : s.sde.clock = .bridge
    · have clock : a.sde.clock = .bridge := by rw [at'.sde]; exact bridge
      have growth : a.growth = State.growth { s with sde := s.sde } :=
        State.growth_congr at'.ols at'.tru at'.spm at'.sde
      rw [growthOf s.sde (.inr bridge) rfl rfl] at growth
      have grown := State.sdeBoundary_of_bridge clock
      rw [at'.sde] at grown
      have site : a.sdeBoundary.tsg = a.tsg := by rw [grown]; exact (State.setE_frame _ _).1
      have grownSde := congrArg State.sde grown
      dsimp only at grownSde
      rw [State.setE_shape, at'.sde] at grownSde
      refine ⟨fun h => absurd h holdover, fun _ => ⟨?_, ?_, ?_, ?_⟩, fun _ => ?_, fun _ h => absurd bridge h⟩
      · rw [site, at'.fApp]
      · rw [grownSde]
      · rw [grownSde]; exact bridge
      · rw [grownSde]
        show min (s.sde.e + a.growth) eCap = _
        rw [growth, if_neg (show ¬(s.sde.clock = .holdover ∧ s.sde.assisted = true) from fun h => holdover h.1), if_neg holdover, Nat.cast_zero, mul_zero, roundDiv_zero_left, add_zero]
        rfl
      · refine judged a (s.sde.e + a.growth) (by rw [grown]) (by rw [grownSde]) (by rw [grown]) at'.tru rfl (by rw [at'.sde])
          at'.timeValid
    · have still := State.sdeBoundary_of_still (a := a) (by rw [at'.sde]; exact holdover) (by rw [at'.sde]; exact bridge)
      rw [still, at'.sde, at'.fApp]
      exact ⟨fun h => absurd h holdover, fun h => absurd h bridge, fun h => absurd h (by simp [holdover, bridge]),
        fun _ _ => ⟨rfl, rfl⟩⟩

end Sys2Proof.Machine
end

section
/-!
PROOFS. Site time over the end of a second, and the outputs there (O18, O21).
-/

namespace Sys2Proof.Machine

/-! ## What an output does with a crossing -/

section
variable {x y : State} {o q : OutId} {p : Port}

theorem pastInstant_congr {t u : Tsg} (h : t.position = u.position) (r : OutputRecord) : pastInstant t r = pastInstant u r := by
  unfold pastInstant; rw [h]

theorem State.actsAtInstants_congr (spm : x.spm = y.spm) (current : (x.pou.get o).current = (y.pou.get o).current)
    (resume : (x.pou.get o).resumeWait = (y.pou.get o).resumeWait) : x.actsAtInstants o = y.actsAtInstants o := by
  unfold State.actsAtInstants
  rw [State.inService_congr spm, current, resume]

theorem State.squelched_congr (valid : x.tsg.timeValid = y.tsg.timeValid) (sde : x.sde = y.sde) (tru : x.tru = y.tru)
    (current : (x.pou.get o).current = (y.pou.get o).current) : x.squelched o = y.squelched o := by
  unfold State.squelched State.tenantSquelched State.out3Squelched
  rw [valid, sde, tru, current]

/-- Output o acts on an instant that the crossing cycle passed before the end of the second. -/
abbrev State.crosses (o : OutId) (x : State) : Prop :=
  x.actsAtInstants o = true ∧ x.tsg.position < pastInstant x.tsg (x.pou.get o).current ∧
    pastInstant x.tsg (x.pou.get o).current < x.tsg.cycleAdvance

theorem State.crossInstant_of_crosses (h : x.crosses o) :
    x.crossInstant o = some (pastInstant x.tsg (x.pou.get o).current) := by
  obtain ⟨acts, before, passed⟩ := h
  rw [State.crossInstant, acts, decide_eq_true before, Bool.and_self, if_pos rfl, Output.passing, if_pos passed]

theorem State.crossInstant_of_not_crosses (h : ¬x.crosses o) : x.crossInstant o = none := by
  unfold State.crossInstant Output.passing
  by_cases acts : x.actsAtInstants o = true ∧ x.tsg.position < pastInstant x.tsg (x.pou.get o).current
  · rw [if_pos (by simpa using acts), if_neg fun passed => h ⟨acts.1, acts.2, passed⟩]
  · rw [if_neg (by simpa using acts)]

theorem State.crossOutput_of_not_crosses (h : ¬x.crosses o) : x.crossOutput o = x := by
  rw [State.crossOutput, State.crossInstant_of_not_crosses h]

theorem State.crosses_congr (tsg : x.tsg = y.tsg) (spm : x.spm = y.spm) (out : x.pou.get o = y.pou.get o) :
    x.crosses o ↔ y.crosses o := by
  unfold State.crosses
  rw [State.actsAtInstants_congr spm (by rw [out]) (by rw [out]), tsg, out]

theorem State.stateAtInstant_crossOutput (ne : q ≠ o) : (x.crossOutput o).stateAtInstant q = x.stateAtInstant q := by
  unfold State.stateAtInstant
  rw [State.squelched_congr (y := x) (by simp) (by simp) (by simp) (by rw [State.crossOutput_pou_get, if_neg ne])]

theorem State.postSquelch_nu_get (o : OutId) (st : OutputState) (p : Port) (x : State) :
    (x.postSquelch o st).nu.get p =
      if x.attached p = true ∧ (ownerOf o = none ∨ ownerOf o = some p) then (x.nu.get p).file (squelchReport o st)
      else x.nu.get p := by
  unfold State.postSquelch
  cases owner : ownerOf o with
  | none => rw [State.postAll_nu_get]; simp
  | some t =>
    rw [State.postTo_nu_get]
    simp only [Bool.and_eq_true, beq_iff_eq, reduceCtorEq, false_or, Option.some.injEq, eq_comm (a := t)]

theorem State.evaluateOut_nu_get (o : OutId) (past : Nat) (p : Port) (x : State) :
    (x.evaluateOut o past).nu.get p =
      if x.attached p = true ∧ (ownerOf o = none ∨ ownerOf o = some p) ∧
          squelchPosts (x.pou.get o).state (x.stateAtInstant o) = true then
        (x.nu.get p).file (squelchReport o (x.stateAtInstant o))
      else x.nu.get p := by
  unfold State.evaluateOut
  dsimp only
  by_cases posts : squelchPosts (x.pou.get o).state (x.stateAtInstant o) = true
  · rw [if_pos posts, State.postSquelch_nu_get]
    exact if_congr (and_congr_right fun _ => (and_iff_left posts).symm) rfl rfl
  · rw [if_neg posts, if_neg fun h => posts h.2.2]
    rfl

/-- A tenant's notices after the crossing of output o, filed where the output posts its new state. -/
def State.crossFiled (o : OutId) (x : State) (n : TenantNotices) : TenantNotices :=
  if x.crosses o ∧ squelchPosts (x.pou.get o).state (x.stateAtInstant o) = true then
    n.file (squelchReport o (x.stateAtInstant o))
  else n

theorem State.crossFiled_congr (tsg : x.tsg = y.tsg) (spm : x.spm = y.spm) (out : x.pou.get o = y.pou.get o)
    (state : x.stateAtInstant o = y.stateAtInstant o) (n : TenantNotices) : x.crossFiled o n = y.crossFiled o n := by
  unfold State.crossFiled
  rw [if_congr (and_congr_left' (State.crosses_congr tsg spm out)) rfl rfl, out, state]

theorem State.crossFiled_crossOutput (ne : q ≠ o) (n : TenantNotices) :
    (x.crossOutput o).crossFiled q n = x.crossFiled q n :=
  State.crossFiled_congr (by simp) (by simp) (by rw [State.crossOutput_pou_get, if_neg ne])
    (State.stateAtInstant_crossOutput ne) n

theorem State.crossOutput_nu_get (o : OutId) (p : Port) (x : State) :
    (x.crossOutput o).nu.get p =
      if x.attached p = true ∧ (ownerOf o = none ∨ ownerOf o = some p) then x.crossFiled o (x.nu.get p)
      else x.nu.get p := by
  by_cases crosses : x.crosses o
  · rw [State.crossOutput, State.crossInstant_of_crosses crosses]
    show (x.evaluateOut o _).nu.get p = _
    rw [State.evaluateOut_nu_get, State.crossFiled]
    by_cases reached : x.attached p = true ∧ (ownerOf o = none ∨ ownerOf o = some p)
    · rw [if_pos reached]
      exact if_congr (by rw [and_iff_right reached.1, and_iff_right reached.2, and_iff_right crosses]) rfl rfl
    · rw [if_neg reached, if_neg fun h => reached ⟨h.1, h.2.1⟩]
  · have unfiled : x.crossFiled o (x.nu.get p) = x.nu.get p := if_neg fun h => crosses h.1
    rw [State.crossOutput_of_not_crosses crosses, unfiled, ite_self]

/-- The crossings of the four outputs reach a tenant by its own output and by OUT3. -/
theorem State.crossOutputs_nu_get (p : Port) (x : State) :
    (x.forOutputs State.crossOutput).nu.get p =
      if x.attached p = true then x.crossFiled 3 (x.crossFiled (tenantOut p) (x.nu.get p)) else x.nu.get p := by
  have attached : ∀ (o : OutId) (y : State), (y.crossOutput o).attached p = y.attached p := fun o y =>
    State.attached_congr (by simp) p
  by_cases reached : x.attached p = true
  · have ne : ∀ {o q : OutId}, o ≠ q → ∀ (y : State) (n : TenantNotices), (y.crossOutput o).crossFiled q n = y.crossFiled q n :=
      fun h _ n => State.crossFiled_crossOutput (Ne.symm h) n
    unfold State.forOutputs
    simp only [State.crossOutput_nu_get, attached, reached, if_true, true_and]
    match p with
    | 0 => simp [ownerOf, tenantOut, ne]
    | 1 => simp [ownerOf, tenantOut, ne]
    | 2 => simp [ownerOf, tenantOut, ne]
  · unfold State.forOutputs
    simp [State.crossOutput_nu_get, attached, reached]

end

/-! ## The end of the second -/

section
variable {s : State} {o : OutId}

theorem State.passSecond_get (o : OutId) (s : State) :
    s.passSecond.pou.get o = (s.pou.get o).elapse (s.cyclesToSecond * s.tsg.cycleAdvance) := by
  rw [State.passSecond_pou, Four.get_mapIdx]

theorem State.passSecond_cycleAdvance (s : State) : s.passSecond.tsg.cycleAdvance = s.tsg.cycleAdvance := by
  unfold Tsg.cycleAdvance; rw [State.passSecond_fApp]

theorem State.passSecond_actsAtInstants (o : OutId) (s : State) : s.passSecond.actsAtInstants o = s.actsAtInstants o :=
  State.actsAtInstants_congr s.passSecond_frame.2.2.2.2.2.1 (by rw [State.passSecond_get]; rfl)
    (by rw [State.passSecond_get]; rfl)

theorem State.passSecond_squelched (o : OutId) (s : State) : s.passSecond.squelched o = s.squelched o :=
  State.squelched_congr s.passSecond_timeValid s.passSecond_frame.2.1 s.passSecond_frame.2.2.2.1
    (by rw [State.passSecond_get]; rfl)

theorem State.passSecond_attached (p : Port) (s : State) : s.passSecond.attached p = s.attached p :=
  State.attached_congr (congrArg _ s.passSecond_frame.2.2.2.1) p

/-- Output o after the crossing: as its instant leaves it where it acts on one, else with its pulse elapsed. -/
theorem State.crossedOutput_eq (o : OutId) (x : State) :
    x.crossedOutput o =
      if x.crosses o then x.outputAtInstant o (pastInstant x.tsg (x.pou.get o).current) else x.pou.get o := by
  unfold State.crossedOutput
  by_cases crosses : x.crosses o
  · rw [if_pos crosses, State.crossInstant_of_crosses crosses]
  · rw [if_neg crosses, State.crossInstant_of_not_crosses crosses]

theorem State.passSecond_not_crosses (idle : s.actsAtInstants o = false) : ¬s.passSecond.crosses o := fun h => by
  rw [State.crosses, State.passSecond_actsAtInstants, idle] at h
  exact absurd h.1 (by decide)

theorem State.crossSecond_get_of_idle (idle : s.actsAtInstants o = false) :
    s.crossSecond.pou.get o = (s.pou.get o).elapse (s.cyclesToSecond * s.tsg.cycleAdvance) := by
  rw [State.crossSecond_pou_get, State.crossedOutput_eq, if_neg (State.passSecond_not_crosses idle), State.passSecond_get]

theorem State.crossSecond_nu_of_idle (idle : ∀ o : OutId, s.actsAtInstants o = false) : s.crossSecond.nu = s.nu := by
  rw [State.crossSecond, State.forOutputs, State.crossOutput_of_not_crosses (State.passSecond_not_crosses (idle 0)),
    State.crossOutput_of_not_crosses (State.passSecond_not_crosses (idle 1)),
    State.crossOutput_of_not_crosses (State.passSecond_not_crosses (idle 2)),
    State.crossOutput_of_not_crosses (State.passSecond_not_crosses (idle 3)), s.passSecond_frame.2.2.2.2.1]

theorem exec_epochBoundary {s : State} (start : s.inStart = false) (line : LineClock) :
    exec (.epochBoundary line) s = .next (s.boundary line) := by
  show execEpochBoundary line s = _
  rw [execEpochBoundary, start]
  rfl

/-- A boundary moves site time as the end of the second does, but for the applied correction and the re-run flag. -/
theorem State.boundary_tsg (line : LineClock) (s : State) :
    ∃ f, (s.boundary line).tsg = { s.passSecond.tsg with fApp := f, reRun := false } ∧
      (s.tsg.reRun = true → f = s.tsg.fApp) := by
  cases reRun : s.tsg.reRun with
  | true =>
    refine ⟨s.tsg.fApp, ?_, fun _ => rfl⟩
    rw [State.boundary_of_reRun reRun, (State.markPassed_frame _).1, State.crossSecond_tsg, ← s.passSecond_fApp]
  | false =>
    obtain ⟨f, shape⟩ := State.raiseBoundary_tsg_shape line s.crossSecond
    refine ⟨f, ?_, (by cases ·)⟩
    rw [State.boundary_of_raises reRun, (State.markPassed_frame _).1, shape, State.crossSecond_tsg, ← reRun,
      ← s.passSecond_reRun]

/-- Settles O18: the cycles to the end of the second, and what a re-run's end leaves of the other blocks. -/
theorem boundaryPassesSecond : Obligations.BoundaryPassesSecond := by
  intro s line
  refine ⟨fun start => ?_, fun start range => ⟨_, s.cyclesToSecond, exec_epochBoundary start line, ?_⟩⟩
  · show execEpochBoundary line s = _
    rw [execEpochBoundary, start]
    rfl
  · obtain ⟨f, tsg, fApp⟩ := s.boundary_tsg line
    obtain ⟨tpi, pins, free, pending⟩ := s.boundary_frame line
    obtain ⟨beyond, near⟩ := State.passSecond_spec range
    have position : (s.boundary line).tsg.position = s.passSecond.tsg.position := by rw [tsg]; rfl
    refine ⟨by rw [tsg]; exact s.passSecond_seconds, by rw [tsg], by rw [tsg]; exact s.passSecond_timeValid,
      by rw [position]; exact beyond, by rw [position]; exact near, fun reRun => ?_, tpi, pins, pending, free⟩
    have eq := State.boundary_of_reRun reRun line
    obtain ⟨-, m2, m3, m4, m5, m6, m7, -⟩ :=
      State.markPassed_frame { s.crossSecond with tsg := { s.crossSecond.tsg with reRun := false } }
    obtain ⟨c1, c2, c3, c4, c5, -⟩ := s.crossSecond_frame
    rw [← eq] at m2 m3 m4 m5 m6 m7
    refine ⟨?_, by rw [tsg]; exact fApp reRun, fun o idle => ?_, fun idle => ?_⟩
    · exact State.eq_of_fields rfl (m2.trans c1) (m3.trans c2) (m4.trans c3) (m5.trans c4) rfl rfl (m7.trans c5) tpi pins free
        pending
    · rw [eq, State.markPassed_pou, Four.get_mapIdx]
      show Output.markPassed _ (s.crossSecond.pou.get o) = _
      rw [State.crossSecond_get_of_idle idle]
      rfl
    · exact m6.trans (State.crossSecond_nu_of_idle idle)

end

end Sys2Proof.Machine
end

section
/-!
PROOFS. The outputs at a boundary (O21).
-/

namespace Sys2Proof.Machine

/-! ## The notices of one kind -/

/-- The notices of a kind stand in both sets as they stood. -/
def TenantNotices.SameOfKind (k : Nat) (n n' : TenantNotices) : Prop :=
  (n'.notices.filter fun x => x.kind == k) = (n.notices.filter fun x => x.kind == k) ∧
    (n'.pending.filter fun x => x.kind == k) = n.pending.filter fun x => x.kind == k

section
variable {k : Nat} {p : Port}

theorem TenantNotices.SameOfKind.refl (n : TenantNotices) : n.SameOfKind k n := ⟨rfl, rfl⟩

theorem TenantNotices.SameOfKind.trans {a b c : TenantNotices} (h : a.SameOfKind k b) (h' : b.SameOfKind k c) :
    a.SameOfKind k c := ⟨h'.1.trans h.1, h'.2.trans h.2⟩

/-- A filing leaves the notices of other kinds. -/
theorem fileNotice_filter {x : Notice} (ne : x.kind ≠ k) (ns : List Notice) :
    ((fileNotice x ns).filter fun y => y.kind == k) = ns.filter fun y => y.kind == k := by
  induction ns with
  | nil => simp [fileNotice, ne]
  | cons m ms ih =>
    unfold fileNotice
    split
    · simp [ne]
    · split
      next same =>
        have merged : (m.merge x).kind ≠ k := by
          rw [show (m.merge x).kind = x.kind from Report.merge_kind _ _]
          exact ne
        have old : m.kind ≠ k := same ▸ ne
        simp [merged, old]
      next => rw [List.filter_cons, List.filter_cons, ih]

theorem TenantNotices.file_sameOfKind {r : Report} (ne : r.kind ≠ k) (n : TenantNotices) : n.SameOfKind k (n.file r) := by
  unfold TenantNotices.file
  split
  · exact ⟨rfl, fileNotice_filter (x := ⟨r, 1⟩) ne _⟩
  · split
    · exact ⟨fileNotice_filter (x := ⟨r, 1⟩) ne _, rfl⟩
    · exact .refl _

theorem TenantNotices.LowsFall.sameOfKind {n n' : TenantNotices} (h : n.LowsFall n') : n.SameOfKind k n' := by
  rw [h.1]; exact ⟨rfl, rfl⟩

theorem State.judgeAll_sameOfKind (high : 1 < k) (p : Port) (s : State) : (s.nu.get p).SameOfKind k (s.judgeAll.nu.get p) := by
  refine TenantNotices.SameOfKind.trans ?_ (State.judgeAll_nu p s).sameOfKind
  unfold State.judgedNotices
  split
  · exact TenantNotices.file_sameOfKind (by rw [tolReport_kind]; split <;> omega) _
  · exact .refl _

theorem State.setE_sameOfKind (high : 1 < k) (e : Int) (p : Port) (s : State) :
    (s.nu.get p).SameOfKind k ((s.setE e).nu.get p) :=
  State.judgeAll_sameOfKind high p { s with sde := { s.sde with e := min e eCap } }

theorem State.sdeBoundary_sameOfKind (high : 1 < k) (p : Port) (a : State) :
    (a.nu.get p).SameOfKind k (a.sdeBoundary.nu.get p) := by
  by_cases holdover : a.sde.clock = .holdover
  · rw [State.sdeBoundary_of_holdover holdover]
    have start : a.predictedHoldover.nu = a.nu := by simp [State.predictedHoldover]
    exact start ▸ State.setE_sameOfKind high _ p a.predictedHoldover
  · by_cases bridge : a.sde.clock = .bridge
    · rw [State.sdeBoundary_of_bridge bridge]
      exact State.setE_sameOfKind high _ p a
    · rw [State.sdeBoundary_of_still holdover bridge]
      exact .refl _

theorem State.startRead_sameOfKind (ne : k ≠ 13) (p : Port) (a : State) :
    (a.nu.get p).SameOfKind k (a.startRead.nu.get p) := by
  unfold State.startRead
  dsimp only
  split
  · show (a.nu.get p).SameOfKind k (a.failedSample.nu.get p)
    rw [State.failedSample_nu]
    split
    · exact TenantNotices.file_sameOfKind (Ne.symm ne) _
    · exact .refl _
  · exact .refl _

theorem State.afterBoundary_sameOfKind (high : 1 < k) (ne : k ≠ 13) (p : Port) (a : State) :
    (a.nu.get p).SameOfKind k (a.afterBoundary.nu.get p) := by
  rw [State.afterBoundary_nu]
  refine (State.sdeBoundary_sameOfKind high p a).trans ?_
  have days : a.sdeBoundary.dayBoundary.nu = a.sdeBoundary.nu := (State.dayBoundary_frame _).2.2.2.2.1
  have read := State.startRead_sameOfKind ne p a.sdeBoundary.dayBoundary
  rwa [days] at read

end

/-! ## The outputs -/

section
variable {s : State} {line : LineClock}

/-- Output o once the second has passed and its crossing is acted on. -/
theorem State.crossSecond_get (o : OutId) (s : State) :
    s.crossSecond.pou.get o =
      if s.passSecond.crosses o then
        s.passSecond.outputAtInstant o (pastInstant s.passSecond.tsg (s.pou.get o).current)
      else (s.pou.get o).elapse (s.cyclesToSecond * s.tsg.cycleAdvance) := by
  rw [State.crossSecond_pou_get, State.crossedOutput_eq]
  have current : (s.passSecond.pou.get o).current = (s.pou.get o).current := by rw [State.passSecond_get]; rfl
  split
  · rw [current]
  · exact State.passSecond_get o s

theorem State.crossSecond_records (o : OutId) (s : State) :
    (s.crossSecond.pou.get o).current = (s.pou.get o).current ∧
      (s.crossSecond.pou.get o).pending = (s.pou.get o).pending ∧
      (s.crossSecond.pou.get o).resumeWait = (s.pou.get o).resumeWait := by
  rw [State.crossSecond_get]
  split
  · simp only [State.outputAtInstant, State.passSecond_get]
    exact ⟨rfl, rfl, rfl⟩
  · exact ⟨rfl, rfl, rfl⟩

theorem Output.adopt_current (x : Output) : x.adopt.current = x.pending.getD x.current := by
  unfold Output.adopt; cases x.pending <;> rfl

theorem Output.adopt_pending (x : Output) : x.adopt.pending = none := by
  unfold Output.adopt; cases x.pending <;> rfl

theorem Output.adopt_resumeWait (x : Output) : x.adopt.resumeWait = false := by
  unfold Output.adopt; cases x.pending <;> rfl

theorem Output.adopt_pulseLeft (x : Output) : x.adopt.pulseLeft = x.pulseLeft := by
  unfold Output.adopt; cases x.pending <;> rfl

theorem Output.adopt_state_of_enabled {x : Output} (h : ∀ r, x.pending = some r → r.enable = true) :
    x.adopt.state = x.state := by
  unfold Output.adopt
  cases pending : x.pending with
  | none => rfl
  | some r => exact if_pos (h r pending)

theorem Output.adopt_state_of_disabled {x : Output} {r : OutputRecord} (h : x.pending = some r) (off : r.enable = false) :
    x.adopt.state = .disabled := by
  unfold Output.adopt
  rw [h]
  simp [off]

theorem State.afterBoundary_get (o : OutId) (a : State) :
    a.afterBoundary.pou.get o = ((a.pou.get o).adopt).markPassed a.afterBoundary.tsg := by
  simp [State.afterBoundary]

end

section
variable {s : State} {line : LineClock}

theorem State.boundary_of_exec {t : State} (start : s.inStart = false) (h : exec (.epochBoundary line) s = .next t) :
    s.boundary line = t := by
  rw [exec_epochBoundary start] at h
  exact Host.Outcome.next.inj h

/-- An output after a boundary: its crossing, the adoption where the boundary is raised, and the mark. -/
theorem State.boundary_get (start : s.inStart = false) (o : OutId) :
    (s.boundary line).pou.get o =
      Output.markPassed (s.boundary line).tsg
        (if s.tsg.reRun then s.crossSecond.pou.get o else (s.crossSecond.pou.get o).adopt) := by
  cases reRun : s.tsg.reRun with
  | true =>
    rw [State.boundary_of_reRun reRun, State.markPassed_pou, Four.get_mapIdx, (State.markPassed_frame _).1]
    rfl
  | false =>
    obtain ⟨a, at', next⟩ := exec_raised ⟨start, reRun⟩ line
    rw [State.boundary_of_exec start next, State.afterBoundary_get, at'.pou]
    rfl

theorem State.passSecond_crosses_iff (o : OutId) (s : State) :
    s.passSecond.crosses o ↔
      s.actsAtInstants o = true ∧ s.passSecond.tsg.position < pastInstant s.passSecond.tsg (s.pou.get o).current ∧
        pastInstant s.passSecond.tsg (s.pou.get o).current < s.tsg.cycleAdvance := by
  have current : (s.passSecond.pou.get o).current = (s.pou.get o).current := by rw [State.passSecond_get]; rfl
  rw [State.crosses, State.passSecond_actsAtInstants, current, State.passSecond_cycleAdvance]

/-- What the crossing leaves of the pulse in progress and of the state. -/
theorem State.crossSecond_pulse (o : OutId) (s : State) :
    ((s.crossSecond.pou.get o).state =
      if s.passSecond.crosses o then s.stateAtInstant o else (s.pou.get o).state) ∧
    (s.crossSecond.pou.get o).pulseLeft =
      if s.passSecond.crosses o ∧ s.squelched o = false then
        some (pulseUnits (s.pou.get o).current - pastInstant s.passSecond.tsg (s.pou.get o).current)
      else (s.pou.get o).pulseLeft.map fun u => u - s.cyclesToSecond * s.tsg.cycleAdvance := by
  rw [State.crossSecond_get]
  by_cases crosses : s.passSecond.crosses o
  · rw [if_pos crosses, if_pos crosses]
    constructor
    · show (if s.passSecond.squelched o then OutputState.squelched else .active) = _
      rw [State.passSecond_squelched]; rfl
    · show (if s.passSecond.squelched o then (s.passSecond.pou.get o).pulseLeft
        else some (pulseUnits (s.passSecond.pou.get o).current - _)) = _
      rw [if_congr (and_iff_right crosses) rfl rfl, State.passSecond_squelched, State.passSecond_get]
      cases s.squelched o <;> rfl
  · rw [if_neg crosses, if_neg crosses, if_neg fun h => crosses h.1]
    exact ⟨rfl, rfl⟩

/-- A tenant's notices after the crossing of output o at the end of the second. -/
def State.crossTold (o : OutId) (s : State) (n : TenantNotices) : TenantNotices :=
  if s.passSecond.crosses o ∧ squelchPosts (s.pou.get o).state (s.stateAtInstant o) = true then
    n.file (squelchReport o (s.stateAtInstant o))
  else n

theorem State.crossFiled_passSecond (o : OutId) (s : State) (n : TenantNotices) :
    s.passSecond.crossFiled o n = s.crossTold o n := by
  have state : s.passSecond.stateAtInstant o = s.stateAtInstant o := by
    unfold State.stateAtInstant; rw [State.passSecond_squelched]
  have before : (s.passSecond.pou.get o).state = (s.pou.get o).state := by rw [State.passSecond_get]; rfl
  rw [State.crossFiled, State.crossTold, state, before]

theorem State.crossSecond_nu_get (p : Port) (s : State) :
    s.crossSecond.nu.get p =
      if s.attached p = true then s.crossTold 3 (s.crossTold (tenantOut p) (s.nu.get p)) else s.nu.get p := by
  rw [State.crossSecond, State.crossOutputs_nu_get, State.passSecond_attached, State.crossFiled_passSecond,
    State.crossFiled_passSecond, s.passSecond_frame.2.2.2.2.1]

end

/-- Settles O21: each output's crossing, then the adoption where the boundary is raised, then the mark. -/
theorem boundaryAdoptsOutputs : Obligations.BoundaryAdoptsOutputs := by
  intro s line
  refine ⟨fun raises => ?_, fun start range => ⟨_, exec_epochBoundary start line, ?_⟩⟩
  · obtain ⟨a, at', next⟩ := exec_raised raises line
    refine ⟨_, next, fun o => ?_⟩
    obtain ⟨current, pending, -⟩ := s.crossSecond_records o
    rw [State.afterBoundary_get, at'.pou]
    refine ⟨Output.adopt_pending _, Output.adopt_resumeWait _, ?_, fun r asked off => ?_⟩
    · show (Output.adopt _).current = _
      rw [Output.adopt_current, current, pending]
    · exact Output.adopt_state_of_disabled (pending.trans asked) off
  · obtain ⟨f, tsg, -⟩ := s.boundary_tsg line
    obtain ⟨total, -⟩ := State.passSecond_spec range
    have position : (s.boundary line).tsg.position = s.passSecond.tsg.position := by rw [tsg]; rfl
    have past : ∀ r, pastInstant (s.boundary line).tsg r = pastInstant s.passSecond.tsg r := pastInstant_congr position
    dsimp only
    have gone : unitsPerSecond + (s.boundary line).tsg.position - s.tsg.position =
        s.cyclesToSecond * s.tsg.cycleAdvance := by rw [position]; omega
    have crossed : ∀ o : OutId,
        (s.actsAtInstants o && decide ((s.boundary line).tsg.position < pastInstant (s.boundary line).tsg (s.pou.get o).current) &&
          decide (pastInstant (s.boundary line).tsg (s.pou.get o).current < s.tsg.cycleAdvance)) =
        decide (s.passSecond.crosses o) := by
      intro o
      rw [past, position, Bool.eq_iff_iff, decide_eq_true_iff, State.passSecond_crosses_iff]
      simp only [Bool.and_eq_true, decide_eq_true_eq, and_assoc]
    simp only [crossed, gone]
    refine ⟨fun o => ?_, fun p => ?_⟩
    · rw [past (s.pou.get o).current]
      obtain ⟨current, pending, resume⟩ := s.crossSecond_records o
      obtain ⟨state, pulse⟩ := s.crossSecond_pulse o
      have out := State.boundary_get start (line := line) o
      generalize (s.boundary line).pou.get o = new at out ⊢
      subst out
      generalize s.crossSecond.pou.get o = x at current pending resume state pulse ⊢
      simp only [Output.markPassed, Bool.and_eq_true, decide_eq_true_eq, Bool.not_eq_true', ← pulse]
      cases reRun : s.tsg.reRun with
      | true =>
        refine ⟨current, pending, resume, fun _ => state, rfl, rfl⟩
      | false =>
        refine ⟨?_, Output.adopt_pending x, Output.adopt_resumeWait x, fun enabled => ?_, Output.adopt_pulseLeft x, rfl⟩
        · exact (Output.adopt_current x).trans (by rw [pending, current]; rfl)
        · refine (Output.adopt_state_of_enabled fun r held => ?_).trans state
          exact (enabled r (pending ▸ held)).resolve_right (by decide)
    · have filed := s.crossSecond_nu_get p
      simp only [State.crossTold] at filed
      simp only [Bool.and_eq_true, decide_eq_true_eq, ← filed]
      cases reRun : s.tsg.reRun with
      | true =>
        have nu : (s.boundary line).nu = s.crossSecond.nu := by
          rw [State.boundary_of_reRun reRun]
          exact (State.markPassed_frame _).2.2.2.2.2.1
        rw [nu]
        exact ⟨fun _ => rfl, rfl, rfl⟩
      | false =>
        obtain ⟨a, at', next⟩ := exec_raised ⟨start, reRun⟩ line
        rw [State.boundary_of_exec start next, ← at'.nu]
        exact ⟨(by cases ·), State.afterBoundary_sameOfKind (by decide) (by decide) p a⟩

end Sys2Proof.Machine
end

section
/-!
PROOFS. Expiries, the store's report and the pulse events (O23, O37, O38).
-/

namespace Sys2Proof.Machine

/-! ## Clock changes -/

/-- The clock enters another state: the SDE as it is left, then the latches and CLOCK_STATE (R61). -/
theorem State.enterClock_of_ne {c : ClockState} {s : State} (ne : c ≠ s.sde.clock) :
    (s.enterClock c).sde =
      { s.sde with
        clock := c, assisted := false
        stepNow := s.sde.stepNow && s.sde.clock != .acquire
        stepDecisionPending := s.sde.stepDecisionPending && s.sde.clock != .acquire } := by
  unfold State.enterClock
  rw [if_neg ne]
  rfl

/-- A change that the latches follow and that is then told to every attached tenant (R61, R208). -/
theorem State.watchedPost_nu_get (x : State) (r : Report) (p : Port) :
    (x.watchLatches.postAll r).nu.get p =
      if x.attached p = true then
        { x.nu.get p with latches := (x.nu.get p).latches.follow (x.armedLatches p) }.file r
      else x.nu.get p := by
  have attached : x.watchLatches.attached p = x.attached p := rfl
  rw [State.postAll_nu_get, State.watchLatches_get, attached]
  cases x.attached p <;> rfl

theorem State.enterClock_nu_of_ne {c : ClockState} {s : State} (ne : c ≠ s.sde.clock) (p : Port) :
    (s.enterClock c).nu.get p =
      if s.attached p = true then
        let l := (s.nu.get p).latches
        { s.nu.get p with
          latches :=
            { l with
              timeValid := l.timeValid && s.tsg.timeValid, inTolerance := l.inTolerance && s.sde.tol.get p
              locked := l.locked && decide (c = ClockState.locked)
              ovenSettled := l.ovenSettled && decide (s.spm.oven = OvenState.settled) } }.file
          (.clockState c false s.tsg.timeValid)
      else s.nu.get p := by
  unfold State.enterClock
  rw [if_neg ne]
  exact State.watchedPost_nu_get _ _ p

/-- Entry to HOLDOVER from BRIDGE keeps E and takes the anchor from F_avg (R58, R110). -/
theorem State.enterHoldover_of_bridge {s : State} (h : s.sde.clock = .bridge) :
    s.enterHoldover =
      State.takeAnchor s.sde.fAvg
        (State.enterClock .holdover { s with sde := { s.sde with decisionPending := false, bridgeRemaining := 0 } }) := by
  have kept : (s.sde.clock == .bridge) = true := by rw [h]; rfl
  have fAvg : (State.enterClock .holdover
      { s with sde := { s.sde with decisionPending := false, bridgeRemaining := 0 } }).sde.fAvg = s.sde.fAvg := by
    rw [State.enterClock_of_ne (by rw [h]; decide)]
  unfold State.enterHoldover
  dsimp only
  rw [if_pos kept, fAvg]

theorem State.enterHoldover_sde_of_bridge {s : State} (h : s.sde.clock = .bridge) :
    s.enterHoldover.sde =
      { s.sde with
        clock := .holdover, decisionPending := false, bridgeRemaining := 0, assisted := false, anchorCorr := s.sde.fAvg
        anchorBin := s.currentBin, anchorSeconds := s.tsg.seconds, hours := 0 } := by
  rw [State.enterHoldover_of_bridge h, State.takeAnchor_sde]
  obtain ⟨b, hb⟩ : ∃ b : State, b = { s with sde := { s.sde with decisionPending := false, bridgeRemaining := 0 } } :=
    ⟨_, rfl⟩
  rw [← hb]
  have away : ClockState.holdover ≠ b.sde.clock := by rw [hb]; dsimp only; rw [h]; decide
  obtain ⟨tsg, -, ols, -⟩ := State.enterClock_frame .holdover b
  rw [State.currentBin_congr ols, tsg, State.enterClock_of_ne away, hb]
  simp only [h, show (ClockState.bridge != ClockState.acquire) = true from rfl, Bool.and_true]
  rfl

/-! ## Expiries -/

theorem exec_expiry {s : State} (start : s.inStart = false) (b : Bool) (t : State) :
    (Host.Outcome.next (if !s.inStart && b then t else s) : Host.Outcome State Fault Refusal) =
      .next (if b then t else s) := by
  rw [start]; rfl

/-- Settles O23: each expiry by its condition and what it does. -/
theorem expiriesAct : Obligations.ExpiriesAct := by
  intro s
  refine ⟨fun n => ⟨fun start disqualified ended => ?_, fun standing => ?_⟩, fun start bridge ended => ?_,
    fun r start pending age => ?_, fun start warming long clear => ?_, rfl⟩
  · show Host.Outcome.next _ = _
    rw [exec_expiry start, State.holdOffDue, disqualified, ended]
    rfl
  · show Host.Outcome.next _ = _
    have notDue : s.holdOffDue n = false := by
      rw [State.holdOffDue, Bool.and_eq_false_iff, beq_eq_false_iff_ne, beq_eq_false_iff_ne]
      exact standing
    rw [notDue, Bool.and_false]
    rfl
  · refine ⟨s.enterHoldover, ?_, ?_, fun p => ?_, ?_⟩
    · show Host.Outcome.next _ = _
      rw [exec_expiry start, State.bridgeDue, bridge, ended]
      rfl
    · rw [State.enterHoldover_sde_of_bridge bridge, ← ended]
    · rw [State.enterHoldover_of_bridge bridge]
      show (State.enterClock .holdover _).nu.get p = _
      rw [State.enterClock_nu_of_ne (by rw [bridge]; decide)]
      simp only [show decide (ClockState.holdover = ClockState.locked) = false from rfl, Bool.and_false]
      rfl
    · obtain ⟨h1, h2, h3, h4, h5, h6, h7, h8, h9, h10⟩ := s.enterHoldover_frame
      exact State.eq_of_fields h1 h2 rfl h3 h4 rfl h5 h6 h7 h8 h9 h10
  · refine ⟨s.cancelJoint .expired, ?_, ?_, fun p => ?_⟩
    · show Host.Outcome.next _ = _
      rw [exec_expiry start, State.jointDue, pending]
      simp [age]
    · rw [State.cancelJoint, pending]; rfl
    · rw [State.cancelJoint, pending]
      exact (State.post_nu_get _ _ _ _).trans (if_congr Bool.and_eq_true_iff rfl rfl)
  · refine ⟨s.setOvenFault, ?_, rfl, fun k seen open' => ?_, rfl, fun p => ?_⟩
    · show Host.Outcome.next _ = _
      rw [exec_expiry start, State.ovenFaultDue, warming, long, clear]
      rfl
    · show s.spm.summary.map _ = _
      rw [seen, Option.map_some, KeepAliveSummary.seeFault, open']
      rfl
    · show (State.postAll _ _).nu.get p = _
      rw [State.postAll_nu_get]
      show (if s.attached p = true then (s.nu.get p).file (.oven s.spm.oven true) else s.nu.get p) = _
      rw [warming]

end Sys2Proof.Machine
end

section
/-!
PROOFS. The phases of a write of the retained record, and the instants and the ends of the output pulses (O37, O38).
-/

namespace Sys2Proof.Machine

variable {s : State} {w : RetainedWrite} {o : OutId} {p : Port}

/-! ## WRITE_COMPLETION -/

/-- The learner after a completed write: the writer acts by Table 5-8. -/
theorem State.afterWrite_ols (failed : Bool) (x : State) :
    (x.afterWrite failed).ols =
      { x.ols with
        rewritePending := false
        retryDue := failed && !x.ols.rewritePending && !x.ols.retryDue
        writing :=
          if x.ols.rewritePending = true ∨ failed = true ∧ x.ols.retryDue = false then
            some { content := x.retainedContent, phase := .invalidate }
          else none } := by
  unfold State.afterWrite
  cases pending : x.ols.rewritePending with
  | true => simp [State.retainedContent]
  | false => cases failed <;> cases due : x.ols.retryDue <;> simp [State.retainedContent, pending]

theorem State.afterWrite_shape (failed : Bool) (x : State) :
    x.afterWrite failed = { x with ols := (x.afterWrite failed).ols } := by
  unfold State.afterWrite State.startWrite
  split
  · rfl
  · split <;> rfl

theorem State.afterWrite_nu (failed : Bool) (x : State) : (x.afterWrite failed).nu = x.nu := by
  rw [State.afterWrite_shape]

/-- The record of a content sums to 65,535. -/
theorem RetainedContent.record_sums (c : RetainedContent) :
    ∃ i, c.record.integrity = some i ∧ wordSum (c.record.format :: c.record.content.words) + i = 0xFFFF :=
  ⟨_, rfl, by rw [add_comm]; exact BitVec.sub_add_cancel _ _⟩

theorem exec_writeCompletion (start : s.inStart = false) (writing : s.ols.writing = some w) (r : StoreResult) :
    exec (.writeCompletion r) s = .next (s.storeReports w r) := by
  show execWriteCompletion r s = _
  unfold execWriteCompletion
  rw [start, writing]

/-- The write ends: what its end leaves, as the store failed it or not. -/
def State.writeEnded (w : RetainedWrite) (failed : Bool) (s : State) : State :=
  State.afterWrite failed (if failed then s.writeFailed else s.writeOk w.content)

theorem State.writeEnded_shape (w : RetainedWrite) (failed : Bool) (s : State) :
    s.writeEnded w failed = { s with ols := (s.writeEnded w failed).ols, nu := (s.writeEnded w failed).nu } := by
  unfold State.writeEnded
  rw [State.afterWrite_shape]
  cases failed <;> rfl

theorem State.storeReports_of_end {result : StoreResult} (ends : result ≠ .phaseWritten ∨ w.phase = .integrity) :
    s.storeReports w result = s.writeEnded w (decide (result = .failed)) := by
  match result, ends with
  | .ok, _ => rfl
  | .failed, _ => rfl
  | .phaseWritten, .inr last =>
    rw [State.storeReports, State.endWritePhase, last]
    rfl

/-- Settles O37: by the phase that the store reports written, or by the write's end. -/
theorem writeCompletes : Obligations.WriteCompletes := by
  intro s result
  refine ⟨fun idle => ?_, fun w start writing => ⟨fun more => ?_, fun ends => ?_⟩⟩
  · show execWriteCompletion result s = _
    unfold execWriteCompletion
    rw [idle]
    cases s.inStart <;> rfl
  · obtain ⟨written, phase⟩ := not_or.mp more
    obtain rfl : result = .phaseWritten := not_not.mp written
    refine ⟨s.endWritePhase w, exec_writeCompletion start writing _, ?_⟩
    unfold State.endWritePhase
    match at' : w.phase with
    | .invalidate => exact ⟨rfl, rfl, fun _ => rfl, (by cases ·)⟩
    | .content => exact ⟨rfl, rfl, (by cases ·), fun _ => rfl⟩
    | .integrity => exact absurd at' phase
  · obtain ⟨failed, is⟩ : ∃ failed : Bool, result = .failed ↔ failed = true := ⟨_, decide_eq_true_iff.symm⟩
    refine ⟨s.writeEnded w failed, ?_, State.writeEnded_shape w failed s, ?_⟩
    · rw [exec_writeCompletion start writing, State.storeReports_of_end ends]
      simp only [is, Bool.decide_eq_true]
    · simp only [ne_eq, is, Bool.decide_eq_true]
      cases failed with
      | true =>
        rw [State.writeEnded, State.afterWrite_ols, State.afterWrite_nu]
        refine ⟨rfl, fun h => absurd rfl h, fun _ => ⟨rfl, fun p => State.postAll_nu_get _ _ _⟩, rfl, rfl, rfl⟩
      | false =>
        rw [State.writeEnded, State.afterWrite_ols, State.afterWrite_nu]
        obtain ⟨i, integrity, sums⟩ := w.content.record_sums
        exact ⟨rfl, fun _ => ⟨⟨w.content.record, i, rfl, rfl, rfl, integrity, sums⟩, rfl⟩, (by cases ·), rfl, rfl, rfl⟩

/-! ## Pulse instants -/

/-- The squelch condition of an output, read from the flags of the state. -/
theorem State.squelched_eq (o : OutId) (s : State) :
    s.squelched o =
      match ownerOf o with
      | some p =>
        match (s.pou.get o).current.mode with
        | .none => false
        | .invalid => !s.tsg.timeValid
        | .tolerance => !s.sde.tol.get p
      | none => !s.tsg.timeValid || (s.tru.policy.squelch && decide (s.tru.policy.lCom < s.sde.e)) := by
  unfold State.squelched
  cases ownerOf o with
  | none => rfl
  | some p => cases (s.pou.get o).current.mode <;> rfl

theorem squelchPosts_iff (old new : OutputState) :
    squelchPosts old new = true ↔ old ≠ new ∧ ¬(old = .disabled ∧ new = .active) := by
  cases old <;> cases new <;> decide

theorem State.cyclesWithin_of_fits {n : Nat} (range : s.timeInRange) (fits : fitsInSecond s.tsg n = true) :
    s.cyclesWithin n = n := by
  have positive := (State.cycleAdvance_bounds range).1
  have fits := of_decide_eq_true fits
  refine Nat.min_eq_left ((Nat.le_div_iff_mul_le (by omega)).mpr ?_)
  omega

/-- What passes a multiple of a period by less than a step lies past it by less than that step. -/
theorem emod_lt_of_overshoot {x period reach step : Int} (positive : 0 < period) (reaches : period - x % period ≤ reach)
    (overshoot : reach < period - x % period + step) : (x + reach) % period < step := by
  have split : x + reach = reach - (period - x % period) + period * (x / period + 1) := by
    rw [Int.mul_add]
    have := Int.emod_add_mul_ediv x period
    omega
  rw [split, Int.add_mul_emod_self_left]
  have rest := Int.emod_add_mul_ediv (reach - (period - x % period)) period
  have whole := Int.mul_nonneg (Int.le_of_lt positive)
    (Int.ediv_nonneg (a := reach - (period - x % period)) (b := period) (by omega) (Int.le_of_lt positive))
  omega

/-- The cycles to the next instant pass it by less than one cycle. -/
theorem pastInstant_of_cyclesToInstant {r : OutputRecord} (range : s.timeInRange) (interval : 1 ≤ r.interval)
    (fits : fitsInSecond s.tsg (cyclesToInstant s.tsg r) = true) :
    pastInstant (s.advanceCycles (cyclesToInstant s.tsg r)).tsg r < s.tsg.cycleAdvance := by
  have bounds := (State.cycleAdvance_bounds range).1
  have ⟨reaches, overshoot⟩ :=
    ceilDiv_spec (intervalUnits r.interval - pastInstant s.tsg r) (b := s.tsg.cycleAdvance) (by omega)
  have positive : 0 < intervalUnits r.interval := by unfold intervalUnits unitsPerPs; omega
  have moved : (s.advanceCycles (cyclesToInstant s.tsg r)).tsg.position =
      s.tsg.position + cyclesToInstant s.tsg r * s.tsg.cycleAdvance := by
    rw [State.advanceCycles_position, State.cyclesWithin_of_fits range fits]
  have below : pastInstant s.tsg r < intervalUnits r.interval := by
    have := Int.emod_lt_of_pos ((s.tsg.position : Int) - r.offset * unitsPerPs) (Int.natCast_pos.mpr positive)
    have := Int.emod_nonneg ((s.tsg.position : Int) - r.offset * unitsPerPs) (Int.natCast_ne_zero.mpr positive.ne')
    unfold pastInstant
    omega
  have before : (pastInstant s.tsg r : Int) =
      ((s.tsg.position : Int) - r.offset * unitsPerPs) % (intervalUnits r.interval : Int) :=
    Int.toNat_of_nonneg (Int.emod_nonneg _ (Int.natCast_ne_zero.mpr positive.ne'))
  have lands := emod_lt_of_overshoot (x := (s.tsg.position : Int) - r.offset * unitsPerPs)
    (reach := (cyclesToInstant s.tsg r * s.tsg.cycleAdvance : Nat)) (step := s.tsg.cycleAdvance)
    (Int.natCast_pos.mpr positive) (by rw [← before]; unfold cyclesToInstant; omega)
    (by rw [← before]; unfold cyclesToInstant; omega)
  unfold pastInstant at *
  rw [moved, Nat.cast_add, add_sub_right_comm]
  omega

/-- Where site time only advances within the second, an output keeps its records and its state. -/
theorem State.advanceCycles_get (n : Nat) (o : OutId) (s : State) :
    (s.advanceCycles n).pou.get o =
      { s.pou.get o with
        pulseLeft := ((s.advanceCycles n).pou.get o).pulseLeft
        passed := ((s.advanceCycles n).pou.get o).passed } := by
  rw [State.advanceCycles_pou, Four.get_mapIdx]
  obtain ⟨current, pending, state, resume⟩ :=
    Output.advance_frame (s.advanceCycles n).tsg (s.cyclesWithin n) s.tsg.cycleAdvance (s.pou.get o)
  simp only [← current, ← pending, ← state, ← resume]

theorem State.advanceCycles_squelched (n : Nat) (o : OutId) (s : State) : (s.advanceCycles n).squelched o = s.squelched o :=
  State.squelched_congr (s.advanceCycles_timeValid n) (s.advanceCycles_frame n).2.1 (s.advanceCycles_frame n).2.2.2.1
    (by rw [s.advanceCycles_get n o])

theorem State.advanceCycles_attached (n : Nat) (p : Port) (s : State) : (s.advanceCycles n).attached p = s.attached p :=
  State.attached_congr (congrArg _ (s.advanceCycles_frame n).2.2.2.1) p

theorem State.evaluateOut_shape (o : OutId) (past : Nat) (a : State) :
    a.evaluateOut o past = { a with pou := (a.evaluateOut o past).pou, nu := (a.evaluateOut o past).nu } := by
  obtain ⟨h1, h2, h3, h4, h5, h6, h7, h8, h9, h10⟩ := a.evaluateOut_frame o past
  exact State.eq_of_fields h1 h2 h3 h4 h5 rfl rfl h6 h7 h8 h9 h10

theorem State.evaluateOut_get (o : OutId) (past : Nat) (a : State) :
    (a.evaluateOut o past).pou.get o = a.outputAtInstant o past := by
  rw [State.evaluateOut_pou, Four.get_set, if_pos rfl]

theorem State.evaluateOut_get_of_ne {q : OutId} (ne : q ≠ o) (past : Nat) (a : State) :
    (a.evaluateOut o past).pou.get q = a.pou.get q := by
  rw [State.evaluateOut_pou, Four.get_set, if_neg ne]

/-- The state in which PULSE_INSTANT evaluates the output, and how far the instant lies behind it. -/
def State.EvaluatesAt (o : OutId) (s a : State) (past : Nat) : Prop :=
  (s.pou.get o).passed = some past ∧ a = s ∨
    (s.pou.get o).passed = none ∧ fitsInSecond s.tsg (cyclesToInstant s.tsg (s.pou.get o).current) = true ∧
      a = s.advanceCycles (cyclesToInstant s.tsg (s.pou.get o).current) ∧ past = pastInstant a.tsg (s.pou.get o).current

section
variable {a : State} {past : Nat}

theorem exec_pulseInstant (acts : s.actsAtInstants o = true) (at' : s.EvaluatesAt o a past) :
    exec (.pulseInstant o) s = .next (a.evaluateOut o past) := by
  show execPulseInstant o s = _
  unfold execPulseInstant State.dueInstant
  rw [if_pos acts]
  obtain ⟨passed, rfl⟩ | ⟨passed, fits, rfl, rfl⟩ := at'
  · rw [passed]
  · rw [passed, acts, fits]
    rfl

/-- Where the output is evaluated its records, its state and what its squelch condition reads are as they were. -/
theorem State.EvaluatesAt.unchanged (at' : s.EvaluatesAt o a past) :
    (a.pou.get o).current = (s.pou.get o).current ∧ (a.pou.get o).pending = (s.pou.get o).pending ∧
      (a.pou.get o).resumeWait = (s.pou.get o).resumeWait ∧ (a.pou.get o).state = (s.pou.get o).state ∧
      a.squelched o = s.squelched o ∧ a.nu = s.nu ∧ ∀ p, a.attached p = s.attached p := by
  obtain ⟨-, rfl⟩ | ⟨-, -, rfl, -⟩ := at'
  · exact ⟨rfl, rfl, rfl, rfl, rfl, rfl, fun _ => rfl⟩
  · have out := s.advanceCycles_get (cyclesToInstant s.tsg (s.pou.get o).current) o
    exact ⟨by rw [out], by rw [out], by rw [out], by rw [out], s.advanceCycles_squelched _ o,
      (s.advanceCycles_frame _).2.2.2.2.1, fun p => s.advanceCycles_attached _ p⟩

/-- The output after its evaluation, by whether its squelch condition holds, and what it posts. -/
theorem State.EvaluatesAt.evaluated (at' : s.EvaluatesAt o a past) {holds : Bool} (condition : s.squelched o = holds) :
    let old := s.pou.get o
    let new := (a.evaluateOut o past).pou.get o
    new.current = old.current ∧ new.pending = old.pending ∧ new.resumeWait = old.resumeWait ∧ new.passed = none ∧
      new.state = (if holds then .squelched else .active) ∧
      (holds = true → new.pulseLeft = (a.pou.get o).pulseLeft) ∧
      (holds = false → new.pulseLeft = some (pulseUnits old.current - past)) ∧
      ∀ p : Port,
        (a.evaluateOut o past).nu.get p =
          (if s.attached p = true ∧ (ownerOf o = none ∨ ownerOf o = some p) ∧ old.state ≠ new.state ∧
              ¬(old.state = .disabled ∧ new.state = .active) then
            (s.nu.get p).file (squelchReport o new.state)
          else s.nu.get p) := by
  intro old new
  obtain ⟨current, pending, resume, state, squelched, nu, attached⟩ := at'.unchanged
  have evaluated : new = a.outputAtInstant o past := a.evaluateOut_get o past
  have held : a.squelched o = holds := squelched.trans condition
  have newState : new.state = a.stateAtInstant o := by rw [evaluated]; rfl
  rw [newState]
  refine ⟨by rw [evaluated]; exact current, by rw [evaluated]; exact pending, by rw [evaluated]; exact resume,
    by rw [evaluated]; rfl, by rw [State.stateAtInstant, held], fun holds => ?_, fun clear => ?_, fun p => ?_⟩
  · rw [evaluated, State.outputAtInstant, if_pos (held.trans holds)]
  · rw [evaluated, State.outputAtInstant, if_neg (by rw [held, clear]; decide), current]
  · rw [State.evaluateOut_nu_get, attached, nu, state]
    exact if_congr (by rw [squelchPosts_iff]) rfl rfl

end

/-- Settles O38: the output is evaluated where its instant lies, and a pulse's end lowers the pin. -/
theorem pulsesBeginAndEnd : Obligations.PulsesBeginAndEnd := by
  intro s o
  refine ⟨fun idle => ?_, fun unmarked beyond => ?_, fun a past acts at' => ?_, fun low => ?_, fun u high =>
    ⟨fun beyond => ?_, fun fits => ?_⟩⟩
  · show execPulseInstant o s = _
    unfold execPulseInstant State.dueInstant
    rw [idle]; rfl
  · show execPulseInstant o s = _
    unfold execPulseInstant State.dueInstant
    rw [unmarked, ite_self, beyond, Bool.and_false]; rfl
  · obtain ⟨current, pending, resume, state, squelched, nu, attached⟩ := State.EvaluatesAt.unchanged at'
    refine ⟨_, exec_pulseInstant acts at', a.evaluateOut_shape o past, fun q ne => State.evaluateOut_get_of_ne ne past a,
      fun unmarked range interval => ?_, ?_⟩
    · obtain ⟨passed, -⟩ | ⟨-, fits, rfl, rfl⟩ := at'
      · exact absurd (unmarked.symm.trans passed) (by simp)
      · exact pastInstant_of_cyclesToInstant range interval fits
    · exact State.EvaluatesAt.evaluated at' (State.squelched_eq o s)
  · show execPulseWidthEnd o s = _
    unfold execPulseWidthEnd
    rw [low]
  · show execPulseWidthEnd o s = _
    unfold execPulseWidthEnd
    rw [high]
    exact if_neg (by rw [beyond]; decide)
  · refine ⟨(s.advanceCycles (ceilDiv u s.tsg.cycleAdvance)).endPulse o, ?_, rfl, ?_, fun q ne => ?_⟩
    · show execPulseWidthEnd o s = _
      unfold execPulseWidthEnd
      rw [high]
      exact if_pos fits
    · show (Four.set _ o _).get o = _
      rw [Four.get_set, if_pos rfl, s.advanceCycles_get]
    · show (Four.set _ o _).get q = _
      rw [Four.get_set, if_neg ne]

end Sys2Proof.Machine
end

section
/-!
PROOFS. The power and oven lines (O42).
-/

namespace Sys2Proof.Machine

variable {s : State} {p : Port}

/-! ## The oven -/

theorem State.ovenSettles_shape (s : State) :
    s.ovenSettles =
      { s with spm := { s.spm with oven := .settled, soak := 1800, warmUp := 0, ovenFault := false }, nu := s.ovenSettles.nu } :=
  rfl

theorem State.ovenOn_shape (s : State) : s.ovenOn = { s with spm := s.ovenOn.spm, nu := s.ovenOn.nu } := by
  unfold State.ovenOn
  split <;> rfl

theorem State.ovenOn_spm (s : State) :
    s.ovenOn.spm =
      if s.pins.ovenOk = true then { s.spm with oven := .settled, soak := 1800, warmUp := 0, ovenFault := false }
      else { s.spm with oven := .warming, warmUp := 0 } := by
  unfold State.ovenOn
  split <;> rfl

theorem State.ovenOff_shape (s : State) :
    s.ovenOff =
      { s with spm := { s.spm with oven := .off, warmUp := 0, soak := 0, ovenFault := false }, nu := s.ovenOff.nu } := by
  unfold State.ovenOff
  split <;> rfl

/-- The oven after it is switched on: SETTLED at once where OVEN_OK is high (R174). -/
theorem State.ovenOn_oven (s : State) :
    s.ovenOn.spm.power = s.spm.power ∧ s.ovenOn.spm.summary = s.spm.summary ∧
      s.ovenOn.spm.oven = (if s.pins.ovenOk then .settled else .warming) ∧ s.ovenOn.spm.warmUp = 0 ∧
      (s.pins.ovenOk = true → s.ovenOn.spm.soak = 1800 ∧ s.ovenOn.spm.ovenFault = false) := by
  rw [State.ovenOn_spm]
  by_cases ok : s.pins.ovenOk = true
  · rw [if_pos ok, if_pos ok]; exact ⟨rfl, rfl, rfl, rfl, fun _ => ⟨rfl, rfl⟩⟩
  · rw [if_neg ok, if_neg ok]; exact ⟨rfl, rfl, rfl, rfl, fun h => absurd h ok⟩

/-! ## The lines -/

/-- Notices filed with the latch-lows that follow a change of the oven state. -/
theorem followed_file {x : State} {n : TenantNotices} {r : Report} {clock : Bool} {oven : Bool}
    (clockIs : (x.armedLatches p).locked = clock)
    (ovenIs : (n.latches.ovenSettled && (x.armedLatches p).ovenSettled) = oven) :
    TenantNotices.file { n with latches := n.latches.follow (x.armedLatches p) } r =
      TenantNotices.file
        { n with
          latches :=
            { n.latches with
              timeValid := n.latches.timeValid && x.tsg.timeValid
              inTolerance := n.latches.inTolerance && x.sde.tol.get p
              locked := n.latches.locked && clock, ovenSettled := oven } } r := by
  rw [← ovenIs, ← clockIs]
  rfl

/-- A line acts where its condition holds, and else only its level changes. -/
theorem line_acts {x y : State} {b : Bool} (h : b = true) :
    (if b then (.next x : Host.Outcome State Fault Refusal) else .next y) = .next x := if_pos h

theorem line_idle {x y : State} {b : Bool} (h : b = false) :
    (if b then (.next x : Host.Outcome State Fault Refusal) else .next y) = .next y := if_neg (by rw [h]; decide)

/-- Settles O42: each line, where it acts and where its level alone changes. -/
theorem powerAndOvenLinesAct : Obligations.PowerAndOvenLinesAct := by
  intro s
  refine ⟨fun idle => line_idle ?_, fun start out => ?_, fun idle => line_idle ?_, fun idle => line_idle ?_,
    fun start keepalive => ?_, fun start coldkeep => ?_, fun idle => line_idle ?_, fun idle => line_idle ?_,
    fun start warming => ?_, fun start settled => ?_⟩
  · rcases idle with start | run
    · rw [start]; rfl
    · rw [run]; simp
  · have out' : (s.spm.power != .run) = true := bne_iff_ne.mpr out
    refine ⟨_, line_acts (by rw [start, out']; rfl), ?_⟩
    unfold State.returnToRun
    by_cases off : s.spm.oven = .off
    · have off' : ({ s with pins := { s.pins with mainsGood := true } } : State).spm.oven = .off := off
      simp only [if_pos off']
      obtain ⟨power, summary, oven, warmUp, ok⟩ :=
        (State.resumeRun { s with pins := { s.pins with mainsGood := true } }).ovenOn_oven
      refine ⟨?_, fun o => ?_, power, summary, fun on => absurd off on, fun _ => ⟨oven, warmUp, ok⟩⟩
      · rw [State.ovenOn_shape]; rfl
      · rw [State.ovenOn_shape]; exact Four.get_mapIdx _ _ _
    · have off' : ¬({ s with pins := { s.pins with mainsGood := true } } : State).spm.oven = .off := off
      simp only [if_neg off']
      exact ⟨rfl, fun o => Four.get_mapIdx _ _ _, rfl, rfl, fun _ => ⟨rfl, rfl⟩, fun h => absurd h off⟩
  · rcases idle with start | away
    · rw [start]; rfl
    · simp [away]
  · rcases idle with start | away
    · rw [start]; rfl
    · simp [away]
  · refine ⟨_, line_acts (by rw [start, keepalive]; rfl), ?_, ?_⟩
    · rw [State.enterColdKeep, State.ovenOff_shape]
    · rw [State.enterColdKeep, State.ovenOff_shape]
      rfl
  · refine ⟨_, line_acts (by rw [start, coldkeep]; rfl), ?_, ?_⟩
    · rw [State.leaveColdKeep, State.ovenOn_shape]
    · obtain ⟨power, summary, oven, warmUp, ok⟩ := State.ovenOn_oven
        { s with pins := { s.pins with battLow := false }, spm := { s.spm with power := .keepalive } }
      exact ⟨power, oven, warmUp, ok, summary⟩
  · rcases idle with start | away
    · rw [start]; rfl
    · simp [away]
  · rcases idle with start | away
    · rw [start]; rfl
    · simp [away]
  · refine ⟨_, line_acts (by rw [start, warming]; rfl), State.ovenSettles_shape _, rfl, fun p => ?_⟩
    refine (State.watchedPost_nu_get _ _ p).trans (if_congr Iff.rfl (followed_file rfl ?_) rfl)
    exact Bool.and_true _
  · refine ⟨_, line_acts (by rw [start, settled]; rfl), rfl, rfl, fun p => ?_⟩
    refine (State.watchedPost_nu_get _ _ p).trans (if_congr Iff.rfl (followed_file rfl ?_) rfl)
    exact Bool.and_false _

end Sys2Proof.Machine
end

section
/-!
PROOFS. Entry to keep-alive (O41).
-/

namespace Sys2Proof.Machine

variable {s x y : State} {p q : Port}

/-! ## What does not reach a detached tenant -/

/-- Between the states tenant p, detached in the first, keeps its record, its notices and its tolerance flag. -/
def State.LeavesOut (p : Port) (x y : State) : Prop :=
  x.attached p = false → y.tru.tenants.get p = x.tru.tenants.get p ∧ y.nu.get p = x.nu.get p ∧ y.sde.tol.get p = x.sde.tol.get p

namespace State.LeavesOut

theorem refl (p : Port) (x : State) : x.LeavesOut p x := fun _ => ⟨rfl, rfl, rfl⟩

theorem detached (h : x.LeavesOut p y) (out : x.attached p = false) : y.attached p = false := by
  rw [State.attached, (h out).1]
  exact out

theorem trans {z : State} (h : x.LeavesOut p y) (h' : y.LeavesOut p z) : x.LeavesOut p z := fun out =>
  have ⟨tenant, nu, tol⟩ := h out
  have ⟨tenant', nu', tol'⟩ := h' (h.detached out)
  ⟨tenant'.trans tenant, nu'.trans nu, tol'.trans tol⟩

end State.LeavesOut

theorem State.leavesOut_of_fields (tenants : y.tru.tenants = x.tru.tenants) (nu : y.nu = x.nu) (tol : y.sde.tol = x.sde.tol) :
    x.LeavesOut p y := fun _ =>
  ⟨by rw [tenants], by rw [nu], by rw [tol]⟩

theorem State.post_leavesOut (named : Port → Bool) (r : Report) (x : State) : x.LeavesOut p (x.post named r) := fun out =>
  ⟨rfl, by rw [State.post_nu_get, out]; rfl, rfl⟩

theorem State.postAll_leavesOut (r : Report) (x : State) : x.LeavesOut p (x.postAll r) := State.post_leavesOut _ r x

theorem State.watchLatches_leavesOut (x : State) : x.LeavesOut p x.watchLatches := fun out =>
  ⟨rfl, by rw [State.watchLatches_get, out]; rfl, rfl⟩

theorem State.judgeAll_leavesOut (x : State) : x.LeavesOut p x.judgeAll := fun out =>
  ⟨by rw [x.judgeAll_frame.2.2.2.1], State.judgeAll_detached out, by
    rw [State.judgeAll_tol, out]; rfl⟩

theorem State.setE_leavesOut (e : Int) (x : State) : x.LeavesOut p (x.setE e) :=
  (State.leavesOut_of_fields rfl rfl rfl).trans (State.judgeAll_leavesOut { x with sde := { x.sde with e := min e eCap } })

theorem State.enterClock_leavesOut (c : ClockState) (x : State) : x.LeavesOut p (x.enterClock c) := by
  unfold State.enterClock
  split
  · exact .refl p x
  · refine State.LeavesOut.trans ?_ (State.postAll_leavesOut _ _)
    refine State.LeavesOut.trans ?_ (State.watchLatches_leavesOut _)
    exact State.leavesOut_of_fields rfl rfl rfl

theorem State.enterHoldover_leavesOut (x : State) : x.LeavesOut p x.enterHoldover := by
  obtain ⟨b, hb⟩ : ∃ b : State, b = { x with sde := { x.sde with decisionPending := false, bridgeRemaining := 0 } } :=
    ⟨_, rfl⟩
  have cleared : x.LeavesOut p b := by rw [hb]; exact State.leavesOut_of_fields rfl rfl rfl
  have anchored : x.LeavesOut p ((b.enterClock .holdover).takeAnchor (b.enterClock .holdover).sde.fAvg) :=
    (cleared.trans (State.enterClock_leavesOut .holdover b)).trans
      (State.leavesOut_of_fields (x := b.enterClock .holdover) rfl rfl rfl)
  unfold State.enterHoldover
  dsimp only
  rw [← hb]
  split
  · exact anchored
  · exact anchored.trans (State.setE_leavesOut _ _)

theorem State.enterFreerun_leavesOut (x : State) : x.LeavesOut p x.enterFreerun :=
  (State.enterClock_leavesOut _ x).trans (State.setE_leavesOut _ _)

theorem State.endAssistance_leavesOut (x : State) : x.LeavesOut p x.endAssistance :=
  (State.leavesOut_of_fields rfl rfl rfl).trans (State.postAll_leavesOut _ _)

theorem State.keepAliveClock_leavesOut (x : State) : x.LeavesOut p x.keepAliveClock := by
  unfold State.keepAliveClock
  split
  · exact State.enterHoldover_leavesOut x
  · exact State.enterHoldover_leavesOut x
  · split
    · exact State.enterHoldover_leavesOut x
    · exact State.enterFreerun_leavesOut x
  · split
    · exact State.endAssistance_leavesOut x
    · exact .refl p x
  · exact .refl p x

theorem State.sdeKeepAlive_leavesOut (x : State) : x.LeavesOut p x.sdeKeepAlive := by
  have posted : x.LeavesOut p (if x.sde.selected.isSome then x.postAll (.selection none) else x) := by
    split
    · exact State.postAll_leavesOut _ x
    · exact .refl p x
  exact (posted.trans (State.keepAliveClock_leavesOut _)).trans (State.leavesOut_of_fields rfl rfl rfl)

theorem State.postEndedHalts_leavesOut (n : SlotId) (x : State) : x.LeavesOut p (x.postEndedHalts n) := by
  unfold State.postEndedHalts
  split
  · exact State.postAll_leavesOut _ x
  · exact .refl p x

theorem State.forSlots_leavesOut {f : SlotId → State → State} (h : ∀ n x, State.LeavesOut p x (f n x)) (x : State) :
    x.LeavesOut p (x.forSlots f) :=
  (((((h 0 _).trans (h 1 _)).trans (h 2 _)).trans (h 3 _)).trans (h 4 _)).trans (h 5 _)

theorem State.rmuKeepAlive_leavesOut (x : State) : x.LeavesOut p x.rmuKeepAlive := by
  have posted : x.LeavesOut p (x.forSlots State.postEndedHalts) :=
    State.forSlots_leavesOut (f := State.postEndedHalts) State.postEndedHalts_leavesOut x
  unfold State.rmuKeepAlive
  generalize x.forSlots State.postEndedHalts = b at posted
  exact posted.trans (State.leavesOut_of_fields rfl rfl rfl)

theorem State.requestWrite_leavesOut (x : State) : x.LeavesOut p x.requestWrite :=
  State.leavesOut_of_fields (by rw [x.requestWrite_frame.2.2.2.1]) (by simp) (by simp)

/-! ## Every tenant is detached -/

/-- The TRU after tenant q, where attached, is detached with no action pending (R135, R137). -/
def Tru.detach (q : Port) (u : Tru) : Tru :=
  if (u.tenants.get q).attached = true then
    { u with
      tenants := u.tenants.set q .detached
      policy := resolvedPolicy (u.tenants.set q .detached)
      generation := u.generation + 1 }
  else u

/-- The detach of a tenant with no action pending. -/
theorem State.detachTenant_of_none (none : x.tru.joint = none) (q : Port) :
    x.detachTenant q = (((x.setTenant q .detached).resolve).setNotices q .detached).setTol q false := by
  have stays : (x.setTenant q .detached).leaveJoint q = x.setTenant q .detached := by
    unfold State.leaveJoint
    rw [show (x.setTenant q .detached).tru.joint = Option.none from none]
  rw [State.detachTenant, State.dropTenant, stays]

theorem State.detachIfAttached_tru (none : x.tru.joint = none) (q : Port) : (x.detachIfAttached q).tru = x.tru.detach q := by
  unfold State.detachIfAttached Tru.detach
  refine (apply_ite State.tru _ _ _).trans (if_congr Iff.rfl ?_ rfl)
  rw [State.detachTenant_of_none none]
  rfl

theorem State.detachIfAttached_shape (none : x.tru.joint = none) (q : Port) :
    x.detachIfAttached q =
      { x with
        tru := (x.detachIfAttached q).tru, sde := { x.sde with tol := (x.detachIfAttached q).sde.tol }
        nu := (x.detachIfAttached q).nu } := by
  unfold State.detachIfAttached
  rw [State.detachTenant_of_none none]
  split <;> rfl

theorem State.resolve_leavesOut (x : State) : x.LeavesOut p x.resolve := fun out =>
  ⟨rfl, by
    refine (State.postAll_nu_get _ _ _).trans ?_
    exact if_neg fun inn => absurd (out.symm.trans inn) (by decide), rfl⟩

/-- Tenant p holds the values of a detached tenant, with no tolerance. -/
def State.ReturnedToDefaults (p : Port) (x : State) : Prop :=
  x.tru.tenants.get p = .detached ∧ x.nu.get p = .detached ∧ x.sde.tol.get p = false

theorem State.ReturnedToDefaults.attached (h : x.ReturnedToDefaults p) : x.attached p = false := by
  rw [State.attached, h.1]
  rfl

theorem State.LeavesOut.returned (h : x.LeavesOut p y) (out : x.ReturnedToDefaults p) : y.ReturnedToDefaults p :=
  have ⟨tenant, nu, tol⟩ := h out.attached
  ⟨tenant.trans out.1, nu.trans out.2.1, tol.trans out.2.2⟩

theorem State.detachTenant_returned (q : Port) (x : State) : (x.detachTenant q).ReturnedToDefaults q :=
  ⟨by rw [State.detachTenant_tenants, Three.get_set_same], Three.get_set_same _ _ _, Three.get_set_same _ _ _⟩

/-- Detaching one tenant leaves out the others that are detached. -/
theorem State.detachIfAttached_leavesOut (none : x.tru.joint = none) (q : Port) : x.LeavesOut p (x.detachIfAttached q) := by
  intro out
  unfold State.detachIfAttached
  split
  next inn =>
    have ne : p ≠ q := fun same => by rw [same, inn] at out; cases out
    have out' : (x.setTenant q .detached).attached p = false := by
      show ((x.tru.tenants.set q .detached).get p).attached = false
      rw [Three.get_set_ne _ _ ne]
      exact out
    refine ⟨by rw [State.detachTenant_tenants, Three.get_set_ne _ _ ne], ?_, ?_⟩
    · rw [State.detachTenant_of_none none]
      refine (Three.get_set_ne _ _ ne).trans ?_
      exact (State.resolve_leavesOut _ out').2.1
    · rw [State.detachTenant_of_none none]
      exact Three.get_set_ne _ _ ne
  · exact ⟨rfl, rfl, rfl⟩

theorem State.detachIfAttached_returned (inn : x.attached q = true) : (x.detachIfAttached q).ReturnedToDefaults q := by
  unfold State.detachIfAttached
  rw [if_pos inn]
  exact State.detachTenant_returned q x

theorem Tru.detach_frame (q : Port) (u : Tru) :
    (u.detach q).config = u.config ∧ (u.detach q).serial = u.serial ∧ (u.detach q).joint = u.joint ∧
      (u.detach q).lastEnded = u.lastEnded := by
  unfold Tru.detach
  split <;> exact ⟨rfl, rfl, rfl, rfl⟩

theorem Tru.detached_frame (u : Tru) :
    (((u.detach 0).detach 1).detach 2).config = u.config ∧ (((u.detach 0).detach 1).detach 2).serial = u.serial ∧
      (((u.detach 0).detach 1).detach 2).joint = u.joint ∧ (((u.detach 0).detach 1).detach 2).lastEnded = u.lastEnded := by
  simp only [Tru.detach_frame, and_self]

theorem Tru.detach_generation (q : Port) (u : Tru) :
    (u.detach q).generation = u.generation + BitVec.ofNat 16 (if (u.tenants.get q).attached = true then 1 else 0) := by
  unfold Tru.detach
  split
  · rfl
  · exact (BitVec.add_zero _).symm

theorem Tru.detach_policy (q : Port) (u : Tru) :
    (u.detach q).policy =
      if (u.tenants.get q).attached = true then resolvedPolicy (u.detach q).tenants else u.policy := by
  unfold Tru.detach
  split <;> rfl

theorem Tru.detach_tenants_of_out {u : Tru} (out : ¬(u.tenants.get q).attached = true) : (u.detach q).tenants = u.tenants := by
  rw [Tru.detach, if_neg out]

theorem Tru.detach_attached_of_ne {u : Tru} (ne : p ≠ q) :
    ((u.detach q).tenants.get p).attached = (u.tenants.get p).attached := by
  unfold Tru.detach
  split
  · rw [Three.get_set_ne _ _ ne]
  · rfl

/-- With no tenant attached the policy is that of no tenant (R137). -/
theorem resolvedPolicy_of_none {ts : Three Tenant} (out : ∀ p : Port, (ts.get p).attached = false) :
    resolvedPolicy ts = .noTenant := by
  have out0 : ts.t0.attached = false := out 0
  have out1 : ts.t1.attached = false := out 1
  have out2 : ts.t2.attached = false := out 2
  simp [resolvedPolicy, out0, out1, out2]

/-- The TRU before the detaches at entry to keep-alive. -/
def State.withdrawnTru (s : State) : Tru := (s.cancelJoint .withdrawn).tru

theorem State.withdrawnTru_spec (s : State) :
    s.withdrawnTru =
      { s.tru with
        joint := none
        lastEnded := match s.tru.joint with
          | some r => some ⟨r, .cancelled .withdrawn⟩
          | none => s.tru.lastEnded } := by
  unfold State.withdrawnTru State.cancelJoint
  cases pending : s.tru.joint with
  | none => simp only; rw [← pending]
  | some r => rfl

/-- What detaching every tenant leaves: the TRU, and of the rest the notices and the tolerance flags alone change. -/
theorem State.detachAll_spec (s : State) :
    s.detachAll.tru = ((s.withdrawnTru.detach 0).detach 1).detach 2 ∧
      s.detachAll =
        { s with
          tru := s.detachAll.tru, sde := { s.sde with tol := s.detachAll.sde.tol }, nu := s.detachAll.nu } ∧
      ∀ p : Port, s.attached p = true → s.detachAll.ReturnedToDefaults p := by
  have none : (s.cancelJoint .withdrawn).tru.joint = none := s.cancelJoint_joint .withdrawn
  have attached : ∀ p, (s.cancelJoint .withdrawn).attached p = s.attached p := fun p =>
    State.attached_congr (s.cancelJoint_tenants .withdrawn) p
  obtain ⟨tsg, rmu, sde, ols, pou, spm, tpi, pins, free, pending⟩ := s.cancelJoint_frame .withdrawn
  unfold State.detachAll State.forPorts State.withdrawnTru
  generalize s.cancelJoint .withdrawn = c at *
  have tru1 := State.detachIfAttached_tru none 0
  have shape1 := State.detachIfAttached_shape none 0
  have stays1 := fun p => State.detachIfAttached_leavesOut (p := p) none 0
  have gone1 := fun inn => State.detachIfAttached_returned (q := 0) (x := c) inn
  have none1 : (c.detachIfAttached 0).tru.joint = Option.none := by rw [tru1, (Tru.detach_frame 0 _).2.2.1, none]
  generalize c.detachIfAttached 0 = c1 at *
  have tru2 := State.detachIfAttached_tru none1 1
  have shape2 := State.detachIfAttached_shape none1 1
  have stays2 := fun p => State.detachIfAttached_leavesOut (p := p) none1 1
  have gone2 := fun inn => State.detachIfAttached_returned (q := 1) (x := c1) inn
  have none2 : (c1.detachIfAttached 1).tru.joint = Option.none := by rw [tru2, (Tru.detach_frame 1 _).2.2.1, none1]
  generalize c1.detachIfAttached 1 = c2 at *
  have tru3 := State.detachIfAttached_tru none2 2
  have shape3 := State.detachIfAttached_shape none2 2
  have stays3 := fun p => State.detachIfAttached_leavesOut (p := p) none2 2
  have gone3 := fun inn => State.detachIfAttached_returned (q := 2) (x := c2) inn
  generalize c2.detachIfAttached 2 = c3 at *
  refine ⟨by rw [tru3, tru2, tru1], ?_, fun p inn => ?_⟩
  · rw [shape3, shape2, shape1, tsg, rmu, sde, ols, pou, spm, tpi, pins, free, pending]
  · have in1 : c.attached p = true := (attached p).trans inn
    have in2 : c1.attached 1 = c.attached 1 := by
      rw [State.attached, tru1]; exact Tru.detach_attached_of_ne (by decide)
    have in3 : c2.attached 2 = c.attached 2 := by
      rw [State.attached, tru2, tru1]
      exact (Tru.detach_attached_of_ne (by decide)).trans (Tru.detach_attached_of_ne (by decide))
    match p with
    | 0 => exact (stays3 0).returned ((stays2 0).returned (gone1 in1))
    | 1 => exact (stays3 1).returned (gone2 (in2.trans in1))
    | 2 => exact gone3 (in3.trans in1)

/-- The policy after every tenant is detached is that of no tenant where one was attached (R137). -/
theorem Tru.detached_policy (u : Tru)
    (out : ∀ p : Port, ((((u.detach 0).detach 1).detach 2).tenants.get p).attached = false) :
    ((∃ p : Port, (u.tenants.get p).attached = true) → (((u.detach 0).detach 1).detach 2).policy = .noTenant) ∧
      ((∀ p : Port, (u.tenants.get p).attached = false) → (((u.detach 0).detach 1).detach 2).policy = u.policy) := by
  have none := resolvedPolicy_of_none out
  have kept1 : ((u.detach 0).tenants.get 1).attached = (u.tenants.get 1).attached := Tru.detach_attached_of_ne (by decide)
  have kept2 : (((u.detach 0).detach 1).tenants.get 2).attached = (u.tenants.get 2).attached :=
    (Tru.detach_attached_of_ne (by decide)).trans (Tru.detach_attached_of_ne (by decide))
  rw [Tru.detach_policy 2, kept2, none, Tru.detach_policy 1, kept1, Tru.detach_policy 0]
  refine ⟨fun ⟨p, inn⟩ => ?_, fun none => ?_⟩
  · by_cases in2 : (u.tenants.get 2).attached = true
    · rw [if_pos in2]
    · have same2 := Tru.detach_tenants_of_out (u := (u.detach 0).detach 1) (by rw [kept2]; exact in2)
      rw [if_neg in2, ← same2, none]
      by_cases in1 : (u.tenants.get 1).attached = true
      · rw [if_pos in1]
      · have same1 := Tru.detach_tenants_of_out (u := u.detach 0) (by rw [kept1]; exact in1)
        rw [if_neg in1, ← same1, ← same2, none]
        match p, inn with
        | 0, in0 => rw [if_pos in0]
        | 1, h => exact absurd h in1
        | 2, h => exact absurd h in2
  · simp only [none, Bool.false_eq_true, if_false]

theorem Tru.detached_generation (u : Tru) :
    (((u.detach 0).detach 1).detach 2).generation =
      u.generation + BitVec.ofNat 16 ([0, 1, 2].filter fun p => (u.tenants.get p).attached).length := by
  have kept1 : ((u.detach 0).tenants.get 1).attached = (u.tenants.get 1).attached := Tru.detach_attached_of_ne (by decide)
  have kept2 : (((u.detach 0).detach 1).tenants.get 2).attached = (u.tenants.get 2).attached :=
    (Tru.detach_attached_of_ne (by decide)).trans (Tru.detach_attached_of_ne (by decide))
  rw [Tru.detach_generation, kept2, Tru.detach_generation, kept1, Tru.detach_generation, add_assoc, add_assoc]
  congr 1
  simp only [List.filter]
  generalize (u.tenants.get 0).attached = b0
  generalize (u.tenants.get 1).attached = b1
  generalize (u.tenants.get 2).attached = b2
  revert b0 b1 b2
  decide

end Sys2Proof.Machine
end

section
/-!
PROOFS. The SDE, the slots and the outputs at entry to keep-alive (O41).
-/

namespace Sys2Proof.Machine

variable {s x y : State} {p : Port} {n : SlotId}

/-! ## The clock at entry to keep-alive -/

/-- The SDE after entry to HOLDOVER (R58, R110, R121). -/
theorem State.enterHoldover_sde (away : x.sde.clock ≠ .holdover) :
    x.enterHoldover.sde =
      { x.sde with
        clock := .holdover, decisionPending := false, bridgeRemaining := 0, assisted := false
        stepNow := x.sde.stepNow && x.sde.clock != .acquire
        stepDecisionPending := x.sde.stepDecisionPending && x.sde.clock != .acquire
        anchorCorr := x.sde.fAvg, anchorBin := x.currentBin, anchorSeconds := x.tsg.seconds, hours := 0
        e := if x.sde.clock = .bridge then x.sde.e else min x.entryE eCap
        tol := x.enterHoldover.sde.tol } := by
  by_cases bridge : x.sde.clock = .bridge
  · rw [State.enterHoldover_sde_of_bridge bridge, if_pos bridge, bridge]
    simp only [show (ClockState.bridge != ClockState.acquire) = true from rfl, Bool.and_true]
  · obtain ⟨b, hb⟩ : ∃ b : State, b = { x with sde := { x.sde with decisionPending := false, bridgeRemaining := 0 } } :=
      ⟨_, rfl⟩
    have entered := State.enterClock_of_ne (c := .holdover) (s := b) (by rw [hb]; exact Ne.symm away)
    obtain ⟨tsg, -, ols, -⟩ := State.enterClock_frame .holdover b
    have shape : x.enterHoldover = ((b.enterClock .holdover).takeAnchor (b.enterClock .holdover).sde.fAvg).setE x.entryE := by
      unfold State.enterHoldover
      dsimp only
      rw [← hb, if_neg (by simp [bridge])]
    have bin : (b.enterClock .holdover).currentBin = x.currentBin := State.currentBin_congr (ols.trans (by rw [hb]))
    rw [shape, State.setE_shape]
    simp only [State.takeAnchor_sde]
    rw [entered, bin, tsg, if_neg bridge, hb]

theorem State.enterFreerun_sde (away : x.sde.clock ≠ .freerun) :
    x.enterFreerun.sde =
      { x.sde with
        clock := .freerun, assisted := false, stepNow := x.sde.stepNow && x.sde.clock != .acquire
        stepDecisionPending := x.sde.stepDecisionPending && x.sde.clock != .acquire
        e := eCap, tol := x.enterFreerun.sde.tol } := by
  unfold State.enterFreerun
  rw [State.setE_shape]
  simp only [State.enterClock_of_ne (Ne.symm away), min_self]

theorem State.endAssistance_sde (x : State) :
    x.endAssistance.sde =
      { x.sde with
        assisted := false, anchorCorr := x.tsg.fApp, anchorBin := x.currentBin, anchorSeconds := x.tsg.seconds
        hours := 0 } := rfl

/-- Entry to keep-alive takes a clock with valid time that is not in HOLDOVER to HOLDOVER (R68). -/
theorem State.keepAliveClock_of_holdover
    (h : x.sde.clock = .locked ∨ x.sde.clock = .bridge ∨ x.sde.clock = .acquire ∧ x.tsg.timeValid = true) :
    x.keepAliveClock = x.enterHoldover := by
  unfold State.keepAliveClock
  rcases h with h | h | ⟨h, valid⟩ <;> rw [h]
  exact if_pos valid

theorem State.keepAliveClock_of_freerun (h : x.sde.clock = .acquire) (invalid : x.tsg.timeValid = false) :
    x.keepAliveClock = x.enterFreerun := by
  unfold State.keepAliveClock
  rw [h]
  exact if_neg (by rw [invalid]; decide)

theorem State.keepAliveClock_of_assisted (h : x.sde.clock = .holdover) (assisted : x.sde.assisted = true) :
    x.keepAliveClock = x.endAssistance := by
  unfold State.keepAliveClock
  rw [h]
  exact if_pos assisted

theorem State.keepAliveClock_of_still (h : x.sde.clock = .holdover ∧ x.sde.assisted = false ∨ x.sde.clock = .freerun) :
    x.keepAliveClock = x := by
  unfold State.keepAliveClock
  rcases h with ⟨h, still⟩ | h <;> rw [h]
  exact if_neg (by rw [still]; decide)

/-- How the clock stands at entry to keep-alive. -/
theorem State.keepAlive_cases (x : State) :
    (x.sde.clock = .locked ∨ x.sde.clock = .bridge ∨ x.sde.clock = .acquire ∧ x.tsg.timeValid = true) ∨
      (x.sde.clock = .acquire ∧ x.tsg.timeValid = false) ∨ (x.sde.clock = .holdover ∧ x.sde.assisted = true) ∨
      (x.sde.clock = .holdover ∧ x.sde.assisted = false ∨ x.sde.clock = .freerun) := by
  cases x.sde.clock <;> cases x.tsg.timeValid <;> cases x.sde.assisted <;> simp

/-- Entry to keep-alive leaves the loop values, the averages and the LF values of the SDE (R68). -/
theorem State.keepAliveClock_sde (x : State) :
    x.keepAliveClock.sde =
      { x.sde with
        clock := x.keepAliveClock.sde.clock, decisionPending := x.keepAliveClock.sde.decisionPending
        bridgeRemaining := x.keepAliveClock.sde.bridgeRemaining, assisted := x.keepAliveClock.sde.assisted
        stepNow := x.keepAliveClock.sde.stepNow, stepDecisionPending := x.keepAliveClock.sde.stepDecisionPending
        anchorCorr := x.keepAliveClock.sde.anchorCorr, anchorBin := x.keepAliveClock.sde.anchorBin
        anchorSeconds := x.keepAliveClock.sde.anchorSeconds, hours := x.keepAliveClock.sde.hours
        e := x.keepAliveClock.sde.e, tol := x.keepAliveClock.sde.tol } := by
  rcases x.keepAlive_cases with h | ⟨h, invalid⟩ | ⟨h, assisted⟩ | h
  · have away : x.sde.clock ≠ .holdover := by rcases h with h | h | ⟨h, -⟩ <;> rw [h] <;> decide
    rw [State.keepAliveClock_of_holdover h, State.enterHoldover_sde away]
  · rw [State.keepAliveClock_of_freerun h invalid, State.enterFreerun_sde (by rw [h]; decide)]
  · rw [State.keepAliveClock_of_assisted h assisted, State.endAssistance_sde]
  · rw [State.keepAliveClock_of_still h]

/-! ## The SDE at entry to keep-alive, where the tenants have gone -/

/-- State x holds the values of s that entry to keep-alive reads, with the tolerance flags its own. -/
structure State.Agrees (s x : State) : Prop where
  sde : x.sde = { s.sde with tol := x.sde.tol }
  tsg : x.tsg = s.tsg
  ols : x.ols = s.ols
  rmu : x.rmu = s.rmu
  config : x.tru.config = s.tru.config

namespace State.Agrees

theorem clock (h : s.Agrees x) : x.sde.clock = s.sde.clock := by rw [h.sde]

theorem assisted (h : s.Agrees x) : x.sde.assisted = s.sde.assisted := by rw [h.sde]

theorem e (h : s.Agrees x) : x.sde.e = s.sde.e := by rw [h.sde]

theorem fAvg (h : s.Agrees x) : x.sde.fAvg = s.sde.fAvg := by rw [h.sde]

theorem anchor (h : s.Agrees x) :
    x.sde.anchorCorr = s.sde.anchorCorr ∧ x.sde.anchorBin = s.sde.anchorBin ∧
      x.sde.anchorSeconds = s.sde.anchorSeconds ∧ x.sde.hours = s.sde.hours := by
  rw [h.sde]; exact ⟨rfl, rfl, rfl, rfl⟩

theorem entryE (h : s.Agrees x) : x.entryE = s.entryE := by
  have last : x.sde.lastSelected = s.sde.lastSelected := by rw [h.sde]
  rw [State.entryE, State.entryE, last, h.rmu, h.config]

theorem currentBin (h : s.Agrees x) : x.currentBin = s.currentBin := State.currentBin_congr h.ols

/-- Such a state stays one when the end of the selection has been posted. -/
theorem posted (h : s.Agrees x) : ∃ x' : State, s.Agrees x' ∧ x.sdeKeepAlive.sde = x'.keepAliveClock.sde.keepAliveCleared := by
  refine ⟨if x.sde.selected.isSome then x.postAll (.selection none) else x, ?_, rfl⟩
  split
  · exact ⟨h.sde, h.tsg, h.ols, h.rmu, h.config⟩
  · exact h

/-- What entry to keep-alive changes of the SDE (R68). -/
theorem kept (h : s.Agrees x) :
    x.sdeKeepAlive.sde =
      { s.sde with
        selected := none, lockCount := 0, lockLoss := 0, bridgeRemaining := 0, labelMismatch := 0
        decisionPending := false, stepDecisionPending := false, stepNow := false
        clock := x.sdeKeepAlive.sde.clock, assisted := x.sdeKeepAlive.sde.assisted
        anchorCorr := x.sdeKeepAlive.sde.anchorCorr, anchorBin := x.sdeKeepAlive.sde.anchorBin
        anchorSeconds := x.sdeKeepAlive.sde.anchorSeconds, hours := x.sdeKeepAlive.sde.hours
        e := x.sdeKeepAlive.sde.e, tol := x.sdeKeepAlive.sde.tol } := by
  obtain ⟨x', h', sde⟩ := h.posted
  rw [sde, Sde.keepAliveCleared, State.keepAliveClock_sde, h'.sde]

theorem toHoldover (h : s.Agrees x)
    (valid : s.sde.clock = .locked ∨ s.sde.clock = .bridge ∨ s.sde.clock = .acquire ∧ s.tsg.timeValid = true) :
    let d := x.sdeKeepAlive.sde
    (d.clock = .holdover ∧ d.anchorCorr = s.sde.fAvg ∧ d.anchorBin = s.currentBin ∧ d.anchorSeconds = s.tsg.seconds ∧
      d.hours = 0) ∧ d.assisted = false ∧ d.e = if s.sde.clock = .bridge then s.sde.e else min s.entryE eCap := by
  obtain ⟨x', h', sde⟩ := h.posted
  have away : x'.sde.clock ≠ .holdover := by rw [h'.clock]; rcases valid with h | h | ⟨h, -⟩ <;> rw [h] <;> decide
  have entered := State.keepAliveClock_of_holdover (x := x') (by rw [h'.clock, h'.tsg]; exact valid)
  rw [sde, entered, State.enterHoldover_sde away, h'.entryE, h'.clock, h'.currentBin, h'.tsg, h'.fAvg, h'.e]
  exact ⟨⟨rfl, rfl, rfl, rfl, rfl⟩, rfl, rfl⟩

theorem toFreerun (h : s.Agrees x) (acquire : s.sde.clock = .acquire) (invalid : s.tsg.timeValid = false) :
    let d := x.sdeKeepAlive.sde
    (d.clock = .freerun ∧ d.e = eCap) ∧ d.assisted = false ∧
      d.anchorCorr = s.sde.anchorCorr ∧ d.anchorBin = s.sde.anchorBin ∧ d.anchorSeconds = s.sde.anchorSeconds ∧
      d.hours = s.sde.hours := by
  obtain ⟨x', h', sde⟩ := h.posted
  have entered := State.keepAliveClock_of_freerun (x := x') (by rw [h'.clock, acquire]) (by rw [h'.tsg, invalid])
  rw [sde, entered, State.enterFreerun_sde (by rw [h'.clock, acquire]; decide)]
  exact ⟨⟨rfl, rfl⟩, rfl, h'.anchor⟩

theorem endsAssistance (h : s.Agrees x) (holdover : s.sde.clock = .holdover) (assisted : s.sde.assisted = true) :
    let d := x.sdeKeepAlive.sde
    d.clock = .holdover ∧ d.assisted = false ∧ d.e = s.sde.e ∧
      d.anchorCorr = s.tsg.fApp ∧ d.anchorBin = s.currentBin ∧ d.anchorSeconds = s.tsg.seconds ∧ d.hours = 0 := by
  obtain ⟨x', h', sde⟩ := h.posted
  have ended := State.keepAliveClock_of_assisted (x := x') (by rw [h'.clock, holdover]) (by rw [h'.assisted, assisted])
  rw [sde, ended, State.endAssistance_sde, h'.tsg, h'.currentBin]
  exact ⟨h'.clock.trans holdover, rfl, h'.e, rfl, rfl, rfl, rfl⟩

theorem stands (h : s.Agrees x) (still : s.sde.clock = .holdover ∧ s.sde.assisted = false ∨ s.sde.clock = .freerun) :
    let d := x.sdeKeepAlive.sde
    d.clock = s.sde.clock ∧ d.assisted = s.sde.assisted ∧ d.e = s.sde.e ∧
      d.anchorCorr = s.sde.anchorCorr ∧ d.anchorBin = s.sde.anchorBin ∧ d.anchorSeconds = s.sde.anchorSeconds ∧
      d.hours = s.sde.hours := by
  obtain ⟨x', h', sde⟩ := h.posted
  have stays := State.keepAliveClock_of_still (x := x') (by rw [h'.clock, h'.assisted]; exact still)
  rw [sde, stays]
  exact ⟨h'.clock, h'.assisted, h'.e, h'.anchor⟩

end State.Agrees

/-! ## The slots -/

theorem Slot.keepAlive_of_quiet (enable : Bool) {sl : Slot} (h : sl.state = .off ∨ sl.state = .disqualified) :
    sl.keepAlive enable = sl := by
  unfold Slot.keepAlive
  rcases h with h | h <;> rw [h]

theorem Slot.keepAlive_of_counting (enable : Bool) {sl : Slot}
    (h : sl.state = .qualifying ∨ sl.state = .usable ∨ sl.state = .selected) :
    sl.keepAlive enable =
      { sl with
        state := .qualifying, faultCount := 0, qualifyCount := 0, emptyRun := 0, usableRun := 0, lastValue := none
        queue := [], tallies := [] } := by
  unfold Slot.keepAlive
  rcases h with h | h | h <;> rw [h] <;> rfl

theorem Slot.keepAlive_of_halting (enable : Bool) {sl : Slot} (h : sl.state = .halting) :
    sl.keepAlive enable =
      { sl with
        state := if enable then .qualifying else .off
        faultCount := 0, qualifyCount := 0, emptyRun := 0, usableRun := 0, holdOff := 0, lastValue := none
        queue := [], tallies := [] } := by
  unfold Slot.keepAlive
  rw [h]
  rfl

end Sys2Proof.Machine
end

section
/-!
PROOFS. Entry to keep-alive across the blocks (O41).
-/

namespace Sys2Proof.Machine

variable {s x y : State} {p : Port} {n : SlotId}

/-! ## What the parts of the entry leave -/

/-- Of what lies outside the SDE, the TRU and the notices the SDE's part changes nothing. -/
theorem State.keepAliveClock_stays (x : State) :
    x.keepAliveClock.tsg = x.tsg ∧ x.keepAliveClock.rmu = x.rmu ∧ x.keepAliveClock.ols = x.ols ∧
      x.keepAliveClock.pou = x.pou ∧ x.keepAliveClock.pins = x.pins ∧ x.keepAliveClock.freeIndex = x.freeIndex ∧
      x.keepAliveClock.pending = x.pending := by
  rcases x.keepAlive_cases with h | ⟨h, invalid⟩ | ⟨h, assisted⟩ | h
  · rw [State.keepAliveClock_of_holdover h]; simp
  · rw [State.keepAliveClock_of_freerun h invalid]; simp
  · rw [State.keepAliveClock_of_assisted h assisted]; exact ⟨rfl, rfl, rfl, rfl, rfl, rfl, rfl⟩
  · rw [State.keepAliveClock_of_still h]; exact ⟨rfl, rfl, rfl, rfl, rfl, rfl, rfl⟩

theorem State.sdeKeepAlive_stays (x : State) :
    x.sdeKeepAlive.tsg = x.tsg ∧ x.sdeKeepAlive.rmu = x.rmu ∧ x.sdeKeepAlive.ols = x.ols ∧ x.sdeKeepAlive.pou = x.pou ∧
      x.sdeKeepAlive.pins = x.pins ∧ x.sdeKeepAlive.freeIndex = x.freeIndex ∧ x.sdeKeepAlive.pending = x.pending := by
  simp only [State.sdeKeepAlive, State.keepAliveClock_stays]
  split <;> exact ⟨rfl, rfl, rfl, rfl, rfl, rfl, rfl⟩

theorem State.postEndedHalts_stays (n : SlotId) (x : State) :
    (x.postEndedHalts n).tsg = x.tsg ∧ (x.postEndedHalts n).ols = x.ols ∧ (x.postEndedHalts n).pou = x.pou ∧
      (x.postEndedHalts n).pins = x.pins ∧ (x.postEndedHalts n).freeIndex = x.freeIndex ∧
      (x.postEndedHalts n).pending = x.pending := by
  unfold State.postEndedHalts
  split <;> simp

theorem State.rmuKeepAlive_stays (x : State) :
    x.rmuKeepAlive.tsg = x.tsg ∧ x.rmuKeepAlive.ols = x.ols ∧ x.rmuKeepAlive.pou = x.pou ∧ x.rmuKeepAlive.pins = x.pins ∧
      x.rmuKeepAlive.freeIndex = x.freeIndex ∧ x.rmuKeepAlive.pending = x.pending := by
  have posted : (x.forSlots State.postEndedHalts).tsg = x.tsg ∧ (x.forSlots State.postEndedHalts).ols = x.ols ∧
      (x.forSlots State.postEndedHalts).pou = x.pou ∧ (x.forSlots State.postEndedHalts).pins = x.pins ∧
      (x.forSlots State.postEndedHalts).freeIndex = x.freeIndex ∧ (x.forSlots State.postEndedHalts).pending = x.pending := by
    simp only [State.forSlots, State.postEndedHalts_stays, and_self]
  simpa only [State.rmuKeepAlive] using posted

/-- The state between the detaches with the ports closed, and the SDE's part. -/
def State.portsClosed (s : State) : State := s.detachAll.forPorts State.closePort

theorem State.portsClosed_shape (s : State) :
    s.portsClosed =
      { s with
        tru := s.detachAll.tru, sde := { s.sde with tol := s.detachAll.sde.tol }, nu := s.detachAll.nu
        tpi := s.portsClosed.tpi } := by
  obtain ⟨-, shape, -⟩ := s.detachAll_spec
  unfold State.portsClosed
  generalize s.detachAll = d at shape
  rw [shape]
  rfl

theorem State.detachAll_config (s : State) : s.detachAll.tru.config = s.tru.config := by
  rw [s.detachAll_spec.1, (Tru.detach_frame 2 _).1, (Tru.detach_frame 1 _).1, (Tru.detach_frame 0 _).1, s.withdrawnTru_spec]

theorem State.portsClosed_agrees (s : State) : s.Agrees s.portsClosed where
  sde := by rw [s.portsClosed_shape]
  tsg := by rw [s.portsClosed_shape]
  ols := by rw [s.portsClosed_shape]
  rmu := by rw [s.portsClosed_shape]
  config := by rw [s.portsClosed_shape]; exact s.detachAll_config

/-- The write at entry to keep-alive takes what the part retains (R98, R170). -/
theorem State.Agrees.retained (h : s.Agrees x) (ols : y.ols = s.ols) (config : y.tru.config = s.tru.config)
    (sde : y.sde = x.sdeKeepAlive.sde) : y.retainedContent = s.retainedContent := by
  unfold State.retainedContent
  rw [ols, config, sde, h.kept]

/-- The blocks with the pins low, before the write is requested. -/
def State.pinsLow (s : State) : State := s.portsClosed.sdeKeepAlive.rmuKeepAlive.dropPulses

theorem State.dropPulses_stays (x : State) :
    x.dropPulses.tsg = x.tsg ∧ x.dropPulses.rmu = x.rmu ∧ x.dropPulses.sde = x.sde ∧ x.dropPulses.ols = x.ols ∧
      x.dropPulses.tru = x.tru ∧ x.dropPulses.pins = x.pins ∧ x.dropPulses.freeIndex = x.freeIndex ∧
      x.dropPulses.pending = x.pending ∧ x.dropPulses.spm = x.spm :=
  ⟨rfl, rfl, rfl, rfl, rfl, rfl, rfl, rfl, rfl⟩

theorem State.dropPulses_leavesOut (x : State) : x.LeavesOut p x.dropPulses := State.leavesOut_of_fields rfl rfl rfl

theorem State.pinsLow_stays (s : State) :
    s.pinsLow.tsg = s.tsg ∧ s.pinsLow.ols = s.ols ∧ s.pinsLow.pins = s.pins ∧ s.pinsLow.freeIndex = s.freeIndex ∧
      s.pinsLow.pending = s.pending ∧ s.pinsLow.spm = s.spm := by
  unfold State.pinsLow
  obtain ⟨tsg3, -, -, ols3, -, pins3, free3, pending3, spm3⟩ := s.portsClosed.sdeKeepAlive.rmuKeepAlive.dropPulses_stays
  obtain ⟨tsg1, -, ols1, -, pins1, free1, pending1⟩ := s.portsClosed.sdeKeepAlive_stays
  obtain ⟨tsg2, ols2, -, pins2, free2, pending2⟩ := s.portsClosed.sdeKeepAlive.rmuKeepAlive_stays
  obtain ⟨-, -, spm1⟩ := s.portsClosed.sdeKeepAlive_frame
  obtain ⟨-, -, -, spm2⟩ := s.portsClosed.sdeKeepAlive.rmuKeepAlive_frame
  have shape := s.portsClosed_shape
  rw [tsg3, tsg2, tsg1, ols3, ols2, ols1, pins3, pins2, pins1, free3, free2, free1, pending3, pending2, pending1, spm3, spm2,
    spm1, shape]
  exact ⟨rfl, rfl, rfl, rfl, rfl, rfl⟩

theorem State.pinsLow_blocks (s : State) :
    s.pinsLow.tru = s.detachAll.tru ∧ s.pinsLow.sde = s.portsClosed.sdeKeepAlive.sde ∧
      s.pinsLow.rmu = s.rmu.keepAlive s.tru.config := by
  unfold State.pinsLow
  obtain ⟨-, rmu3, sde3, -, tru3, -⟩ := s.portsClosed.sdeKeepAlive.rmuKeepAlive.dropPulses_stays
  obtain ⟨-, rmu1, -⟩ := s.portsClosed.sdeKeepAlive_stays
  obtain ⟨tru1, -⟩ := s.portsClosed.sdeKeepAlive_frame
  obtain ⟨sde2, tru2, -⟩ := s.portsClosed.sdeKeepAlive.rmuKeepAlive_frame
  have agrees := s.portsClosed_agrees
  have rmu2 := s.portsClosed.sdeKeepAlive.rmuKeepAlive_rmu
  have tru : s.portsClosed.tru = s.detachAll.tru := by rw [s.portsClosed_shape]
  exact ⟨by rw [tru3, tru2, tru1, tru], by rw [sde3, sde2], by rw [rmu3, rmu2, rmu1, tru1, agrees.rmu, agrees.config]⟩

theorem State.pinsLow_get (s : State) (o : OutId) : s.pinsLow.pou.get o = { s.pou.get o with pulseLeft := none } := by
  obtain ⟨-, -, -, pou1, -⟩ := s.portsClosed.sdeKeepAlive_stays
  obtain ⟨-, -, pou2, -⟩ := s.portsClosed.sdeKeepAlive.rmuKeepAlive_stays
  have pou : s.portsClosed.sdeKeepAlive.rmuKeepAlive.pou = s.pou := pou2.trans (pou1.trans (by rw [s.portsClosed_shape]))
  unfold State.pinsLow State.dropPulses
  generalize s.portsClosed.sdeKeepAlive.rmuKeepAlive = x at pou
  rw [← pou]
  exact Four.get_mapIdx _ _ _

theorem State.pinsLow_returned (inn : s.attached p = true) : s.pinsLow.ReturnedToDefaults p := by
  have first : s.portsClosed.ReturnedToDefaults p := by
    rw [s.portsClosed_shape]; exact s.detachAll_spec.2.2 p inn
  have second := (State.sdeKeepAlive_leavesOut s.portsClosed).returned first
  have third := (State.rmuKeepAlive_leavesOut s.portsClosed.sdeKeepAlive).returned second
  exact (State.dropPulses_leavesOut s.portsClosed.sdeKeepAlive.rmuKeepAlive).returned third

/-- The blocks as the entry to keep-alive leaves them, but for the SPM. -/
structure State.ClosesTo (s c : State) : Prop where
  tsg : c.tsg = s.tsg
  spm : c.spm = s.spm
  pins : c.pins = s.pins
  freeIndex : c.freeIndex = s.freeIndex
  pending : c.pending = s.pending
  tru : c.tru = s.detachAll.tru
  sde : c.sde = s.portsClosed.sdeKeepAlive.sde
  rmu : c.rmu = s.rmu.keepAlive s.tru.config
  pou : ∀ o : OutId, c.pou.get o = { s.pou.get o with pulseLeft := none }
  write : s.requestedWrite c s.retainedContent
  ols : c.ols = { s.ols with writing := c.ols.writing, rewritePending := c.ols.rewritePending }
  ports : ∀ p : Port, (c.tpi.get p).state = .idle ∧ (c.tpi.get p).overrun = false
  gone : ∀ p : Port, c.attached p = false
  returned : ∀ p : Port, s.attached p = true → c.ReturnedToDefaults p

theorem State.closedForKeepAlive_closes (s : State) : s.ClosesTo s.closedForKeepAlive := by
  have ports := s.closedForKeepAlive_tpi
  have gone := s.closedForKeepAlive_attached
  have eq : s.closedForKeepAlive = s.pinsLow.requestWrite := rfl
  obtain ⟨tsg, ols, pins, free, pending, spm⟩ := s.pinsLow_stays
  obtain ⟨tru, sde, rmu⟩ := s.pinsLow_blocks
  have pou := s.pinsLow_get
  have returned := fun p inn => (State.requestWrite_leavesOut s.pinsLow).returned (State.pinsLow_returned (p := p) inn)
  have agrees := s.portsClosed_agrees
  rw [eq] at ports gone ⊢
  generalize s.pinsLow = b at *
  obtain ⟨h1, h2, h3, h4, -, h6, h7, -, h9, h10, h11⟩ := b.requestWrite_frame
  have content : b.retainedContent = s.retainedContent :=
    agrees.retained ols (by rw [tru, s.detachAll_config]) sde
  exact {
    tsg := h1.trans tsg, spm := h7.trans spm, pins := h9.trans pins, freeIndex := h10.trans free
    pending := h11.trans pending, tru := h4.trans tru, sde := h3.trans sde, rmu := h2.trans rmu
    pou := fun o => by rw [h6, pou]
    write := by have w := b.requestWrite_requested; rw [ols, content] at w; exact w
    ols := by rw [b.requestWrite_ols, ← ols]; split <;> rfl
    ports := ports, gone := gone, returned := returned }

/-! ## The entry -/

theorem State.ovenOff_leavesOut (x : State) : x.LeavesOut p x.ovenOff := by
  have off : x.LeavesOut p { x with spm := { x.spm with oven := .off, warmUp := 0, soak := 0, ovenFault := false } } :=
    State.leavesOut_of_fields rfl rfl rfl
  unfold State.ovenOff
  generalize ({ x with spm := { x.spm with oven := .off, warmUp := 0, soak := 0, ovenFault := false } } : State) = b at off
  dsimp only
  split
  · exact off
  · exact (off.trans (State.watchLatches_leavesOut b)).trans (State.postAll_leavesOut _ _)

theorem State.enterColdKeep_leavesOut (x : State) : x.LeavesOut p x.enterColdKeep :=
  (State.leavesOut_of_fields
    (y := { x with spm := { x.spm with power := .coldkeep, summary := x.spm.summary.map (·.enterCold) } }) rfl rfl rfl).trans
    (State.ovenOff_leavesOut _)

/-- The SPM after an entry to keep-alive, COLDKEEP entered with it where the battery is low (R170, R171, R173). -/
def State.keptAliveSpm (s : State) : Spm :=
  if s.pins.battLow = true then
    { s.spm with
      power := .coldkeep, oven := .off, warmUp := 0, soak := 0, ovenFault := false
      summary := some s.openSummary.enterCold }
  else { s.spm with power := .keepalive, summary := some s.openSummary }

theorem State.keptAliveSpm_spec (s : State) :
    s.keptAliveSpm =
      { s.spm with
        power := s.keptAliveSpm.power, oven := s.keptAliveSpm.oven, summary := s.keptAliveSpm.summary
        warmUp := if s.pins.battLow then 0 else s.spm.warmUp
        soak := if s.pins.battLow then 0 else s.spm.soak
        ovenFault := !s.pins.battLow && s.spm.ovenFault } ∧
    s.keptAliveSpm.power = (if s.pins.battLow then .coldkeep else .keepalive) ∧
    s.keptAliveSpm.oven = (if s.pins.battLow then .off else s.spm.oven) ∧
    s.keptAliveSpm.summary =
      some
        { beganAtStart := false, entrySeconds := s.tsg.seconds, boundaries := 0, coldBoundaries := 0
          coldEntries := if s.pins.battLow then 1 else 0, ovenFaultSeen := s.spm.ovenFault, ended := false } := by
  unfold State.keptAliveSpm
  cases s.pins.battLow <;> exact ⟨rfl, rfl, rfl, rfl⟩

/-- The state that a fall of the mains leaves in RUN: the blocks closed and the SPM out of RUN. -/
theorem exec_mainsGoodFalls (run : s.inService = true) :
    ∃ c t : State,
      exec .mainsGoodFalls s = .next t ∧ State.ClosesTo { s with pins := { s.pins with mainsGood := false } } c ∧
        t = { c with spm := s.keptAliveSpm, nu := t.nu } ∧ ∀ p, c.LeavesOut p t := by
  obtain ⟨b, hb⟩ : ∃ b : State, b = { s with pins := { s.pins with mainsGood := false } } := ⟨_, rfl⟩
  have closes := b.closedForKeepAlive_closes
  have enter := b.enterKeepAlive_eq
  have acts : exec .mainsGoodFalls s =
      .next (if b.enterKeepAlive.pins.battLow then b.enterKeepAlive.enterColdKeep else b.enterKeepAlive) := by
    show execMainsGoodFalls s = _
    unfold execMainsGoodFalls
    simp only [← hb]
    exact if_pos (by rw [hb]; exact run)
  rw [← hb]
  generalize b.closedForKeepAlive = c at closes enter
  have opened : c.openSummary = s.openSummary := by
    rw [State.openSummary, closes.tsg, closes.spm, hb]
    rfl
  have spm : c.spm = s.spm := closes.spm.trans (by rw [hb])
  have batt : c.spmKeepAlive.pins.battLow = s.pins.battLow := (congrArg Pins.battLow closes.pins).trans (by rw [hb])
  have running : c.spmKeepAlive = { c with spm := { s.spm with power := .keepalive, summary := some s.openSummary } } := by
    rw [State.spmKeepAlive, opened, spm]
  rw [acts, enter, batt]
  refine ⟨c, _, rfl, closes, ?_⟩
  unfold State.keptAliveSpm
  by_cases low : s.pins.battLow = true
  · rw [if_pos low, if_pos low, running]
    refine ⟨?_, fun p => ?_⟩
    · rw [State.enterColdKeep, State.ovenOff_shape]
      rfl
    · refine State.LeavesOut.trans ?_ (State.enterColdKeep_leavesOut _)
      exact State.leavesOut_of_fields rfl rfl rfl
  · rw [if_neg low, if_neg low, running]
    exact ⟨rfl, fun p => State.leavesOut_of_fields rfl rfl rfl⟩

/-- The clock and its accounting at entry to keep-alive, by how the clock stood (R68). -/
theorem State.Agrees.clock_cases (h : s.Agrees x) :
    let d := x.sdeKeepAlive.sde
    (s.sde.clock = .holdover ∨ s.sde.assisted = false → d.assisted = false) ∧
    (s.sde.clock = .locked ∨ s.sde.clock = .bridge ∨ s.sde.clock = .acquire ∧ s.tsg.timeValid = true →
      d.clock = .holdover ∧ d.anchorCorr = s.sde.fAvg ∧ d.anchorBin = s.currentBin ∧ d.anchorSeconds = s.tsg.seconds ∧
      d.hours = 0) ∧
    (s.sde.clock = .locked ∨ s.sde.clock = .acquire ∧ s.tsg.timeValid = true → d.e = min s.entryE eCap) ∧
    (s.sde.clock = .bridge ∨ s.sde.clock = .holdover ∨ s.sde.clock = .freerun → d.e = s.sde.e) ∧
    (s.sde.clock = .acquire → s.tsg.timeValid = false → d.clock = .freerun ∧ d.e = eCap) ∧
    (s.sde.clock = .holdover → d.clock = .holdover ∧
      (s.sde.assisted = true →
        d.anchorCorr = s.tsg.fApp ∧ d.anchorBin = s.currentBin ∧ d.anchorSeconds = s.tsg.seconds ∧ d.hours = 0)) ∧
    (s.sde.clock = .holdover ∧ s.sde.assisted = false ∨ d.clock = .freerun →
      d.anchorCorr = s.sde.anchorCorr ∧ d.anchorBin = s.sde.anchorBin ∧ d.anchorSeconds = s.sde.anchorSeconds ∧
      d.hours = s.sde.hours) ∧
    (s.sde.clock = .freerun → d.clock = .freerun) := by
  intro d
  rcases s.keepAlive_cases with valid | ⟨acquire, invalid⟩ | ⟨holdover, assisted⟩ | still
  · obtain ⟨entered, ended, e⟩ := h.toHoldover valid
    have away : s.sde.clock ≠ .holdover ∧ s.sde.clock ≠ .freerun := by
      rcases valid with h | h | ⟨h, -⟩ <;> rw [h] <;> exact ⟨by decide, by decide⟩
    have acquire : s.sde.clock = .acquire → s.tsg.timeValid = true := fun h => by
      rcases valid with h' | h' | ⟨-, v⟩
      · rw [h] at h'; cases h'
      · rw [h] at h'; cases h'
      · exact v
    refine ⟨fun _ => ended, fun _ => entered, fun from' => e.trans (if_neg ?_), fun from' => e.trans (if_pos ?_),
      fun h invalid => ?_, fun h => absurd h away.1, fun from' => ?_, fun h => absurd h away.2⟩
    · rcases from' with h | ⟨h, -⟩ <;> rw [h] <;> decide
    · rcases from' with h | h | h
      · exact h
      · exact absurd h away.1
      · exact absurd h away.2
    · exact absurd (invalid.symm.trans (acquire h)) (by decide)
    · rcases from' with ⟨h, -⟩ | h
      · exact absurd h away.1
      · exact absurd (entered.1.symm.trans h) (by decide)
  · obtain ⟨entered, ended, anchor⟩ := h.toFreerun acquire invalid
    refine ⟨fun _ => ended, fun from' => ?_, fun from' => ?_, fun from' => ?_, fun _ _ => entered, fun h => ?_, fun _ => anchor,
      fun h => ?_⟩ <;> simp [acquire, invalid] at *
  · obtain ⟨clock, ended, e, anchor⟩ := h.endsAssistance holdover assisted
    refine ⟨fun _ => ended, fun from' => ?_, fun from' => ?_, fun _ => e, fun h => ?_, fun _ => ⟨clock, fun _ => anchor⟩,
      fun from' => ?_, fun h => ?_⟩
    · simp [holdover] at from'
    · simp [holdover] at from'
    · simp [holdover] at h
    · rcases from' with ⟨-, h⟩ | h
      · exact absurd (h.symm.trans assisted) (by decide)
      · exact absurd (clock.symm.trans h) (by decide)
    · simp [holdover] at h
  · obtain ⟨clock, kept, e, anchor⟩ := h.stands still
    have out : s.sde.clock ≠ .locked ∧ s.sde.clock ≠ .bridge ∧ s.sde.clock ≠ .acquire := by
      rcases still with ⟨h, -⟩ | h <;> rw [h] <;> exact ⟨by decide, by decide, by decide⟩
    refine ⟨fun from' => kept.trans ?_, fun from' => ?_, fun from' => ?_, fun _ => e, fun h => absurd h out.2.2,
      fun h => ⟨clock.trans h, fun assisted => ?_⟩, fun _ => anchor, fun h => clock.trans h⟩
    · rcases still with ⟨-, h⟩ | h
      · exact h
      · exact from'.resolve_left (by rw [h]; decide)
    · simp [out] at from'
    · simp [out] at from'
    · rcases still with ⟨-, h'⟩ | h'
      · exact absurd (assisted.symm.trans h') (by decide)
      · exact absurd (h.symm.trans h') (by decide)

/-- Settles O41: out of RUN the level alone, in RUN the entry across the blocks. -/
theorem mainsFailureEntersKeepAlive : Obligations.MainsFailureEntersKeepAlive := by
  intro s
  refine ⟨fun idle => ?_, fun run => ?_⟩
  · exact if_neg fun acts => absurd (idle.symm.trans acts) (by decide)
  obtain ⟨c, t, next, closes, shape, leaves⟩ := exec_mainsGoodFalls run
  have detached := (State.detachAll_spec { s with pins := { s.pins with mainsGood := false } }).1
  have agrees := State.portsClosed_agrees { s with pins := { s.pins with mainsGood := false } }
  obtain ⟨assisted, toHoldover, e, keptE, toFreerun, holdover, anchor, freerun⟩ := agrees.clock_cases
  have kept := agrees.kept
  have withdrawn : ({ s with pins := { s.pins with mainsGood := false } } : State).withdrawnTru = s.withdrawnTru :=
    (State.withdrawnTru_spec _).trans s.withdrawnTru_spec.symm
  rw [← closes.sde] at assisted toHoldover e keptE toFreerun holdover anchor freerun kept
  rw [← closes.tru, withdrawn] at detached
  have out : ∀ p, (c.tru.tenants.get p).attached = false := closes.gone
  rw [detached] at out
  have policy := s.withdrawnTru.detached_policy out
  have generation := s.withdrawnTru.detached_generation
  rw [← detached] at policy generation
  have returned := fun p inn => (leaves p).returned (closes.returned p inn)
  have gone := fun p => (leaves p).detached (closes.gone p)
  obtain ⟨ν, rfl⟩ : ∃ ν, t = { c with spm := s.keptAliveSpm, nu := ν } := ⟨_, shape⟩
  obtain ⟨spm, power, oven, summary⟩ := s.keptAliveSpm_spec
  obtain ⟨config, serial, joint, lastEnded⟩ := s.withdrawnTru.detached_frame
  rw [← detached, s.withdrawnTru_spec] at config serial joint lastEnded
  rw [s.withdrawnTru_spec] at policy generation
  have slot : ∀ n, c.rmu.slots.get n = (s.rmu.slots.get n).keepAlive (s.tru.config.slots.get n).enable := fun n => by
    rw [closes.rmu]; exact Six.get_mapIdx _ _ _
  refine ⟨_, next, closes.pins, closes.tsg, closes.pending, closes.freeIndex, spm, power, oven, summary, fun p => ?_,
    generation, policy.1, policy.2, config, serial, joint, fun none => ?_, fun r pending => ?_, ?_⟩
  · refine ⟨gone p, (closes.ports p).1, (closes.ports p).2, ?_, returned p⟩
    rw [State.noticeLine, gone p]
    rfl
  · exact lastEnded.trans (by rw [none])
  · exact lastEnded.trans (by rw [pending])
  · refine ⟨by rw [kept], by rw [kept], assisted, by rw [kept], by rw [kept], by rw [kept], by rw [kept], by rw [kept],
      by rw [kept], by rw [kept], by rw [kept], by rw [kept], by rw [kept], by rw [kept], by rw [kept], by rw [kept],
      by rw [kept], by rw [kept], by rw [kept], by rw [kept], toHoldover, e, keptE, toFreerun, holdover, anchor, freerun, ?_,
      fun n => ⟨fun quiet => ?_, fun counting => ?_, fun halting => ?_⟩, closes.pou, closes.write, closes.ols⟩
    · exact closes.rmu.trans (by rw [closes.rmu]; rfl)
    · exact (slot n).trans (Slot.keepAlive_of_quiet _ quiet)
    · exact (slot n).trans (Slot.keepAlive_of_counting _ counting)
    · exact (slot n).trans (Slot.keepAlive_of_halting _ halting)

end Sys2Proof.Machine
end

section
/-!
PROOFS. The starts (O15 to O17).
-/

namespace Sys2Proof.Machine

variable {s x : State} {p : Port}

/-! ## The events that begin a start -/

theorem Ols.interruptedStore_cases (intact : Bool) (o : Ols) :
    o.interruptedStore intact = o.store ∨ o.inFirstPhase = true ∧ o.interruptedStore intact = o.store.map (·.invalidated) := by
  unfold Ols.interruptedStore
  cases first : o.inFirstPhase with
  | false => exact .inl (if_neg (by simp))
  | true => cases intact with
    | false => exact .inr ⟨rfl, if_pos rfl⟩
    | true => exact .inl (if_neg (by simp))

/-- A start as an event begins it (R178). -/
theorem State.beginStart_started (cause : StartCause) (x : State) :
    (x.beginStart cause).spm.startPending = some cause ∧ x.startedFrom (x.beginStart cause) := by
  have begun : ∃ i : Nat, x.beginStart cause =
      { x.startValues (some cause) .factory (x.ols.interruptedStore (Config.storeLeftIntact x.freeIndex)) with
        freeIndex := i } := by
    unfold State.beginStart
    split <;> exact ⟨_, rfl⟩
  obtain ⟨i, begun⟩ := begun
  have store := x.ols.interruptedStore_cases (Config.storeLeftIntact x.freeIndex)
  rw [begun]
  refine ⟨rfl, fun p => ?_, fun o => ?_, rfl, rfl, rfl, rfl, rfl, store⟩
  · have out : (Three.fill Tenant.detached).get p = .detached := Three.get_fill _ _
    have port : (x.tpi.mapIdx fun _ r => { r with state := .idle, overrun := false }).get p =
        { x.tpi.get p with state := .idle, overrun := false } := Three.get_mapIdx _ _ _
    have gone : ((Three.fill Tenant.detached).get p).attached = false := by rw [out]; rfl
    refine ⟨(congrArg TenantPort.state port).trans rfl, (congrArg TenantPort.overrun port).trans rfl, gone, ?_⟩
    show (((Three.fill Tenant.detached).get p).attached && _ && _) = false
    rw [gone]
    rfl
  · match o with
    | 0 => exact ⟨rfl, rfl⟩
    | 1 => exact ⟨rfl, rfl⟩
    | 2 => exact ⟨rfl, rfl⟩
    | 3 => exact ⟨rfl, rfl⟩

/-- Settles O15: the three events begin a start alike, with the cause that each gives. -/
theorem startEventsBeginAStart : Obligations.StartEventsBeginAStart := by
  intro s
  obtain ⟨causeA, startA⟩ := State.beginStart_started .powerOn s
  obtain ⟨causeB, startB⟩ := State.beginStart_started .powerOn { s with pins := { s.pins with resetN := false } }
  obtain ⟨causeC, startC⟩ :=
    State.beginStart_started (brownOutCause s.spm.startPending) { s with pins := { s.pins with vddOk := false } }
  refine ⟨_, _, _, rfl, rfl, rfl, causeA, causeB, causeC.trans ?_, startA, startB, startC⟩
  match s.spm.startPending with
  | none => rfl
  | some .powerOn => rfl
  | some .brownout => rfl

/-! ## The start sequence -/

/-- The sample that the start read takes (R87 to R89). -/
def startSample : SensorResult → Option Int
  | .noAnswer => none
  | .value θ => if -880 ≤ θ ∧ θ ≤ 2000 then some θ else none

theorem startSample_value (θ : Int) : startSample (.value θ) = if -880 ≤ θ ∧ θ ≤ 2000 then some θ else none := rfl

/-- The OLS after the start read, of one at its start values. -/
def Ols.startRead (read : SensorResult) (o : Ols) : Ols :=
  { o with
    theta := startSample read, lastSample := startSample read
    failures := if (startSample read).isSome then 0 else 1 }

theorem State.failedSample_atStart {store : Option StoredRecord} (ols : x.ols = .atStart store) :
    x.failedSample = { x with ols := { Ols.atStart store with failures := 1 } } := by
  unfold State.failedSample
  rw [ols]
  rfl

theorem State.validSample_atStart {store : Option StoredRecord} (ols : x.ols = .atStart store) (θ : Int) :
    x.validSample θ = { x with ols := { Ols.atStart store with theta := some θ, lastSample := some θ } } := by
  unfold State.validSample
  rw [ols]
  rfl

theorem State.endRead_atStart {store : Option StoredRecord} (ols : x.ols = .atStart store) (read : SensorResult) :
    x.endRead read = { x with ols := (Ols.atStart store).startRead read } := by
  unfold State.endRead Ols.startRead
  cases read with
  | noAnswer => exact State.failedSample_atStart ols
  | value θ =>
    show (if -880 ≤ θ ∧ θ ≤ 2000 then x.validSample θ else x.failedSample) = _
    rw [startSample_value]
    by_cases range : -880 ≤ θ ∧ θ ≤ 2000
    · rw [if_pos range, if_pos range]
      exact State.validSample_atStart ols θ
    · rw [if_neg range, if_neg range]
      exact State.failedSample_atStart ols

/-- The OLS at the end of a start: the start read, and the restore. -/
def State.startedOls (read : SensorResult) (s : State) : Ols := ((Ols.atStart s.ols.store).startRead read).restore

theorem State.startedOls_store (read : SensorResult) (s : State) : (s.startedOls read).store = s.ols.store := by
  unfold State.startedOls Ols.restore
  split
  · split <;> rfl
  · rfl

/-- Of the OLS the restore changes the learning and its outcome alone (Table 5-10). -/
theorem Ols.restore_shape (o : Ols) :
    o.restore =
      { o with
        bins := o.restore.bins, ring := o.restore.ring, aging := o.restore.aging, agingEst := o.restore.agingEst
        retainedAnchor := o.restore.retainedAnchor, retainedBin := o.restore.retainedBin, outcome := o.restore.outcome } := by
  unfold Ols.restore
  split
  · split <;> rfl
  · rfl

/-- What the restore leaves of the OLS is as the start read left it. -/
theorem State.startedOls_sampled (read : SensorResult) (s : State) :
    (s.startedOls read).theta = startSample read ∧ (s.startedOls read).lastSample = startSample read ∧
      (s.startedOls read).failures = if (startSample read).isSome then 0 else 1 := by
  unfold State.startedOls
  rw [Ols.restore_shape]
  exact ⟨rfl, rfl, rfl⟩

theorem State.startedOls_atStart (read : SensorResult) (s : State) :
    let o := s.startedOls read
    o.reading = false ∧ o.sensorFault = false ∧ o.dayLocked = 0 ∧ o.dayCorr = 0 ∧ o.dayTemp = 0 ∧ o.writing = none ∧
      o.rewritePending = false ∧ o.retryDue = false ∧ o.lastWrite = .none := by
  intro o
  have shape : o = _ := Ols.restore_shape ((Ols.atStart s.ols.store).startRead read)
  rw [shape]
  exact ⟨rfl, rfl, rfl, rfl, rfl, rfl, rfl, rfl, rfl⟩

/-- The SPM at the end of a start, by the lines (R169, R174, R178, R180). -/
def State.startedSpm (cause : StartCause) (s : State) : Spm :=
  { power := powerOf s.pins
    oven := if !s.pins.mainsGood && s.pins.battLow then .off else if s.pins.ovenOk then .settled else .warming
    warmUp := 0, ovenFault := false
    soak := if !(!s.pins.mainsGood && s.pins.battLow) && s.pins.ovenOk then 1800 else 0
    startCause := cause, startPending := none, summary := startSummary (powerOf s.pins) }

theorem State.ovenOn_leavesOut (x : State) : x.LeavesOut p x.ovenOn := by
  have warming : x.LeavesOut p
      (State.postOven (State.watchLatches { x with spm := { x.spm with oven := .warming, warmUp := 0 } })) := by
    refine State.LeavesOut.trans ?_ (State.postAll_leavesOut _ _)
    refine State.LeavesOut.trans ?_ (State.watchLatches_leavesOut _)
    exact State.leavesOut_of_fields rfl rfl rfl
  have settles : ∀ y : State, y.LeavesOut p y.ovenSettles := fun y => by
    refine State.LeavesOut.trans ?_ (State.postAll_leavesOut _ _)
    refine State.LeavesOut.trans ?_ (State.watchLatches_leavesOut _)
    exact State.leavesOut_of_fields rfl rfl rfl
  unfold State.ovenOn
  dsimp only
  split
  · exact warming.trans (settles _)
  · exact warming

/-- The end of a start changes the SPM, and where the oven goes on the notices of the attached. -/
theorem State.endStart_shape (cause : StartCause) (x : State)
    (off : x.spm.oven = .off ∧ x.spm.warmUp = 0 ∧ x.spm.ovenFault = false ∧ x.spm.soak = 0) :
    x.endStart cause = { x with spm := x.startedSpm cause, nu := (x.endStart cause).nu } ∧
      ∀ p, x.LeavesOut p (x.endStart cause) := by
  obtain ⟨oven, warmUp, fault, soak⟩ := off
  obtain ⟨b, hb⟩ : ∃ b : State,
      b = { x with
        spm :=
          { x.spm with
            power := powerOf x.pins, startCause := cause, startPending := none, summary := startSummary (powerOf x.pins) } } :=
    ⟨_, rfl⟩
  have begun : ∀ p, x.LeavesOut p b := fun p => by rw [hb]; exact State.leavesOut_of_fields rfl rfl rfl
  have on := b.ovenOn_shape
  have spm := b.ovenOn_spm
  have leaves := fun p => b.ovenOn_leavesOut (p := p)
  have cold : powerOf x.pins = .coldkeep ↔ (!x.pins.mainsGood && x.pins.battLow) = true := by
    unfold powerOf
    cases x.pins.mainsGood <;> cases x.pins.battLow <;> simp
  unfold State.endStart
  simp only [← hb]
  by_cases isCold : powerOf x.pins = .coldkeep
  · rw [if_pos isCold]
    refine ⟨?_, begun⟩
    rw [State.startedSpm, cold.mp isCold, hb]
    simp [oven, warmUp, fault, soak]
  · have warm : (!x.pins.mainsGood && x.pins.battLow) = false := Bool.eq_false_iff.mpr fun h => isCold (cold.mpr h)
    rw [if_neg isCold]
    refine ⟨?_, fun p => (begun p).trans (leaves p)⟩
    rw [on, spm, State.startedSpm, warm, hb]
    cases x.pins.ovenOk <;> simp [warmUp, fault, soak]

theorem clampCorr_clampCorr (f : Int) : clampCorr (clampCorr f) = clampCorr f := by
  have bounds := clampCorr_bounds f
  generalize clampCorr f = g at bounds
  unfold clampCorr clampAbs clampTo
  omega

/-- The retained prediction at the end of a start (R111). -/
def State.startPrediction (read : SensorResult) (s : State) : Int :=
  State.retainedPrediction { s with ols := s.startedOls read }

theorem State.startPrediction_clamped (read : SensorResult) (s : State) :
    clampCorr (s.startPrediction read) = s.startPrediction read := clampCorr_clampCorr _

/-- The state before the SPM ends the start. -/
def State.restoredStart (cause : StartCause) (read : SensorResult) (s : State) : State :=
  { s.startValues (some cause) (restoredConfig s.ols.store) s.ols.store with
    ols := s.startedOls read
    sde := { Sde.atStart (restoredConfig s.ols.store) with fInt := s.startPrediction read }
    tsg := { Tsg.atStart with fApp := s.startPrediction read } }

theorem State.runStart_eq (cause : StartCause) (read : SensorResult) (s : State) :
    s.runStart cause read = (s.restoredStart cause read).endStart cause := by
  obtain ⟨v, hv⟩ : ∃ v : State, v = s.startValues (some cause) (restoredConfig s.ols.store) s.ols.store := ⟨_, rfl⟩
  have ols : v.ols = .atStart s.ols.store := by rw [hv]; rfl
  unfold State.runStart
  simp only [← hv, State.endRead_atStart ols]
  have prediction : State.retainedPrediction { v with ols := s.startedOls read } = s.startPrediction read := rfl
  have corrected : State.startCorrection { v with ols := s.startedOls read } = s.restoredStart cause read := by
    unfold State.startCorrection State.orderFApp State.restoredStart
    rw [prediction, State.startPrediction_clamped, hv]
    rfl
  exact congrArg (State.endStart cause) corrected

/-- What the start sequence leaves. -/
theorem State.runStart_spec (cause : StartCause) (read : SensorResult) (s : State) :
    ∃ ν : Three TenantNotices,
      s.runStart cause read = { s.restoredStart cause read with spm := s.startedSpm cause, nu := ν } ∧
        ∀ p : Port, ν.get p = .detached := by
  obtain ⟨shape, leaves⟩ := State.endStart_shape cause (s.restoredStart cause read) ⟨rfl, rfl, rfl, rfl⟩
  refine ⟨((s.restoredStart cause read).endStart cause).nu, ?_, fun p => ?_⟩
  · rw [s.runStart_eq]
    exact shape
  · have out : (s.restoredStart cause read).attached p = false := by
      show ((Three.fill Tenant.detached).get p).attached = false
      rw [Three.get_fill]
      rfl
    exact (leaves p out).2.1.trans (Three.get_fill _ _)

theorem exec_startSequence {cause : StartCause} (pending : s.spm.startPending = some cause) (read : SensorResult) :
    exec (.startSequence read) s = .next (State.runStart cause read { s with pins := { s.pins with resetN := true, vddOk := true } }) := by
  show execStartSequence read s = _
  rw [execStartSequence, pending]

theorem startSummary_powerOf (p : Pins) :
    startSummary (powerOf p) =
      if p.mainsGood then none
      else some
        { beganAtStart := true, entrySeconds := 0, boundaries := 0, coldBoundaries := 0
          coldEntries := if p.battLow then 1 else 0, ovenFaultSeen := false, ended := false } := by
  unfold powerOf
  cases p.mainsGood <;> cases p.battLow <;> rfl

theorem startSample_of_none {read : SensorResult} (h : read = .noAnswer ∨ ∃ θ : Int, read = .value θ ∧ (θ < -880 ∨ 2000 < θ)) :
    startSample read = none := by
  rcases h with rfl | ⟨θ, rfl, out⟩
  · rfl
  · exact if_neg (by omega)

/-- Settles O16: every block takes its start value, the configuration from the restore and the SPM from the lines. -/
theorem startSequenceEndsStart : Obligations.StartSequenceEndsStart := by
  intro s read
  refine ⟨fun idle => ?_, fun cause pending => ?_⟩
  · show execStartSequence read s = _
    rw [execStartSequence, idle]
  · obtain ⟨ν, shape, detached⟩ :=
      State.runStart_spec cause read { s with pins := { s.pins with resetN := true, vddOk := true } }
    refine ⟨_, exec_startSequence pending read, ?_⟩
    rw [shape]
    obtain ⟨theta, sample, failures⟩ :=
      State.startedOls_sampled read { s with pins := { s.pins with resetN := true, vddOk := true } }
    obtain ⟨h1, h2, h3, h4, h5, h6, h7, h8, h9⟩ :=
      State.startedOls_atStart read { s with pins := { s.pins with resetN := true, vddOk := true } }
    refine ⟨rfl, rfl, rfl, rfl, rfl, fun n => ?_, rfl, rfl, rfl, rfl, rfl, rfl, h1, h2, h3, h4, h5, h6, h7, h8, h9,
      fun θ value low high => ?_, fun failed => ?_, rfl, rfl, fun o => ?_, fun p => ?_, rfl, rfl, rfl, rfl, rfl, rfl,
      fun p => ⟨?_, detached p⟩, rfl, rfl, rfl, rfl, rfl, rfl, rfl, rfl, ?_⟩
    · exact Six.get_mapIdx _ _ _
    · have taken : startSample read = some θ := by rw [value, startSample_value, if_pos ⟨low, high⟩]
      rw [taken] at theta sample failures
      exact ⟨theta, sample, failures⟩
    · rw [startSample_of_none failed] at theta sample failures
      exact ⟨theta, sample, failures⟩
    · match o with
      | 0 => rfl
      | 1 => rfl
      | 2 => rfl
      | 3 => rfl
    · exact Three.get_mapIdx _ _ _
    · exact Three.get_fill _ _
    · exact startSummary_powerOf s.pins

/-! ## The restore -/

theorem StoredRecord.valid_iff (r : StoredRecord) :
    r.valid = true ↔ ∃ w, r.integrity = some w ∧ r.format = 0x5A34 ∧ wordSum (r.format :: r.content.words) + w = 0xFFFF := by
  unfold StoredRecord.valid
  cases r.integrity with
  | none => simp
  | some w => simp [formatWord]

theorem Ols.restore_of_valid {o : Ols} {r : StoredRecord} (stored : o.store = some r) (valid : r.valid = true) :
    o.restore =
      { o with
        bins := r.content.bins.map (·.restored), ring := r.content.ring, aging := r.content.aging
        agingEst := (agingOf r.content.ring).2, retainedAnchor := r.content.anchor
        retainedBin := r.content.anchorBin, outcome := .restored } := by
  rw [Ols.restore, stored]
  exact if_pos valid

theorem Ols.restore_of_invalid {o : Ols} (invalid : ∀ r, o.store = some r → r.valid = false) : o.restore = o := by
  unfold Ols.restore
  cases stored : o.store with
  | none => rfl
  | some r => exact if_neg (by rw [invalid r stored]; decide)

theorem restoredConfig_of_valid {r : StoredRecord} (valid : r.valid = true) : restoredConfig (some r) = r.content.config :=
  if_pos valid

theorem restoredConfig_of_invalid {store : Option StoredRecord} (invalid : ∀ r, store = some r → r.valid = false) :
    restoredConfig store = .factory := by
  cases store with
  | none => rfl
  | some r => exact if_neg (by rw [invalid r rfl]; decide)

theorem BinRecord.restored_eq (r : BinRecord) :
    r.restored = if r.count = 0 then { count := 0, mean := 0, spread := 0 } else r := rfl

/-- Settles O17: by whether the stored record passes its check. -/
theorem startRestoresRetainedRecord : Obligations.StartRestoresRetainedRecord := by
  intro s read starting
  obtain ⟨cause, pending⟩ := Option.ne_none_iff_exists'.mp starting
  obtain ⟨ν, shape, -⟩ :=
    State.runStart_spec cause read { s with pins := { s.pins with resetN := true, vddOk := true } }
  refine ⟨_, exec_startSequence pending read, ?_⟩
  rw [shape]
  refine ⟨State.startedOls_store _ _, fun r w stored integrity format sums => ?_, fun invalid => ?_, ?_, rfl⟩
  · have valid : r.valid = true := r.valid_iff.mpr ⟨w, integrity, format, sums⟩
    have ols := Ols.restore_of_valid (o := (Ols.atStart s.ols.store).startRead read) stored valid
    have config : restoredConfig s.ols.store = r.content.config := by rw [stored, restoredConfig_of_valid valid]
    refine ⟨congrArg Ols.outcome ols, config, fun b => ?_, congrArg Ols.ring ols, congrArg Ols.aging ols,
      congrArg Ols.agingEst ols, congrArg Ols.retainedAnchor ols, congrArg Ols.retainedBin ols⟩
    rw [← BinRecord.restored_eq]
    refine (congrArg (fun o : Ols => o.bins.get b) ols).trans ?_
    exact Vector.get_map _ _ _
  · have fails : ∀ r, s.ols.store = some r → r.valid = false := fun r stored => by
      refine Bool.eq_false_iff.mpr fun valid => ?_
      obtain ⟨w, integrity, format, sums⟩ := r.valid_iff.mp valid
      rcases invalid r stored with wrong | wrong
      · exact wrong format
      · exact wrong w integrity sums
    have ols := Ols.restore_of_invalid (o := (Ols.atStart s.ols.store).startRead read) fails
    exact ⟨congrArg Ols.outcome ols, restoredConfig_of_invalid fails, congrArg Ols.bins ols, congrArg Ols.ring ols,
      congrArg Ols.aging ols, congrArg Ols.agingEst ols, congrArg Ols.retainedAnchor ols, congrArg Ols.retainedBin ols⟩
  · exact congrArg (fun term : Option Int => clampCorr (_ + term.getD 0)) (State.tempTerm_congr rfl _)

end Sys2Proof.Machine
end

section
/-!
PROOFS. The items of a CONFIGURE (O32).
-/

namespace Sys2Proof.Machine

variable {s : State} {n : SlotId}

/-! ## Numeric items -/

/-- A numeric item as Table 7-6 takes it. -/
theorem clampItem_held {lo hi : Int} (h : lo ≤ hi) (v : Int) :
    clampItem lo hi v = (max lo (min hi v), if lo ≤ v ∧ v ≤ hi then .ok else .clamped) := by
  rw [clampItem_eq h]
  congr 1
  exact if_congr (by omega) rfl rfl

theorem clampItem_taken {α : Type} {lo hi : Int} (h : lo ≤ hi) (v : Int) (put : Int → α) :
    (put (clampItem lo hi v).1, (clampItem lo hi v).2) =
      (put (max lo (min hi v)), if lo ≤ v ∧ v ≤ hi then OutcomeCode.ok else .clamped) := by
  rw [clampItem_held h]

/-! ## Items by their identifier -/

theorem State.configureItem_site (final : Nat) {setting : Byte} (site : ¬(1 ≤ setting.toNat ∧ setting.toNat ≤ 6))
    (slot : Byte) (v : BitVec 32) (s : State) :
    s.configureItem final ⟨setting, slot, v⟩ =
      ({ s with tru := { s.tru with config := (applySiteItem final s.tru.config setting v.toInt).1 } },
        (applySiteItem final s.tru.config setting v.toInt).2) := if_neg site

theorem State.configureItem_of_slotOf (final : Nat) {setting slot : Byte} (own : 1 ≤ setting.toNat ∧ setting.toNat ≤ 6)
    (other : setting ≠ 0x01) (is : slotOf slot = some n) (v : BitVec 32) (s : State) :
    s.configureItem final ⟨setting, slot, v⟩ =
      ({ s with tru := { s.tru with config := (applySlotItem s.tru.config n setting v.toInt).1 } },
        (applySlotItem s.tru.config n setting v.toInt).2) := by
  refine (if_pos own).trans ?_
  dsimp only
  rw [is]
  exact if_neg other

theorem State.configureItem_enable (final : Nat) {slot : Byte} (is : slotOf slot = some n) (v : BitVec 32) (s : State) :
    s.configureItem final ⟨0x01, slot, v⟩ = s.configureEnable n v.toInt := by
  have own : 1 ≤ (0x01 : Byte).toNat ∧ (0x01 : Byte).toNat ≤ 6 := by decide
  unfold State.configureItem
  dsimp only
  rw [if_pos own, is]
  rfl

theorem State.configureItem_of_no_slot (final : Nat) {setting slot : Byte} (own : 1 ≤ setting.toNat ∧ setting.toNat ≤ 6)
    (none : slotOf slot = none) (v : BitVec 32) (s : State) :
    s.configureItem final ⟨setting, slot, v⟩ = (s, .ignored) := by
  refine (if_pos own).trans ?_
  dsimp only
  rw [none]

/-- An identifier of no site setting is ignored. -/
theorem applySiteItem_unknown (final : Nat) (c : SiteConfig) {setting : Byte} (v : Int)
    (h : setting.toNat < 0x10 ∨ 0x19 ≤ setting.toNat ∧ setting.toNat ≤ 0x1F ∨ 0x23 ≤ setting.toNat) :
    applySiteItem final c setting v = (c, .ignored) := by
  unfold applySiteItem
  split
  case h_13 => rfl
  all_goals omega

theorem gateMost_eq (n : SlotId) :
    (if phaseCapable n then (100000000 : Int) else 10000000) = if n = 2 then 10000000 else 100000000 := by
  revert n; decide

theorem applySlotItem_comp {c : SiteConfig} {v : Int} (ne : n ≠ 2) :
    applySlotItem c n 0x04 v =
      ({ c with
          slots := c.slots.set n
            { c.slots.get n with
              settings := { (c.slots.get n).settings with comp := (clampItem (-1000000) 1000000 v).1 } } },
        (clampItem (-1000000) 1000000 v).2) := if_pos (bne_iff_ne.mpr ne)

theorem isInterval_iff_mem (v : Int) :
    isInterval v = true ↔ v ∈ ([1, 2, 4, 5, 8, 10, 20, 25, 40, 50, 100, 125, 200, 250, 500, 1000] : List Int) := by
  rw [isInterval_iff]
  simp only [supportedIntervals, List.mem_cons, List.not_mem_nil, or_false]
  omega

/-! ## The enable item -/

/-- A slot whose enable is set to a value that it does not have (Table 2-3). -/
theorem Slot.reenabled_eq (on : Bool) (sl : Slot) :
    (if on then sl.enableOn else sl.disable) =
      match on, sl.state with
      | true, .off =>
        { sl with state := .qualifying, faultCount := 0, qualifyCount := 0, emptyRun := 0, usableRun := 0 }
      | false, .qualifying => { sl with state := .halting, queue := sl.queue ++ [.haltMark] }
      | false, .usable => { sl with state := .halting, queue := sl.queue ++ [.haltMark] }
      | false, .selected => { sl with state := .halting, queue := sl.queue ++ [.haltMark] }
      | false, .disqualified => { sl with state := .off, holdOff := 0, lastValue := none }
      | _, _ => sl := by
  unfold Slot.enableOn Slot.disable
  cases on with
  | true => cases sl.state <;> rfl
  | false => cases sl.state <;> rfl

theorem State.changeEnable_shape (n : SlotId) (on : Bool) (s : State) :
    s.changeEnable n on =
      { s with
        nu := (s.changeEnable n on).nu
        rmu := s.rmu.setSlot n (if on then (s.rmu.slots.get n).enableOn else (s.rmu.slots.get n).disable) } := by
  unfold State.changeEnable
  dsimp only
  split <;> rfl

theorem State.changeEnable_nu_get (n : SlotId) (on : Bool) (p : Port) (s : State) :
    (s.changeEnable n on).nu.get p =
      if on = false ∧ (s.rmu.slots.get n).state = .disqualified ∧ s.attached p = true then
        (s.nu.get p).file (.refHalted (oneSlot n))
      else s.nu.get p := by
  unfold State.changeEnable
  dsimp only
  have posts : (!on && (s.rmu.slots.get n).state == .disqualified) = true ↔
      on = false ∧ (s.rmu.slots.get n).state = .disqualified := by simp
  by_cases told : (!on && (s.rmu.slots.get n).state == .disqualified) = true
  · rw [if_pos told]
    refine (State.postAll_nu_get _ _ _).trans (if_congr ?_ rfl rfl)
    exact ⟨fun inn => ⟨(posts.mp told).1, (posts.mp told).2, inn⟩, fun h => h.2.2⟩
  · rw [if_neg told]
    exact (if_neg fun h => told (posts.mpr ⟨h.1, h.2.1⟩)).symm

/-- An enable item of the value that the slot has changes nothing. -/
theorem State.configureEnable_same {on : Bool} {v : Int} (value : v = if on then 1 else 0)
    (same : (s.tru.config.slots.get n).enable = on) : s.configureEnable n v = (s, .ok) := by
  unfold State.configureEnable
  cases on with
  | true => simp only [value, if_true, same]; rfl
  | false => simp only [value, Bool.false_eq_true, if_false, same]; rfl

theorem State.configureEnable_change {on : Bool} {v : Int} (value : v = if on then 1 else 0)
    (change : (s.tru.config.slots.get n).enable ≠ on) :
    s.configureEnable n v =
      (State.changeEnable n on
        { s with
          tru :=
            { s.tru with
              config :=
                { s.tru.config with
                  slots := s.tru.config.slots.set n { s.tru.config.slots.get n with enable := on } } } }, .ok) := by
  unfold State.configureEnable
  have range : v = 0 ∨ v = 1 := by rw [value]; cases on <;> decide
  have is : decide (v = 1) = on := by rw [value]; cases on <;> rfl
  rw [if_pos range, is]
  exact if_neg change

theorem State.configureEnable_other {v : Int} (zero : v ≠ 0) (one : v ≠ 1) : s.configureEnable n v = (s, .ignored) :=
  if_neg (not_or.mpr ⟨zero, one⟩)

/-- Settles O32: each item by its identifier. -/
theorem configItemsByTable : Obligations.ConfigItemsByTable := by
  intro s final slot v setting run c put held code putSlot
  refine ⟨⟨rfl, fun i is => rfl⟩, fun unknown => ?_, fun low high none => ?_, rfl, fun n is => ?_, ?_, ?_, ?_, ?_, ?_,
    fun zero => ?_, fun one => ?_, fun zero one => ⟨?_, ?_⟩, ?_, ?_, ?_, ?_, fun positive => ?_, ?_, fun n on is value =>
    ⟨fun same => ?_, fun change => ?_⟩⟩
  · have site : ¬(1 ≤ setting.toNat ∧ setting.toNat ≤ 6) := by omega
    refine (State.configureItem_site final site slot v s).trans ?_
    rw [applySiteItem_unknown final _ _ (by omega)]
  · exact State.configureItem_of_no_slot final ⟨low, high⟩ (slotOf_of_le (by omega)) v s
  · have own := fun (id : Byte) (h : 1 ≤ id.toNat ∧ id.toNat ≤ 6) other =>
      State.configureItem_of_slotOf final h other (slotOf_of_lt is) v s
    refine ⟨?_, ?_, fun ne => ?_, ?_, ?_⟩
    · exact (own 0x02 (by decide) (by decide)).trans
        (clampItem_taken (by decide) v.toInt fun x => putSlot n { (c.slots.get n).settings with priority := x.toNat })
    · refine (own 0x03 (by decide) (by decide)).trans (Eq.trans ?_
        (clampItem_taken (by split <;> decide) v.toInt fun x => putSlot n { (c.slots.get n).settings with gate := x }))
      rw [← gateMost_eq]
      rfl
    · refine (own 0x04 (by decide) (by decide)).trans ?_
      rw [applySlotItem_comp ne]
      exact clampItem_taken (by decide) v.toInt fun x => putSlot n { (c.slots.get n).settings with comp := x }
    · exact (own 0x05 (by decide) (by decide)).trans
        (clampItem_taken (by decide) v.toInt fun x => putSlot n { (c.slots.get n).settings with qualify := x.toNat })
    · exact (own 0x06 (by decide) (by decide)).trans
        (clampItem_taken (by decide) v.toInt fun x => putSlot n { (c.slots.get n).settings with freshness := x.toNat })
  · exact clampItem_taken (by decide) v.toInt fun x => put { c with lfNominal := x.toNat }
  · exact clampItem_taken (by decide) v.toInt fun x => put { c with bandwidth := x.toNat }
  · exact clampItem_taken (by decide) v.toInt fun x => put { c with lockThreshold := x }
  · exact clampItem_taken (by decide) v.toInt fun x => put { c with stepThreshold := x }
  · exact clampItem_taken (by decide) v.toInt fun x => put { c with bridgeTime := x.toNat }
  · refine (State.configureItem_site final (by decide) slot v s).trans ?_
    rw [show applySiteItem final c 0x15 v.toInt = ({ c with revertive := false }, .ok) from if_pos zero]
  · refine (State.configureItem_site final (by decide) slot v s).trans ?_
    have notZero : v.toInt ≠ 0 := by omega
    rw [show applySiteItem final c 0x15 v.toInt = ({ c with revertive := true }, .ok) from (if_neg notZero).trans (if_pos one)]
  · refine (State.configureItem_site final (by decide) slot v s).trans ?_
    rw [show applySiteItem final c 0x15 v.toInt = (c, .ignored) from (if_neg zero).trans (if_neg one)]
  · cases is : slotOf slot with
    | none => exact State.configureItem_of_no_slot final (by decide) is v s
    | some n => exact (State.configureItem_enable final is v s).trans (State.configureEnable_other zero one)
  · exact clampItem_taken (by decide) v.toInt fun x => put { c with waitToRestore := x.toNat }
  · exact clampItem_taken (by decide) v.toInt fun x => put { c with sigmaFloor := x }
  · exact clampItem_taken (by decide) v.toInt fun x => put { c with eFloor := x }
  · refine (State.configureItem_site final (by decide) slot v s).trans ?_
    rw [show applySiteItem final c 0x20 v.toInt =
      if isInterval v.toInt then ({ c with out3Interval := v.toInt.toNat }, .ok) else (c, .ignored) from rfl]
    by_cases supported : isInterval v.toInt = true
    · rw [if_pos supported, if_pos ((isInterval_iff_mem _).mp supported)]
    · rw [if_neg supported, if_neg fun h => supported ((isInterval_iff_mem _).mpr h)]
  · have half : ((halfInterval final : Nat) : Int) = (final : Int) * 5000 := Int.natCast_mul final 5000
    refine Eq.trans ?_ (clampItem_taken (by omega) v.toInt fun x => put { c with out3Width := x.toNat })
    rw [← half]
    rfl
  · exact clampItem_taken (by decide) v.toInt fun x => put { c with out3Offset := x }
  · exact (State.configureItem_enable final (slotOf_of_lt is) v s).trans (State.configureEnable_same value same)
  · refine ⟨_, (State.configureItem_enable final (slotOf_of_lt is) v s).trans (State.configureEnable_change value change), ?_,
      fun p => State.changeEnable_nu_get n on p _⟩
    rw [State.changeEnable_shape]
    refine State.eq_of_fields rfl (congrArg (fun sl => s.rmu.setSlot n sl) ?_) rfl rfl rfl rfl rfl rfl rfl rfl rfl rfl
    exact Slot.reenabled_eq on (s.rmu.slots.get n)

end Sys2Proof.Machine
end

section
/-!
PROOFS. What the execution of a joint action leaves, of each kind (R147, R151, R152).
-/

namespace Sys2Proof.Machine

variable {s b d t x y : State} {q : Port}

/-! ## The items of a CONFIGURE read the configuration and the slots -/

/-- An item's effect on the RMU and the configuration, and its result, are read from these alone. -/
def State.SameSite (x y : State) : Prop := x.tru.config = y.tru.config ∧ x.rmu = y.rmu

theorem State.changeEnable_rmu (n : SlotId) (on : Bool) (s : State) :
    (s.changeEnable n on).rmu =
      s.rmu.setSlot n (if on then (s.rmu.slots.get n).enableOn else (s.rmu.slots.get n).disable) := by
  rw [State.changeEnable_shape]

theorem State.configureEnable_congr (h : x.SameSite y) (n : SlotId) (v : Int) :
    (x.configureEnable n v).2 = (y.configureEnable n v).2 ∧ (x.configureEnable n v).1.SameSite (y.configureEnable n v).1 := by
  obtain ⟨config, rmu⟩ := h
  unfold State.configureEnable
  dsimp only
  rw [config]
  split
  · split
    · exact ⟨rfl, config, rmu⟩
    · refine ⟨rfl, ?_, ?_⟩
      · rw [(State.changeEnable_frame _ _ _).2.2.2.1, (State.changeEnable_frame _ _ _).2.2.2.1]
      · rw [State.changeEnable_rmu, State.changeEnable_rmu]
        dsimp only
        rw [rmu]
  · exact ⟨rfl, config, rmu⟩

theorem State.configureItem_congr (h : x.SameSite y) (final : Nat) (i : ConfigItem) :
    (x.configureItem final i).2 = (y.configureItem final i).2 ∧
      (x.configureItem final i).1.SameSite (y.configureItem final i).1 := by
  have same := h
  obtain ⟨config, rmu⟩ := h
  unfold State.configureItem
  dsimp only
  rw [config]
  split
  · cases slotOf i.slot with
    | none => exact ⟨rfl, same⟩
    | some n =>
      dsimp only
      split
      · exact State.configureEnable_congr same n _
      · exact ⟨rfl, rfl, rmu⟩
  · exact ⟨rfl, rfl, rmu⟩

theorem State.configureItems_congr (final : Nat) (is : List ConfigItem) {x y : State} (h : x.SameSite y) :
    (x.configureItems final is).2 = (y.configureItems final is).2 ∧
      (x.configureItems final is).1.SameSite (y.configureItems final is).1 := by
  induction is generalizing x y with
  | nil => exact ⟨rfl, h⟩
  | cons i is ih =>
    obtain ⟨result, first⟩ := State.configureItem_congr h final i
    obtain ⟨results, rest⟩ := ih first
    exact ⟨congrArg₂ List.cons result results, rest⟩

theorem State.configureItems_length (final : Nat) (is : List ConfigItem) (x : State) :
    (x.configureItems final is).2.length = is.length := by
  induction is generalizing x with
  | nil => rfl
  | cons i is ih => exact congrArg (· + 1) (ih _)

/-! ## What the items tell -/

theorem State.configureItem_retains {fits : Report → Prop} (h : Ignores fits [5]) (final : Nat) (i : ConfigItem) (x : State) :
    (x.nu.get q).Retains fits ((x.configureItem final i).1.nu.get q) := by
  have enable : ∀ (n : SlotId) (on : Bool) (y : State), (y.nu.get q).Retains fits ((y.changeEnable n on).nu.get q) := by
    intro n on y
    rw [State.changeEnable_nu_get]
    split
    · exact TenantNotices.file_retains (h _ (by simp [Report.kind])) _
    · exact .refl _ _
  unfold State.configureItem
  dsimp only
  split
  · cases slotOf i.slot with
    | none => exact .refl _ _
    | some n =>
      dsimp only
      split
      · unfold State.configureEnable
        dsimp only
        split
        · split
          · exact .refl _ _
          · dsimp only
            refine TenantNotices.Retains.trans ?_ (enable n _ _)
            exact .refl _ _
        · exact .refl _ _
      · exact .refl _ _
  · exact .refl _ _

theorem State.configureItems_retains {fits : Report → Prop} (h : Ignores fits [5]) (final : Nat) (is : List ConfigItem)
    (x : State) : (x.nu.get q).Retains fits ((x.configureItems final is).1.nu.get q) := by
  induction is generalizing x with
  | nil => exact .refl _ _
  | cons i is ih => exact (State.configureItem_retains h final i x).trans (ih _)

/-! ## The judgement at a new E -/

/-- The flag of a tenant whose adv is known, by E and the time-valid flag. -/
theorem State.setE_told (e : Int) (inn : x.attached q = true)
    (changed : (x.setE e).sde.tol.get q ≠ x.sde.tol.get q) :
    ((x.nu.get q).file (tolReport ((x.setE e).sde.tol.get q) (min e eCap))).LowsFall ((x.setE e).nu.get q) := by
  obtain ⟨a, ha⟩ : ∃ a : State, a = { x with sde := { x.sde with e := min e eCap } } := ⟨_, rfl⟩
  have judged : x.setE e = a.judgeAll := by rw [ha]; rfl
  have inA : a.attached q = true := by rw [ha]; exact inn
  have tol : a.sde.tol = x.sde.tol := by rw [ha]
  have nu : a.nu = x.nu := by rw [ha]
  have isE : a.sde.e = min e eCap := by rw [ha]
  have filed := State.judgeAll_nu q a
  rw [judged, State.judgeAll_tol, if_pos inA, ← tol] at changed
  rw [judged, State.judgeAll_tol, if_pos inA, ← nu, ← isE]
  rwa [State.judgedNotices, if_pos ⟨inA, changed⟩] at filed

/-! ## From the request to the answer -/

/-- An action that is carried out for a request at s runs on b: the TRU's record aside, and the ports and lines, b is s. -/
structure State.RunsFor (s b : State) : Prop where
  tsg : b.tsg = s.tsg
  rmu : b.rmu = s.rmu
  sde : b.sde = s.sde
  ols : b.ols = s.ols
  pou : b.pou = s.pou
  spm : b.spm = s.spm
  nu : b.nu = s.nu
  freeIndex : b.freeIndex = s.freeIndex
  pending : b.pending = s.pending
  config : b.tru.config = s.tru.config

/-- What an action left in d stands in t, for the tenants attached there; b is where it ran, for a request at s. -/
structure State.StandsIn (s b d t : State) : Prop where
  tsg : t.tsg = d.tsg
  rmu : t.rmu = d.rmu
  ols : t.ols = d.ols
  pou : t.pou = d.pou
  spm : t.spm = d.spm
  freeIndex : t.freeIndex = d.freeIndex
  pending : t.pending = d.pending
  config : t.tru.config = d.tru.config
  sde : t.sde = { d.sde with tol := t.sde.tol }
  tenant : ∀ q, t.attached q = true → b.tru.tenants.get q = s.tru.tenants.get q
  attached : ∀ q, t.attached q = true → b.attached q = true
  tol : ∀ q, t.attached q = true → t.sde.tol.get q = d.sde.tol.get q
  told : ∀ q, t.attached q = true → ∀ r : Report, r.kind ≤ 3 → (d.nu.get q).Retains (fun x => x = r) (t.nu.get q)

theorem State.RunsFor.sameSite (h : s.RunsFor b) : b.SameSite s := ⟨h.config, h.rmu⟩

theorem State.RunsFor.retainedContent (h : s.RunsFor b) : b.retainedContent = s.retainedContent := by
  unfold State.retainedContent
  rw [h.config, h.ols, h.sde]

/-- What STEP_NOW leaves (R63, R151). -/
theorem State.stepNow_stands (runs : s.RunsFor b) (stands : s.StandsIn b (b.carryOut .stepNow).1 t) :
    s.stepAskedIn t (b.carryOut .stepNow).2 := by
  have clock : b.sde.clock = s.sde.clock := by rw [runs.sde]
  obtain ⟨d, rs, run, shape, result⟩ : ∃ d rs, b.carryOut .stepNow = (d, rs) ∧
      d = { b with sde := { b.sde with stepNow := b.sde.stepNow || b.sde.clock == .acquire } } ∧
      rs = [if s.sde.clock = .acquire then .ok else .notApplicable] := by
    unfold State.carryOut
    dsimp only
    rw [← clock]
    by_cases acquire : b.sde.clock = .acquire
    · have asked : (b.sde.stepNow || b.sde.clock == .acquire) = true := by rw [acquire]; exact Bool.or_true _
      rw [if_pos acquire, if_pos acquire, asked]
      exact ⟨_, _, rfl, rfl, rfl⟩
    · rw [if_neg acquire, if_neg acquire, beq_eq_false_iff_ne.mpr acquire, Bool.or_false]
      exact ⟨_, _, rfl, rfl, rfl⟩
  rw [run] at stands ⊢
  subst shape
  refine ⟨stands.tsg.trans runs.tsg, stands.rmu.trans runs.rmu, stands.pou.trans runs.pou, stands.ols.trans runs.ols,
    stands.config.trans runs.config, ?_, fun q inn => (stands.tol q inn).trans (by rw [← runs.sde]), result⟩
  rw [stands.sde]
  dsimp only
  rw [runs.sde]

/-- What CLEAR_LEARNING leaves (R105). -/
theorem State.clearLearning_stands (runs : s.RunsFor b) (stands : s.StandsIn b b.clearLearning t) : s.clearedIn t := by
  obtain ⟨c, hc⟩ : ∃ c : State, c =
      { b with
        ols :=
          { b.ols with
            bins := emptyBins, ring := [], aging := 0, agingEst := false, dayLocked := 0, dayCorr := 0, dayTemp := 0 } } :=
    ⟨_, rfl⟩
  have cleared : b.clearLearning = c.requestWrite := by rw [hc]; rfl
  have content : c.retainedContent = { s.retainedContent with bins := emptyBins, ring := [], aging := 0 } := by
    rw [← runs.retainedContent, hc]
    rfl
  obtain ⟨tsg, rmu, sde, tru, nu, pou, -⟩ := b.clearLearning_frame
  have write := c.requestWrite_requested
  have writing : c.ols.writing = s.ols.writing := by rw [hc, ← runs.ols]
  have rewrite : c.ols.rewritePending = s.ols.rewritePending := by rw [hc, ← runs.ols]
  rw [content, writing, rewrite, ← cleared, ← stands.ols] at write
  refine ⟨stands.tsg.trans (tsg.trans runs.tsg), stands.rmu.trans (rmu.trans runs.rmu), stands.pou.trans (pou.trans runs.pou),
    stands.config.trans ((congrArg _ tru).trans runs.config), ?_, fun q inn => (stands.tol q inn).trans (by rw [sde, runs.sde]),
    ?_, write⟩
  · rw [stands.sde, sde, runs.sde]
  · rw [stands.ols, cleared, c.requestWrite_ols]
    split
    · rw [hc, ← runs.ols]
    · rw [hc, ← runs.ols]

end Sys2Proof.Machine
end

section
/-!
PROOFS. What RESTART_CLOCK and CONFIGURE leave (R119, R141, R151, R152).
-/

namespace Sys2Proof.Machine

variable {s b d t x y : State} {q : Port}

/-! ## RESTART_CLOCK -/

/-- The steps of the restart: the clock told, the selection told, and the judgement. -/
theorem State.restartClock_steps (b : State) :
    ∃ u v : State,
      (b.sde.clock = .freerun → u = b.restarted) ∧
      (b.sde.clock ≠ .freerun → u = b.restarted.postAll (.clockState .freerun false false)) ∧
      (b.sde.selected = none → v = u) ∧ (b.sde.selected ≠ none → v = u.postAll (.selection none)) ∧
      b.restartClock = v.watchLatches.judgeAll := by
  refine ⟨if b.sde.clock = .freerun then b.restarted else b.restarted.postAll (.clockState .freerun false false),
    if b.sde.selected.isSome then
      (if b.sde.clock = .freerun then b.restarted
        else b.restarted.postAll (.clockState .freerun false false)).postAll (.selection none)
    else if b.sde.clock = .freerun then b.restarted else b.restarted.postAll (.clockState .freerun false false),
    fun h => if_pos h, fun h => if_neg h, fun h => if_neg ?_, fun h => if_pos ?_, rfl⟩
  · rw [h]; decide
  · exact Option.isSome_iff_ne_none.mpr h

theorem Slot.restart_eq (sl : Slot) :
    sl.restart =
      if sl.state = .off ∨ sl.state = .halting then sl
      else
        { sl with
          state := .qualifying, faultCount := 0, qualifyCount := 0, emptyRun := 0, usableRun := 0, holdOff := 0 } := by
  unfold Slot.restart
  cases sl.state <;> rfl

/-- What a tenant is told by the restart, with the blocks but the notices as the restart sets them. -/
structure State.RestartsTo (b v : State) : Prop where
  tsg : v.tsg = { b.tsg with timeValid := false }
  rmu : v.rmu = b.restarted.rmu
  sde : v.sde = b.sde.restarted
  tenants : v.tru.tenants = b.tru.tenants
  stands : ∀ (q : Port) (r : Report), r.kind ∉ [2, 3] → (b.nu.get q).Retains (fun x => x = r) (v.nu.get q)
  clock : ∀ q : Port, b.attached q = true → b.sde.clock ≠ .freerun →
    (((b.nu.get q).file (.clockState .freerun false false))).Retains (fun x => x = .clockState .freerun false false) (v.nu.get q)
  selection : ∀ q : Port, b.attached q = true → b.sde.selected ≠ none →
    ∃ n : TenantNotices, (b.nu.get q).Retains (fun _ => False) n ∧ v.nu.get q = n.file (.selection none)

theorem State.restartClock_restartsTo (b : State) :
    ∃ v : State, b.RestartsTo v ∧ b.restartClock = v.watchLatches.judgeAll := by
  obtain ⟨u, v, still, posted, same, ended, eq⟩ := b.restartClock_steps
  have first : u.tsg = b.restarted.tsg ∧ u.rmu = b.restarted.rmu ∧ u.sde = b.restarted.sde ∧ u.tru = b.tru ∧
      ∀ (q : Port) (fits : Report → Prop), Ignores fits [2] → (b.nu.get q).Retains fits (u.nu.get q) := by
    by_cases freerun : b.sde.clock = .freerun
    · rw [still freerun]; exact ⟨rfl, rfl, rfl, rfl, fun q fits _ => .refl _ _⟩
    · rw [posted freerun]
      exact ⟨rfl, rfl, rfl, rfl, fun q fits h => State.postAll_retains (h _ (by simp [Report.kind])) b.restarted⟩
  have second : v.tsg = u.tsg ∧ v.rmu = u.rmu ∧ v.sde = u.sde ∧ v.tru = u.tru ∧
      ∀ (q : Port) (fits : Report → Prop), Ignores fits [3] → (u.nu.get q).Retains fits (v.nu.get q) := by
    by_cases none : b.sde.selected = none
    · rw [same none]; exact ⟨rfl, rfl, rfl, rfl, fun q fits _ => .refl _ _⟩
    · rw [ended none]
      exact ⟨rfl, rfl, rfl, rfl, fun q fits h => State.postAll_retains (h _ (by simp [Report.kind])) u⟩
  obtain ⟨tsg1, rmu1, sde1, tru1, retains1⟩ := first
  obtain ⟨tsg2, rmu2, sde2, tru2, retains2⟩ := second
  refine ⟨v, ⟨tsg2.trans tsg1, rmu2.trans rmu1, sde2.trans sde1, congrArg _ (tru2.trans tru1), fun q r kind => ?_, fun q inn away => ?_,
    fun q inn some => ⟨u.nu.get q, retains1 q _ (ignores_false _), ?_⟩⟩, eq⟩
  · simp only [List.mem_cons, List.not_mem_nil, or_false, not_or] at kind
    exact (retains1 q _ (ignores_eq r (by simpa using kind.1))).trans (retains2 q _ (ignores_eq r (by simpa using kind.2)))
  · have filed : u.nu.get q = (b.nu.get q).file (.clockState .freerun false false) := by
      rw [posted away, State.postAll_nu_get]
      exact if_pos inn
    rw [← filed]
    exact retains2 q _ (ignores_eq _ (by simp [Report.kind]))
  · rw [ended some, State.postAll_nu_get]
    exact if_pos ((State.attached_congr (congrArg _ tru1) q).trans inn)

/-- What RESTART_CLOCK leaves (R152, R69, R45, R84, R125). -/
theorem State.restartClock_stands (runs : s.RunsFor b) (stands : s.StandsIn b b.restartClock t) : s.restartedIn t := by
  obtain ⟨v, restarts, eq⟩ := b.restartClock_restartsTo
  obtain ⟨ols, tru, pou, -⟩ := b.restartClock_frame
  have rmu : b.restartClock.rmu = b.restarted.rmu := by rw [eq, v.watchLatches.judgeAll_frame.2.1]; exact restarts.rmu
  have shape := v.watchLatches.judgeAll_shape
  have sde : b.restartClock.sde = { b.sde.restarted with tol := b.restartClock.sde.tol } := by
    obtain ⟨τ, judged⟩ := v.watchLatches.judgeAll_sde
    rw [eq, judged, ← restarts.sde]
    rfl
  have tsg : b.restartClock.tsg = { b.tsg with timeValid := false } := by rw [eq, shape]; exact restarts.tsg
  have slot : ∀ n, t.rmu.slots.get n = (s.rmu.slots.get n).restart := fun n => by
    rw [stands.rmu, rmu, ← runs.rmu]
    exact Six.get_mapIdx _ _ _
  refine ⟨by rw [stands.tsg, tsg, runs.tsg], by rw [stands.ols, ols, runs.ols], by rw [stands.pou, pou, runs.pou],
    by rw [stands.config, tru, runs.config], ?_, ?_, fun n => (slot n).trans (Slot.restart_eq _), fun q inn => ?_⟩
  · rw [stands.sde, sde, runs.sde]
    rfl
  · rw [stands.rmu, rmu, ← runs.rmu]
    rfl
  · have inB := stands.attached q inn
    have inV : v.watchLatches.attached q = true := (State.attached_congr restarts.tenants q).trans inB
    have lost : v.watchLatches.toleranceOf q = false := by
      have invalid : v.watchLatches.tsg.timeValid = false := congrArg Tsg.timeValid restarts.tsg
      rw [State.toleranceOf_of_attached inV, invalid, Bool.false_and]
    have tol : t.sde.tol.get q = false := by
      rw [stands.tol q inn, eq, State.judgeAll_tol, if_pos inV, lost]
    have later : ∀ r : Report, r.kind ≠ 0 → r.kind ≠ 1 → r.kind ≤ 3 →
        (v.nu.get q).Retains (fun x => x = r) (t.nu.get q) := fun r n0 n1 low => by
      refine TenantNotices.Retains.trans ?_ (stands.told q inn r low)
      rw [eq]
      refine (State.watchLatches_retains v).trans (State.judgeAll_retains ?_ q _)
      exact ignores_eq r (by simp [n0, n1])
    refine ⟨tol, fun away => ?_, fun some => ?_, fun had => ?_⟩
    · have filed := restarts.clock q inB (by rw [runs.sde]; exact away)
      rw [runs.nu] at filed
      refine State.told_of_file (fits₀ := fun _ => False) (by decide) (.refl _ _) (filed.trans (later _ ?_ ?_ ?_))
      all_goals decide
    · obtain ⟨n, before, filed⟩ := restarts.selection q inB (by rw [runs.sde]; exact some)
      rw [runs.nu] at before
      refine State.told_of_file (by decide) before ?_
      rw [← filed]
      exact later _ (by decide) (by decide) (by decide)
    · have changes : v.watchLatches.flagChanges q := ⟨inV, by
        have flag : v.watchLatches.sde.tol.get q = s.sde.tol.get q := by
          rw [← runs.sde]
          show v.sde.tol.get q = b.sde.tol.get q
          rw [restarts.sde]
          rfl
        rw [lost, flag, had]
        decide⟩
      have filed := State.judgeAll_nu q v.watchLatches
      have cap : v.watchLatches.sde.e = eCap := congrArg Sde.e restarts.sde
      rw [State.judgedNotices, if_pos changes, lost, cap] at filed
      have before := restarts.stands q (.tolLost eCap) (by decide)
      rw [runs.nu] at before
      refine State.told_of_file (by decide) (before.trans (State.watchLatches_retains v))
        ((filed.retains _).trans ?_)
      rw [← eq]
      exact stands.told q inn _ (by decide)

/-! ## CONFIGURE -/

/-- The state of an action on its way: the items taken and E raised to the floor. -/
def State.configuredRaised (items : List ConfigItem) (b : State) : State :=
  (b.configureItems (finalInterval b.tru.config.out3Interval items) items).1.raiseToFloor

/-- OUT3's pending record formed where its settings differ from those of a configuration. -/
def State.formOut3From (c : SiteConfig) (x : State) : State := if out3Changed c x.tru.config then x.formOut3 else x

theorem State.configure_eq (items : List ConfigItem) (b : State) :
    b.configure items =
      (((b.configuredRaised items).formOut3From b.tru.config).requestWrite,
        (b.configureItems (finalInterval b.tru.config.out3Interval items) items).2) := rfl

theorem State.formOut3From_stays (c : SiteConfig) (x : State) :
    x.formOut3From c = { x with pou := (x.formOut3From c).pou } := by
  unfold State.formOut3From
  split <;> rfl

theorem out3Changed_iff (c c' : SiteConfig) :
    out3Changed c c' = true ↔
      (c'.out3Interval, c'.out3Width, c'.out3Offset) ≠ (c.out3Interval, c.out3Width, c.out3Offset) := by
  rw [ne_comm]
  simp only [out3Changed, Bool.or_eq_true, bne_iff_ne, ne_eq, Prod.mk.injEq]
  tauto

theorem State.formOut3From_pou (c : SiteConfig) (x : State) :
    let c' := x.tru.config
    (∀ o : OutId, o ≠ 3 → (x.formOut3From c).pou.get o = x.pou.get o) ∧
    ((c'.out3Interval, c'.out3Width, c'.out3Offset) = (c.out3Interval, c.out3Width, c.out3Offset) →
      (x.formOut3From c).pou.get 3 = x.pou.get 3) ∧
    ((c'.out3Interval, c'.out3Width, c'.out3Offset) ≠ (c.out3Interval, c.out3Width, c.out3Offset) →
      (x.formOut3From c).pou.get 3 = { x.pou.get 3 with pending := some (.common c') }) := by
  intro c'
  have changed := out3Changed_iff c c'
  unfold State.formOut3From
  by_cases out3 : out3Changed c c' = true
  · rw [if_pos out3]
    refine ⟨fun o ne => ?_, fun same => absurd same (changed.mp out3), fun _ => rfl⟩
    match o with
    | 0 => rfl
    | 1 => rfl
    | 2 => rfl
    | 3 => exact absurd rfl ne
  · rw [if_neg out3]
    exact ⟨fun o _ => rfl, fun _ => rfl, fun h => absurd (changed.mpr h) out3⟩

/-- E after the floor is compared with it once (R119; log 35). -/
theorem State.raiseToFloor_sde (x : State) :
    x.raiseToFloor.sde =
      { x.sde with
        e := if x.sde.e < x.tru.config.eFloor then min x.tru.config.eFloor eCap else x.sde.e
        tol := x.raiseToFloor.sde.tol } := by
  unfold State.raiseToFloor
  by_cases below : x.sde.e < x.tru.config.eFloor
  · rw [if_pos below, if_pos below, State.setE_shape]
  · rw [if_neg below, if_neg below]

theorem State.raiseToFloor_of_below (below : x.sde.e < x.tru.config.eFloor) : x.raiseToFloor = x.setE x.tru.config.eFloor :=
  if_pos below

theorem State.raiseToFloor_of_above (above : x.tru.config.eFloor ≤ x.sde.e) : x.raiseToFloor = x := if_neg (not_lt.mpr above)

/-- What CONFIGURE leaves (R151, R141, R119, R157, R100). -/
theorem State.configure_stands {items : List ConfigItem} (runs : s.RunsFor b) (stands : s.StandsIn b (b.configure items).1 t) :
    s.configuredBy t items (b.configure items).2 := by
  obtain ⟨results, config, rmu⟩ :=
    State.configureItems_congr (finalInterval s.tru.config.out3Interval items) items runs.sameSite
  have length := s.configureItems_length (finalInterval s.tru.config.out3Interval items) items
  have told := fun q => b.configureItems_retains (q := q) (fits := fun _ => False) (ignores_false _)
    (finalInterval s.tru.config.out3Interval items) items
  have sameTenants := State.configureItems_tenants (finalInterval s.tru.config.out3Interval items) items b
  have frame := b.configureItems_frame (finalInterval s.tru.config.out3Interval items) items
  unfold State.configuredBy
  rw [State.configure_eq, runs.config] at *
  unfold State.configuredRaised at *
  rw [runs.config] at *
  generalize b.configureItems (finalInterval s.tru.config.out3Interval items) items = done at *
  generalize s.configureItems (finalInterval s.tru.config.out3Interval items) items = done' at *
  obtain ⟨u, rs⟩ := done
  dsimp only at *
  obtain ⟨tsg, sde, ols, pou, -⟩ := frame
  have out3 := State.formOut3From_pou s.tru.config u.raiseToFloor
  have raised := u.raiseToFloor_frame
  have sdeRaised := u.raiseToFloor_sde
  obtain ⟨z, hz⟩ : ∃ z, z = u.raiseToFloor.formOut3From s.tru.config := ⟨_, rfl⟩
  have formed := u.raiseToFloor.formOut3From_stays s.tru.config
  rw [← hz] at stands out3 formed
  obtain ⟨rTsg, rRmu, rOls, rTru, rPou, -⟩ := raised
  have written := z.requestWrite_frame
  have write := z.requestWrite_requested
  have writeOls := z.requestWrite_ols
  obtain ⟨wTsg, wRmu, wSde, wTru, wNu, wPou, -⟩ := written
  have zConfig : z.tru.config = u.tru.config := by rw [formed, rTru]
  have zSde : z.sde = u.raiseToFloor.sde := by rw [formed]
  have zOls : z.ols = s.ols := by rw [formed, rOls, ols, runs.ols]
  have tConfig : t.tru.config = u.tru.config := by rw [stands.config, wTru, zConfig]
  have e : u.sde = s.sde := sde.trans runs.sde
  rw [rTru, rPou, pou, runs.pou, ← wPou, ← stands.pou] at out3
  obtain ⟨others, same, changed⟩ := out3
  rw [e] at sdeRaised
  have tSde : t.sde =
      { s.sde with e := if s.sde.e < u.tru.config.eFloor then min u.tru.config.eFloor eCap else s.sde.e, tol := t.sde.tol } := by
    rw [stands.sde, wSde, zSde, sdeRaised]
  have flags : ∀ q, t.attached q = true → t.sde.tol.get q = u.raiseToFloor.sde.tol.get q := fun q inn => by
    rw [stands.tol q inn, wSde, zSde]
  rw [tConfig]
  refine ⟨results, by rw [results, length], config, by rw [stands.rmu, wRmu, formed, rRmu, rmu],
    by rw [stands.tsg, wTsg, formed, rTsg, tsg, runs.tsg], tSde, fun below q inn => ?_, fun above q inn => ?_, others, same,
    fun h => ⟨_, changed h, rfl⟩, ?_, ?_⟩
  · have inB := stands.attached q inn
    have inU : u.attached q = true := (State.attached_congr sameTenants q).trans inB
    have raise := State.raiseToFloor_of_below (x := u) (by rw [e]; exact below)
    have isE : t.sde.e = min u.tru.config.eFloor eCap := by rw [tSde]; exact if_pos below
    have limit : (u.tru.tenants.get q).adv = (s.tru.tenants.get q).adv := by rw [sameTenants, stands.tenant q inn]
    have valid : t.tsg.timeValid = u.tsg.timeValid := by rw [stands.tsg, wTsg, formed, rTsg]
    have flag : (u.setE u.tru.config.eFloor).sde.tol.get q =
        (t.tsg.timeValid && decide (t.sde.e ≤ (s.tru.tenants.get q).adv.limit)) := by
      rw [State.setE_tol, if_pos inU, limit, isE, valid]
    dsimp only
    rw [← flag, flags q inn, raise]
    refine ⟨rfl, fun change => ?_⟩
    have filed := State.setE_told u.tru.config.eFloor inU (by rw [e]; exact change)
    have low := tolReport_kind ((u.setE u.tru.config.eFloor).sde.tol.get q) (min u.tru.config.eFloor eCap)
    have kind : (tolReport ((u.setE u.tru.config.eFloor).sde.tol.get q) (min u.tru.config.eFloor eCap)).kind ≤ 1 := by
      rw [low]; split <;> decide
    have before : (s.nu.get q).Retains (fun _ => False) (u.nu.get q) := by rw [← runs.nu]; exact told q
    rw [isE]
    show s.told t q (tolReport ((u.setE u.tru.config.eFloor).sde.tol.get q) (min u.tru.config.eFloor eCap))
    refine State.told_of_file (fun h => ?_) before ((filed.retains _).trans ?_)
    · simp only [List.mem_cons, List.not_mem_nil, or_false] at h
      omega
    · have final := stands.told q inn (tolReport ((u.setE u.tru.config.eFloor).sde.tol.get q) (min u.tru.config.eFloor eCap))
        (by omega)
      rw [wNu, formed] at final
      dsimp only at final
      rw [raise] at final
      exact final
  · rw [flags q inn, State.raiseToFloor_of_above (by rw [e]; exact above), e]
  · rw [stands.ols, writeOls, zOls]
    split <;> rfl
  · have content : z.retainedContent = { s.retainedContent with config := u.tru.config } := by
      unfold State.retainedContent
      rw [zConfig, zOls, zSde, sdeRaised]
    rw [content, zOls, ← stands.ols] at write
    exact write

/-! ## The effect of every kind -/

/-- An action that runs for a request at s leaves the effect of its kind (R147, R151, R152). -/
theorem State.carryOut_carriedOut {k : JointKind} (runs : s.RunsFor b) (stands : s.StandsIn b (b.carryOut k).1 t) :
    s.carriedOut t k (b.carryOut k).2 := by
  obtain ⟨spm, -, -, free, pending⟩ := State.carryOut_frame k b
  refine ⟨by rw [stands.spm, spm, runs.spm], by rw [stands.freeIndex, free, runs.freeIndex],
    by rw [stands.pending, pending, runs.pending], ?_⟩
  cases k with
  | configure items => exact State.configure_stands runs stands
  | clearLearning => exact ⟨State.clearLearning_stands runs stands, rfl⟩
  | stepNow => exact State.stepNow_stands runs stands
  | restartClock => exact ⟨State.restartClock_stands runs stands, rfl⟩

end Sys2Proof.Machine
end

section
/-!
PROOFS. The joint actions: PROPOSE (O52), CONCUR, DECLINE and READ_JOINT (O53).
-/

namespace Sys2Proof.Machine

variable {s b t x y : State} {p q : Port}

/-! ## The execution of an action -/

theorem State.configureItem_tru (final : Nat) (i : ConfigItem) (x : State) :
    (x.configureItem final i).1.tru = { x.tru with config := (x.configureItem final i).1.tru.config } := by
  unfold State.configureItem
  dsimp only
  split
  · cases slotOf i.slot with
    | none => rfl
    | some n =>
      dsimp only
      split
      · unfold State.configureEnable
        dsimp only
        split
        · split
          · rfl
          · dsimp only
            rw [(State.changeEnable_frame _ _ _).2.2.2.1]
        · rfl
      · rfl
  · rfl

theorem State.configureItems_tru (final : Nat) (is : List ConfigItem) (x : State) :
    (x.configureItems final is).1.tru = { x.tru with config := (x.configureItems final is).1.tru.config } := by
  induction is generalizing x with
  | nil => rfl
  | cons i is ih =>
    refine (ih (x.configureItem final i).1).trans ?_
    rw [State.configureItem_tru]
    rfl

/-- Of the TRU an action changes the configuration alone, before it is recorded as ended. -/
theorem State.carryOut_tru (k : JointKind) (x : State) :
    (x.carryOut k).1.tru = { x.tru with config := (x.carryOut k).1.tru.config } := by
  cases k with
  | configure items =>
    show (x.configure items).1.tru = { x.tru with config := (x.configure items).1.tru.config }
    have tru : (x.configure items).1.tru =
        (x.configureItems (finalInterval x.tru.config.out3Interval items) items).1.tru := by
      rw [State.configure_eq, (State.requestWrite_frame _).2.2.2.1, State.formOut3From_stays]
      exact (State.raiseToFloor_frame _).2.2.2.1
    rw [tru]
    exact State.configureItems_tru _ items x
  | clearLearning => rw [show x.carryOut .clearLearning = (x.clearLearning, _) from rfl, x.clearLearning_frame.2.2.2.1]
  | stepNow =>
    unfold State.carryOut
    dsimp only
    split <;> rfl
  | restartClock => rw [show x.carryOut .restartClock = (x.restartClock, _) from rfl, x.restartClock_frame.2.1]

/-- What an action is told of leaves the frozen flag and the mask of every tenant. -/
theorem State.carryOut_retains (k : JointKind) (x : State) :
    (x.nu.get q).Retains (fun _ => False) ((x.carryOut k).1.nu.get q) := by
  cases k with
  | configure items =>
    show (x.nu.get q).Retains _ ((x.configure items).1.nu.get q)
    rw [State.configure_eq, (State.requestWrite_frame _).2.2.2.2.1, State.formOut3From_stays]
    refine (State.configureItems_retains (ignores_false _) (finalInterval x.tru.config.out3Interval items) items x).trans ?_
    show TenantNotices.Retains _ _ ((State.configuredRaised items x).nu.get q)
    unfold State.configuredRaised State.raiseToFloor
    split
    · exact State.setE_retains (ignores_false _) _ _
    · exact .refl _ _
  | clearLearning =>
    rw [show x.carryOut .clearLearning = (x.clearLearning, _) from rfl, x.clearLearning_frame.2.2.2.2.1]
    exact .refl _ _
  | stepNow =>
    unfold State.carryOut
    dsimp only
    split <;> exact .refl _ _
  | restartClock =>
    obtain ⟨u, v, still, posted, same, ended, eq⟩ := x.restartClock_steps
    have first : (x.nu.get q).Retains (fun _ => False) (u.nu.get q) := by
      by_cases freerun : x.sde.clock = .freerun
      · rw [still freerun]; exact .refl _ _
      · rw [posted freerun]; exact State.postAll_retains (ignores_false [2] _ (by simp [Report.kind])) x.restarted
    have second : (u.nu.get q).Retains (fun _ => False) (v.nu.get q) := by
      by_cases none : x.sde.selected = none
      · rw [same none]; exact .refl _ _
      · rw [ended none]; exact State.postAll_retains (ignores_false [3] _ (by simp [Report.kind])) u
    show (x.nu.get q).Retains _ (x.restartClock.nu.get q)
    rw [eq]
    exact ((first.trans second).trans (State.watchLatches_retains v)).trans (State.judgeAll_retains (ignores_false _) q _)

/-- The action executed: its effect, the record, and JOINT_DONE to the parties (R147). -/
theorem State.executeJoint_spec (r : JointRecord) (atPropose : Bool) (x : State) :
    (x.executeJoint r atPropose).2 = (x.carryOut r.kind).2 ∧
      (x.executeJoint r atPropose).1 =
        { (x.carryOut r.kind).1 with
          tru :=
            { x.tru with
              config := (x.carryOut r.kind).1.tru.config, joint := none
              lastEnded := some ⟨r, .done (x.carryOut r.kind).2⟩ }
          nu := (x.executeJoint r atPropose).1.nu } ∧
      ∀ q : Port,
        (x.executeJoint r atPropose).1.nu.get q =
          if x.attached q = true ∧ (r.required.get q && !(atPropose && q == r.initiator)) = true then
            ((x.carryOut r.kind).1.nu.get q).file (.jointDone r.serial (x.carryOut r.kind).2)
          else (x.carryOut r.kind).1.nu.get q := by
  have tru := x.carryOut_tru r.kind
  have tenants : (x.carryOut r.kind).1.tru.tenants = x.tru.tenants := by rw [tru]
  unfold State.executeJoint
  generalize x.carryOut r.kind = d at *
  refine ⟨rfl, ?_, fun q => ?_⟩
  · refine State.eq_of_fields rfl rfl rfl rfl ?_ rfl rfl rfl rfl rfl rfl rfl
    exact congrArg (fun u : Tru => { u with joint := none, lastEnded := some ⟨r, .done d.2⟩ }) tru
  · refine (State.post_nu_get _ _ _ _).trans (if_congr ?_ rfl rfl)
    have inn : (d.1.endJoint r (.done d.2)).attached q = x.attached q := State.attached_congr tenants q
    rw [inn, Bool.and_eq_true]

/-- An executed action stands in a state that differs in the ports alone. -/
theorem State.executeJoint_stands (r : JointRecord) (atPropose : Bool) (tenants : b.tru.tenants = s.tru.tenants)
    (shape : t = { (b.executeJoint r atPropose).1 with tpi := t.tpi }) : s.StandsIn b (b.carryOut r.kind).1 t := by
  obtain ⟨-, eq, nu⟩ := b.executeJoint_spec r atPropose
  generalize (b.executeJoint r atPropose).1 = x at *
  have attached : ∀ q, t.attached q = true → b.attached q = true := fun q inn => by
    rw [← inn]
    refine State.attached_congr ?_ q
    rw [shape, eq]
  refine ⟨by rw [shape, eq], by rw [shape, eq], by rw [shape, eq], by rw [shape, eq], by rw [shape, eq], by rw [shape, eq],
    by rw [shape, eq], by rw [shape, eq], by rw [shape, eq], fun q _ => by rw [tenants], attached, fun q _ => by rw [shape, eq],
    fun q inn r' low => ?_⟩
  have same : t.nu.get q = x.nu.get q := by rw [shape]
  rw [same, nu]
  split
  · refine TenantNotices.file_retains (ignores_eq r' (kinds := [10]) ?_ _ (by simp [Report.kind])) _
    simp only [List.mem_cons, List.not_mem_nil, or_false]
    omega
  · exact .refl _ _

theorem State.executeJoint_tpi (r : JointRecord) (atPropose : Bool) (x : State) :
    (x.executeJoint r atPropose).1.tpi = x.tpi := by
  rw [(x.executeJoint_spec r atPropose).2.1]
  exact (State.carryOut_frame r.kind x).2.1

theorem State.beginResponse_tpi_congr (h : x.tpi = y.tpi) {c : Byte} {g : Word16} {a : Answer} :
    (x.beginResponse p c g a).tpi = (y.beginResponse p c g a).tpi := by
  rw [State.beginResponse_tpi, State.beginResponse_tpi, h]

/-- JOINT_DONE is told to the parties that are attached (R147). -/
theorem State.executeJoint_told {r : JointRecord} {atPropose : Bool} (before : b.nu = s.nu)
    (party : (r.required.get q && !(atPropose && q == r.initiator)) = true)
    (attached : t.attached q = true → b.attached q = true)
    (after : ((b.executeJoint r atPropose).1.nu.get q).Retains
      (fun x => x = .jointDone r.serial (b.carryOut r.kind).2) (t.nu.get q)) :
    s.told t q (.jointDone r.serial (b.carryOut r.kind).2) := fun inn => by
  have filed := (b.executeJoint_spec r atPropose).2.2 q
  rw [if_pos ⟨attached inn, party⟩] at filed
  rw [filed] at after
  exact State.told_of_file (by simp [Report.kind]) (before ▸ State.carryOut_retains r.kind b) after inn

/-! ## CONCUR, DECLINE and READ_JOINT -/

theorem State.policyUnread_decide (p : Port) (s : State) :
    s.policyUnread p = decide ((s.tru.tenants.get p).ackGen ≠ s.tru.generation) := by
  unfold State.policyUnread
  rw [Bool.eq_iff_iff, bne_iff_ne, decide_eq_true_iff]

theorem State.pendingSerial_of_other {serial : Byte} (h : s.tru.joint = none ∨ ∃ r, s.tru.joint = some r ∧ r.serial ≠ serial) :
    s.pendingSerial serial = none := by
  unfold State.pendingSerial
  rcases h with none | ⟨r, pending, other⟩
  · rw [none]; rfl
  · rw [pending]; exact if_neg other

theorem State.pendingSerial_of_same {serial : Byte} {r : JointRecord} (pending : s.tru.joint = some r)
    (same : r.serial = serial) : s.pendingSerial serial = some r := by
  unfold State.pendingSerial
  rw [pending]
  exact if_pos same

theorem exec_concur (takes : s.takesAttached p) (tag : Word16) (serial : Byte) :
    exec (.concur p tag serial) s =
      .next ((s.actConcur p serial).1.beginResponse p 0x21 tag (s.actConcur p serial).2) :=
  congrArg _ (State.takeRequest_of_attached takes _ _ _ _ _)

theorem exec_decline (takes : s.takesAttached p) (tag : Word16) (serial : Byte) :
    exec (.decline p tag serial) s =
      .next ((s.actDecline p serial).1.beginResponse p 0x22 tag (s.actDecline p serial).2) :=
  congrArg _ (State.takeRequest_of_attached takes _ _ _ _ _)

/-- Settles O53: each request by the pending action, its serial and the tenant's part in it. -/
theorem jointActionIsAnswered : Obligations.JointActionIsAnswered := by
  intro s p tag serial takes unread concur decline
  have isUnread : s.policyUnread p = unread := s.policyUnread_decide p
  refine ⟨?_, fun r ended => rfl, fun e => rfl, rfl, fun other => ⟨?_, ?_⟩, fun r pending same =>
    ⟨fun out => ⟨?_, ?_⟩, fun party => ⟨?_, fun joined => ?_, fun fresh => ⟨fun waits => ?_, fun complete => ?_⟩⟩⟩⟩
  · refine (congrArg _ (State.takeRequest_of_attached takes _ _ _ _ _)).trans ?_
    dsimp only
    rw [isUnread]
    rfl
  · refine (exec_concur takes tag serial).trans ?_
    rw [State.actConcur, State.pendingSerial_of_other other, isUnread]
  · refine (exec_decline takes tag serial).trans ?_
    rw [State.actDecline, State.pendingSerial_of_other other, isUnread]
  · refine (exec_concur takes tag serial).trans ?_
    rw [State.actConcur, State.pendingSerial_of_same pending same, isUnread]
    dsimp only
    rw [if_pos out]
  · refine (exec_decline takes tag serial).trans ?_
    rw [State.actDecline, State.pendingSerial_of_same pending same, isUnread]
    dsimp only
    rw [if_pos out]
  · have notOut : ¬r.required.get p = false := by rw [party]; decide
    refine ⟨_, exec_decline takes tag serial, ?_⟩
    rw [State.actDecline, State.pendingSerial_of_same pending same, isUnread]
    dsimp only
    rw [if_neg notOut, State.cancelJoint, pending]
    dsimp only
    refine ⟨rfl, rfl, fun q => ?_⟩
    refine (State.post_nu_get _ _ _ _).trans (if_congr Bool.and_eq_true_iff ?_ rfl)
    rw [same]
    rfl
  · have notOut : ¬r.required.get p = false := by rw [party]; decide
    refine (exec_concur takes tag serial).trans ?_
    rw [State.actConcur, State.pendingSerial_of_same pending same, isUnread]
    dsimp only
    rw [if_neg notOut, if_pos joined]
  · have notOut : ¬r.required.get p = false := by rw [party]; decide
    have notJoined : ¬r.concurred.get p = true := by rw [fresh]; decide
    refine (exec_concur takes tag serial).trans ?_
    rw [State.actConcur, State.pendingSerial_of_same pending same]
    dsimp only
    have waits' : ¬(r.joinedBy p).required = (r.joinedBy p).concurred := waits
    rw [if_neg notOut, if_neg notJoined, if_neg waits']
    dsimp only
    rw [State.policyUnread_decide]
    rfl
  · have notOut : ¬r.required.get p = false := by rw [party]; decide
    have notJoined : ¬r.concurred.get p = true := by rw [fresh]; decide
    obtain ⟨results, shape, nu⟩ := s.executeJoint_spec (r.joinedBy p) false
    have act : s.actConcur p serial =
        ((s.executeJoint (r.joinedBy p) false).1, ⟨.ok, .concurred (some (s.carryOut r.kind).2) unread⟩) := by
      rw [State.actConcur, State.pendingSerial_of_same pending same]
      have complete' : (r.joinedBy p).required = (r.joinedBy p).concurred := complete
      dsimp only
      rw [if_neg notOut, if_neg notJoined, if_pos complete', results, State.policyUnread_decide]
      rw [shape]
      rfl
    have next := exec_concur takes tag serial
    rw [act] at next
    refine ⟨_, (s.carryOut r.kind).2, next, ?_, ?_, ?_, ?_, fun q inn => ?_⟩
    · rw [(State.beginResponse_frame _ _ _ _ _).2.2.2.2.1, shape]
      rfl
    · exact State.beginResponse_tpi_congr (State.executeJoint_tpi _ _ _)
    · rw [(State.beginResponse_frame _ _ _ _ _).2.2.2.2.2.2.2.2.1, shape]
      exact (State.carryOut_frame r.kind s).2.2.1
    · exact State.carryOut_carriedOut (k := r.kind) ⟨rfl, rfl, rfl, rfl, rfl, rfl, rfl, rfl, rfl, rfl⟩
        (State.executeJoint_stands (r.joinedBy p) false rfl rfl)
    · have told := State.executeJoint_told (s := s) (b := s) (r := r.joinedBy p) (atPropose := false) (q := q)
        (t := (s.executeJoint (r.joinedBy p) false).1.beginResponse p 0x21 tag
          ⟨.ok, .concurred (some (s.carryOut r.kind).2) unread⟩)
        rfl (by rw [Bool.false_and, Bool.not_false, Bool.and_true]; exact inn) (fun inn => ?_) (.refl _ _)
      · rw [← same]; exact told
      · rw [← inn]
        refine State.attached_congr ?_ q
        rw [(State.beginResponse_frame _ _ _ _ _).2.2.2.2.1, shape]

end Sys2Proof.Machine
end

section
/-!
PROOFS. PROPOSE (O52).
-/

namespace Sys2Proof.Machine

variable {s b t x y : State} {p q : Port}

/-! ## What is proposed -/

theorem proposedKind_of_unknown {kind : Byte} {items : List ConfigItem}
    (h : kind.toNat = 0 ∨ 4 < kind.toNat ∨ kind.toNat = 1 ∧ items = []) : proposedKind kind items = none := by
  unfold proposedKind
  split
  next one => exact if_pos (by rw [(h.resolve_left (by omega)).resolve_left (by omega) |>.2]; rfl)
  next two => omega
  next three => omega
  next four => omega
  · rfl

theorem proposedKind_of_known {kind : Byte} {items : List ConfigItem}
    (h : ¬(kind.toNat = 0 ∨ 4 < kind.toNat ∨ kind.toNat = 1 ∧ items = [])) :
    ∃ k, proposedKind kind items = some k ∧ k.code = kind ∧ (kind = 1 → k = .configure items) ∧
      (kind = 2 ∨ kind = 3 → k = .clearLearning ∨ k = .stepNow) := by
  have is : ∀ {n : Nat} (small : n < 256), kind.toNat = n → BitVec.ofNat 8 n = kind := fun small eq =>
    BitVec.eq_of_toNat_eq (by rw [BitVec.toNat_ofNat, eq]; exact Nat.mod_eq_of_lt small)
  have cases' : kind.toNat = 1 ∨ kind.toNat = 2 ∨ kind.toNat = 3 ∨ kind.toNat = 4 := by omega
  rcases cases' with one | two | three | four
  · obtain rfl := is (by decide) one
    have some : items ≠ [] := fun none => h (.inr (.inr ⟨rfl, none⟩))
    refine ⟨.configure items, if_neg ?_, rfl, fun _ => rfl, fun other => ?_⟩
    · simpa using some
    · exact absurd other (by decide)
  · obtain rfl := is (by decide) two
    exact ⟨.clearLearning, rfl, rfl, fun other => absurd other (by decide), fun _ => .inl rfl⟩
  · obtain rfl := is (by decide) three
    exact ⟨.stepNow, rfl, rfl, fun other => absurd other (by decide), fun _ => .inr rfl⟩
  · obtain rfl := is (by decide) four
    exact ⟨.restartClock, rfl, rfl, fun other => absurd other (by decide), fun other => absurd other (by decide)⟩

theorem State.proposalRecord_get (p q : Port) (k : JointKind) (s : State) :
    (s.proposalRecord p k).required.get q = s.attached q ∧ (s.proposalRecord p k).concurred.get q = decide (q = p) := by
  refine ⟨Three.get_mapIdx _ _ _, ?_⟩
  show ((Three.fill false).set p true).get q = _
  rw [Three.get_set, Three.get_fill]
  by_cases same : q = p
  · rw [if_pos same, decide_eq_true same]
  · rw [if_neg same, decide_eq_false same]

/-- The initiator completes the sets where no other tenant is attached (R144). -/
theorem State.proposalRecord_complete_iff (inn : s.attached p = true) (k : JointKind) :
    (s.proposalRecord p k).required = (s.proposalRecord p k).concurred ↔ ∀ q : Port, q ≠ p → s.attached q = false := by
  have get := fun q => s.proposalRecord_get p q k
  refine ⟨fun same q ne => ?_, fun alone => Three.ext_get fun q => ?_⟩
  · rw [← (get q).1, same, (get q).2, decide_eq_false ne]
  · rw [(get q).1, (get q).2]
    by_cases same : q = p
    · rw [same, inn, decide_eq_true rfl]
    · rw [alone q same, decide_eq_false same]

theorem exec_propose (takes : s.takesAttached p) {items : List ConfigItem} (fits : items.length ≤ 8) (tag : Word16)
    (kind : Byte) :
    exec (.propose p tag kind items) s =
      .next ((s.actPropose p kind items).1.beginResponse p 0x20 tag (s.actPropose p kind items).2) := by
  show execPropose p tag kind items s = _
  rw [execPropose, if_pos fits, State.takeRequest_of_attached takes]
  rfl

/-- CLEAR_LEARNING and STEP_NOW leave the tolerance flags. -/
theorem State.carryOut_tol {k : JointKind} (plain : k = .clearLearning ∨ k = .stepNow) (x : State) :
    (x.carryOut k).1.sde.tol = x.sde.tol := by
  rcases plain with rfl | rfl
  · exact congrArg _ x.clearLearning_frame.2.2.1
  · unfold State.carryOut
    dsimp only
    split <;> rfl

/-- Settles O52: by what is proposed, the pending action, and who else is attached. -/
theorem proposalIsTaken : Obligations.ProposalIsTaken := by
  intro s p tag kind items takes fits unread run unknown
  have isUnread : s.policyUnread p = unread := s.policyUnread_decide p
  have next := exec_propose takes fits tag kind
  refine ⟨fun bad => ?_, fun known busy => ?_, fun known idle others => ?_, fun known idle alone => ?_⟩
  · refine next.trans ?_
    rw [State.actPropose, proposedKind_of_unknown bad, isUnread]
  · obtain ⟨k, proposed, -⟩ := proposedKind_of_known known
    refine next.trans ?_
    rw [State.actPropose, proposed]
    dsimp only
    rw [if_pos (Option.isSome_iff_ne_none.mpr busy), isUnread]
  · obtain ⟨k, proposed, code, configure, -⟩ := proposedKind_of_known known
    have waits : ¬(s.proposalRecord p k).required = (s.proposalRecord p k).concurred := fun complete => by
      obtain ⟨q, ne, inn⟩ := others
      rw [(State.proposalRecord_complete_iff takes.2 k).mp complete q ne] at inn
      cases inn
    have act : s.actPropose p kind items =
        (s.askParties (s.proposalRecord p k), ⟨.pending, .proposed (some (s.tru.serial + 1)) none unread⟩) := by
      rw [State.actPropose, proposed]
      dsimp only
      rw [if_neg (by rw [idle]; decide), if_neg waits, State.policyUnread_decide]
      rfl
    rw [act] at next
    refine ⟨_, s.proposalRecord p k, next, rfl, rfl, code, configure, rfl, fun q => s.proposalRecord_get p q k, rfl, rfl,
      fun q => ?_⟩
    refine (State.post_nu_get _ _ _ _).trans (if_congr ?_ rfl rfl)
    show (s.attached q && ((s.proposalRecord p k).required.get q && (q != p))) = true ↔ _
    rw [(s.proposalRecord_get p q k).1]
    cases s.attached q <;> simp
  · obtain ⟨k, proposed, code, configure, plain⟩ := proposedKind_of_known known
    have complete := (State.proposalRecord_complete_iff takes.2 k).mpr alone
    obtain ⟨b, hb⟩ : ∃ b : State, b = { s with tru := { s.tru with serial := s.tru.serial + 1 } } := ⟨_, rfl⟩
    obtain ⟨results, shape, -⟩ := b.executeJoint_spec (s.proposalRecord p k) true
    have tpi := b.executeJoint_tpi (s.proposalRecord p k) true
    have truOf : b.tru = { s.tru with serial := s.tru.serial + 1 } := by rw [hb]
    have unreadOf : (b.executeJoint (s.proposalRecord p k) true).1.policyUnread p = unread := by
      rw [State.policyUnread_decide, shape, truOf]
    have act : s.actPropose p kind items =
        ((b.executeJoint (s.proposalRecord p k) true).1,
          ⟨.ok, .proposed (some (s.tru.serial + 1)) (some (b.carryOut k).2) unread⟩) := by
      rw [State.actPropose, proposed]
      dsimp only
      rw [if_neg (by rw [idle]; decide), if_pos complete]
      rw [show (s.proposalRecord p k).serial = s.tru.serial + 1 from rfl, ← hb, results, unreadOf]
      rfl
    rw [act] at next
    refine ⟨_, s.proposalRecord p k, (b.carryOut k).2, next, ?_, ?_, ?_, rfl, code, configure, rfl, ?_, ?_, ?_, fun two => ?_⟩
    · rw [(State.beginResponse_frame _ _ _ _ _).2.2.2.2.1, shape]
    · rw [(State.beginResponse_frame _ _ _ _ _).2.2.2.2.1, shape]
      rfl
    · rw [(State.beginResponse_frame _ _ _ _ _).2.2.2.2.1, shape, truOf]
      dsimp only
      rw [idle]
    · exact State.beginResponse_tpi_congr (tpi.trans (by rw [hb]))
    · rw [(State.beginResponse_frame _ _ _ _ _).2.2.2.2.2.2.2.2.1, shape]
      exact (State.carryOut_frame k b).2.2.1.trans (by rw [hb])
    · refine State.carryOut_carriedOut (b := b) (by rw [hb]; exact ⟨rfl, rfl, rfl, rfl, rfl, rfl, rfl, rfl, rfl, rfl⟩)
        (State.executeJoint_stands (s.proposalRecord p k) true (by rw [hb]) rfl)
    · rw [(State.beginResponse_frame _ _ _ _ _).2.2.1, shape]
      exact (State.carryOut_tol (plain two) b).trans (by rw [hb])

end Sys2Proof.Machine
end

section
/-!
PROOFS. The detach of a tenant (O43).
-/

namespace Sys2Proof.Machine

variable {s m t x y : State} {p q : Port} {r : JointRecord}

/-! ## The action that a detaching tenant leaves -/

theorem State.leaveJoint_of_idle (idle : m.tru.joint = none) : m.leaveJoint p = m := by
  unfold State.leaveJoint
  rw [idle]

theorem State.leaveJoint_of_initiator (pending : m.tru.joint = some r) (own : r.initiator = p) :
    m.leaveJoint p = m.cancelJoint .withdrawn := by
  unfold State.leaveJoint
  rw [pending]
  exact if_pos own

theorem State.leaveJoint_of_outsider (pending : m.tru.joint = some r) (other : r.initiator ≠ p)
    (out : r.required.get p = false) : m.leaveJoint p = m := by
  unfold State.leaveJoint
  rw [pending]
  exact (if_neg other).trans (if_pos out)

theorem State.leaveJoint_of_last (pending : m.tru.joint = some r) (other : r.initiator ≠ p)
    (party : r.required.get p = true) (complete : (r.without p).required = (r.without p).concurred) :
    m.leaveJoint p = (m.executeJoint (r.without p) false).1 := by
  have notOut : ¬r.required.get p = false := by rw [party]; decide
  unfold State.leaveJoint
  rw [pending]
  exact (if_neg other).trans ((if_neg notOut).trans (if_pos complete))

theorem State.leaveJoint_of_waiting (pending : m.tru.joint = some r) (other : r.initiator ≠ p)
    (party : r.required.get p = true) (waits : (r.without p).required ≠ (r.without p).concurred) :
    m.leaveJoint p = { m with tru := { m.tru with joint := some (r.without p) } } := by
  have notOut : ¬r.required.get p = false := by rw [party]; decide
  unfold State.leaveJoint
  rw [pending]
  exact (if_neg other).trans ((if_neg notOut).trans (if_neg waits))

/-- The leaving tells no tenant of what would end its frozen set or change its mask, and leaves the generation. -/
theorem State.leaveJoint_stands (p : Port) (m : State) :
    (m.leaveJoint p).tru.generation = m.tru.generation ∧
      ∀ q, (m.nu.get q).Retains (fun _ => False) ((m.leaveJoint p).nu.get q) := by
  have executes : ∀ r, (m.executeJoint r false).1.tru.generation = m.tru.generation ∧
      ∀ q, (m.nu.get q).Retains (fun _ => False) ((m.executeJoint r false).1.nu.get q) := fun r => by
    obtain ⟨-, shape, nu⟩ := m.executeJoint_spec r false
    refine ⟨by rw [shape], fun q => ?_⟩
    rw [nu]
    split
    · exact (m.carryOut_retains r.kind).trans (TenantNotices.file_retains (ignores_false [10] _ (by simp [Report.kind])) _)
    · exact m.carryOut_retains r.kind
  have cancels : (m.cancelJoint .withdrawn).tru.generation = m.tru.generation ∧
      ∀ q, (m.nu.get q).Retains (fun _ => False) ((m.cancelJoint .withdrawn).nu.get q) := by
    unfold State.cancelJoint
    cases pending : m.tru.joint with
    | none => exact ⟨rfl, fun q => .refl _ _⟩
    | some r => exact ⟨rfl, fun q => State.post_retains (ignores_false [11] _ (by simp [Report.kind])) _ (m.endJoint r _)⟩
  unfold State.leaveJoint
  cases m.tru.joint with
  | none => exact ⟨rfl, fun q => .refl _ _⟩
  | some r =>
    dsimp only
    split
    · exact cancels
    · split
      · exact ⟨rfl, fun q => .refl _ _⟩
      · split
        · exact executes _
        · exact ⟨rfl, fun q => .refl _ _⟩

/-! ## The detach after it -/

/-- What a detach leaves in t, where y is the state once the tenant has left the pending action. -/
structure State.Detaches (p : Port) (y t : State) : Prop where
  tsg : t.tsg = y.tsg
  rmu : t.rmu = y.rmu
  ols : t.ols = y.ols
  pou : t.pou = y.pou
  spm : t.spm = y.spm
  freeIndex : t.freeIndex = y.freeIndex
  pending : t.pending = y.pending
  sde : t.sde = { y.sde with tol := y.sde.tol.set p false }
  tru : t.tru = { y.tru with policy := resolvedPolicy y.tru.tenants, generation := y.tru.generation + 1 }
  self : t.nu.get p = .detached
  other : ∀ q, q ≠ p →
    t.nu.get q = if y.attached q = true then (y.nu.get q).file (.resolved (y.tru.generation + 1)) else y.nu.get q

theorem State.detachTenant_detaches (p : Port) (x : State) :
    State.Detaches p ((x.setTenant p .detached).leaveJoint p) (x.detachTenant p) := by
  have eq : x.detachTenant p = ((((x.setTenant p .detached).leaveJoint p).resolve).setNotices p .detached).setTol p false := rfl
  generalize (x.setTenant p .detached).leaveJoint p = y at eq
  rw [eq]
  refine ⟨rfl, rfl, rfl, rfl, rfl, rfl, rfl, rfl, rfl, Three.get_set_same _ _ _, fun q ne => ?_⟩
  refine (Three.get_set_ne _ _ ne).trans ?_
  exact State.postAll_nu_get _ _ _

theorem State.Detaches.withPort (h : State.Detaches p y t) (tpi : Three TenantPort) :
    State.Detaches p y { t with tpi := tpi } :=
  ⟨h.tsg, h.rmu, h.ols, h.pou, h.spm, h.freeIndex, h.pending, h.sde, h.tru, h.self, h.other⟩

/-- The state in which the detach of tenant p for a command at s begins: its record is that of a detached tenant. -/
structure State.DropsRecord (p : Port) (s m : State) : Prop where
  runs : s.RunsFor m
  tru : m.tru = { s.tru with tenants := s.tru.tenants.set p .detached }

namespace State.DropsRecord

theorem attached (h : State.DropsRecord p s m) (q : Port) : m.attached q = if q = p then false else s.attached q := by
  unfold State.attached
  rw [h.tru]
  dsimp only
  rw [Three.get_set]
  split <;> rfl

theorem attached_of_ne (h : State.DropsRecord p s m) (ne : q ≠ p) : m.attached q = s.attached q := by
  rw [h.attached, if_neg ne]

/-- The tenant's record, its notices and its flag, and what the resolution leaves (R135, R137). -/
theorem record (h : State.DropsRecord p s m) (d : State.Detaches p (m.leaveJoint p) t) :
    t.tru.tenants.get p = .detached ∧ t.nu.get p = .detached ∧ t.sde.tol.get p = false ∧
      (∀ q : Port, q ≠ p → t.tru.tenants.get q = s.tru.tenants.get q) ∧ t.tru.generation = s.tru.generation + 1 ∧
      t.tru.policy = resolvedPolicy t.tru.tenants ∧ t.pending = s.pending ∧ t.spm = s.spm := by
  have tenants : t.tru.tenants = s.tru.tenants.set p .detached := by
    rw [d.tru]
    show (m.leaveJoint p).tru.tenants = _
    rw [State.leaveJoint_tenants, h.tru]
  refine ⟨by rw [tenants, Three.get_set_same], d.self, by rw [d.sde]; exact Three.get_set_same _ _ _,
    fun q ne => by rw [tenants, Three.get_set_ne _ _ ne], ?_, by rw [d.tru], ?_, ?_⟩
  · rw [d.tru]
    show (m.leaveJoint p).tru.generation + 1 = _
    rw [(m.leaveJoint_stands p).1, h.tru]
  · rw [d.pending, (State.leaveJoint_frame p m).2.2.2.2, h.runs.pending]
  · rw [d.spm, (State.leaveJoint_frame p m).1, h.runs.spm]

theorem told (h : State.DropsRecord p s m) (d : State.Detaches p (m.leaveJoint p) t) (ne : q ≠ p) :
    s.told t q (.resolved (s.tru.generation + 1)) := fun inn => by
  have tenants : t.tru.tenants = (m.leaveJoint p).tru.tenants := by rw [d.tru]
  have inY : (m.leaveJoint p).attached q = true := (State.attached_congr tenants q).symm.trans inn
  have filed := d.other q ne
  have generation : (m.leaveJoint p).tru.generation = s.tru.generation := by rw [(m.leaveJoint_stands p).1, h.tru]
  rw [if_pos inY, generation] at filed
  refine State.told_of_file (n := (m.leaveJoint p).nu.get q) (fits₀ := fun _ => False) (by simp [Report.kind]) ?_ ?_ inn
  · rw [← h.runs.nu]
    exact (m.leaveJoint_stands p).2 q
  · rw [filed]
    exact .refl _ _

end State.DropsRecord

/-- All that no detach changes, where the pending action does not execute. -/
def State.OnlyDetaches (p : Port) (s t : State) (pending : Option JointRecord) (ended : Option EndedRecord)
    (first : Port → TenantNotices) : Prop :=
  t.tsg = s.tsg ∧ t.rmu = s.rmu ∧ t.ols = s.ols ∧ t.pou = s.pou ∧ t.freeIndex = s.freeIndex ∧
    t.sde = { s.sde with tol := s.sde.tol.set p false } ∧
    t.tru =
      { s.tru with
        tenants := t.tru.tenants, policy := t.tru.policy, generation := t.tru.generation
        config := s.tru.config, joint := pending, lastEnded := ended } ∧
    ∀ q : Port, q ≠ p →
      t.nu.get q = if s.attached q then (first q).file (.resolved (s.tru.generation + 1)) else s.nu.get q

theorem State.DropsRecord.only (h : State.DropsRecord p s m) {pending : Option JointRecord} {ended : Option EndedRecord}
    {first : Port → TenantNotices} (shape : y = { m with tru := { m.tru with joint := pending, lastEnded := ended }, nu := y.nu })
    (nu : ∀ q, q ≠ p → y.nu.get q = if s.attached q = true then first q else s.nu.get q) (d : State.Detaches p y t) :
    State.OnlyDetaches p s t pending ended first := by
  have tru : y.tru = { s.tru with tenants := s.tru.tenants.set p .detached, joint := pending, lastEnded := ended } := by
    rw [shape, h.tru]
  have sde : y.sde = s.sde := by rw [shape]; exact h.runs.sde
  refine ⟨by rw [d.tsg, shape]; exact h.runs.tsg, by rw [d.rmu, shape]; exact h.runs.rmu,
    by rw [d.ols, shape]; exact h.runs.ols, by rw [d.pou, shape]; exact h.runs.pou,
    by rw [d.freeIndex, shape]; exact h.runs.freeIndex, by rw [d.sde, sde], by rw [d.tru, tru], fun q ne => ?_⟩
  have inn : y.attached q = s.attached q := by
    rw [← h.attached_of_ne ne, shape]
    rfl
  rw [d.other q ne, inn, nu q ne, tru]
  dsimp only
  split <;> rfl

namespace State.DropsRecord

theorem joint (h : State.DropsRecord p s m) : m.tru.joint = s.tru.joint := by rw [h.tru]

theorem lastEnded (h : State.DropsRecord p s m) : m.tru.lastEnded = s.tru.lastEnded := by rw [h.tru]

theorem of_idle (h : State.DropsRecord p s m) (d : State.Detaches p (m.leaveJoint p) t) (idle : s.tru.joint = none) :
    State.OnlyDetaches p s t none s.tru.lastEnded s.nu.get := by
  rw [State.leaveJoint_of_idle (h.joint.trans idle)] at d
  refine h.only (State.eq_of_fields rfl rfl rfl rfl ?_ rfl rfl rfl rfl rfl rfl rfl) (fun q _ => ?_) d
  · rw [← h.lastEnded, ← idle, ← h.joint]
  · rw [h.runs.nu, ite_self]

theorem of_initiator (h : State.DropsRecord p s m) (d : State.Detaches p (m.leaveJoint p) t) (pending : s.tru.joint = some r)
    (own : r.initiator = p) :
    State.OnlyDetaches p s t none (some ⟨r, .cancelled .withdrawn⟩) fun q =>
      if r.required.get q then (s.nu.get q).file (.jointCancelled r.serial .withdrawn) else s.nu.get q := by
  have pending' := h.joint.trans pending
  rw [State.leaveJoint_of_initiator pending' own] at d
  have cancelled : m.cancelJoint .withdrawn =
      (m.endJoint r (.cancelled .withdrawn)).post (fun t => r.required.get t) (.jointCancelled r.serial .withdrawn) := by
    rw [State.cancelJoint, pending']
  rw [cancelled] at d
  refine h.only rfl (fun q ne => ?_) d
  rw [State.post_nu_get]
  show (if (m.attached q && _) = true then (m.nu.get q).file _ else m.nu.get q) = _
  rw [h.attached_of_ne ne, h.runs.nu]
  cases s.attached q <;> rfl

theorem of_outsider (h : State.DropsRecord p s m) (d : State.Detaches p (m.leaveJoint p) t) (pending : s.tru.joint = some r)
    (other : r.initiator ≠ p) (out : r.required.get p = false) :
    State.OnlyDetaches p s t (some r) s.tru.lastEnded s.nu.get := by
  rw [State.leaveJoint_of_outsider (h.joint.trans pending) other out] at d
  refine h.only (State.eq_of_fields rfl rfl rfl rfl ?_ rfl rfl rfl rfl rfl rfl rfl) (fun q _ => ?_) d
  · rw [← h.lastEnded, ← pending, ← h.joint]
  · rw [h.runs.nu, ite_self]

theorem of_waiting (h : State.DropsRecord p s m) (d : State.Detaches p (m.leaveJoint p) t) (pending : s.tru.joint = some r)
    (other : r.initiator ≠ p) (party : r.required.get p = true)
    (waits : r.required.set p false ≠ r.concurred.set p false) :
    State.OnlyDetaches p s t (some (r.without p)) s.tru.lastEnded s.nu.get := by
  rw [State.leaveJoint_of_waiting (h.joint.trans pending) other party waits] at d
  generalize hy : ({ m with tru := { m.tru with joint := some (r.without p) } } : State) = y at d
  refine h.only (y := y) ?_ (fun q _ => ?_) d
  · rw [← hy, ← h.lastEnded]
  · rw [← hy, ite_self]
    exact congrArg (fun n : Three TenantNotices => n.get q) h.runs.nu

theorem of_last (h : State.DropsRecord p s m) (d : State.Detaches p (m.leaveJoint p) t) (pending : s.tru.joint = some r)
    (other : r.initiator ≠ p) (party : r.required.get p = true)
    (complete : r.required.set p false = r.concurred.set p false) :
    ∃ rs,
      t.tru =
        { s.tru with
          tenants := t.tru.tenants, policy := t.tru.policy, generation := t.tru.generation
          config := t.tru.config, joint := none, lastEnded := some ⟨r.without p, .done rs⟩ } ∧
      s.carriedOut t r.kind rs ∧
      ∀ q : Port, q ≠ p → r.required.get q = true → s.told t q (.jointDone r.serial rs) := by
  rw [State.leaveJoint_of_last (h.joint.trans pending) other party complete] at d
  obtain ⟨-, shape, nu⟩ := m.executeJoint_spec (r.without p) false
  have toldTo := fun q => State.executeJoint_told (s := s) (b := m) (t := t) (q := q) (r := r.without p) (atPropose := false)
    h.runs.nu
  generalize (m.executeJoint (r.without p) false).1 = y at *
  have tenants : y.tru.tenants = m.tru.tenants := by rw [shape]
  have attached : ∀ q, t.attached q = true → y.attached q = true := fun q inn => by
    rw [← inn]
    refine State.attached_congr ?_ q
    rw [d.tru]
  have inM : ∀ q, t.attached q = true → m.attached q = true := fun q inn =>
    (State.attached_congr tenants q).symm.trans (attached q inn)
  have ne : ∀ q, t.attached q = true → q ≠ p := fun q inn same => by
    have out := inM q inn
    rw [h.attached, if_pos same] at out
    cases out
  have later : ∀ (q : Port) (r' : Report), q ≠ p → r'.kind ≠ 8 → (y.nu.get q).Retains (fun x => x = r') (t.nu.get q) :=
    fun q r' ne kind => by
      rw [d.other q ne]
      split
      · exact TenantNotices.file_retains (ignores_eq r' (kinds := [8]) (by simpa using kind) _ (by simp [Report.kind])) _
      · exact .refl _ _
  refine ⟨(m.carryOut r.kind).2, ?_, ?_, fun q other' party' => ?_⟩
  · rw [d.tru, shape, h.tru]
    rfl
  · refine State.carryOut_carriedOut h.runs ?_
    refine ⟨by rw [d.tsg, shape]; rfl, by rw [d.rmu, shape]; rfl, by rw [d.ols, shape]; rfl, by rw [d.pou, shape]; rfl,
      by rw [d.spm, shape]; rfl, by rw [d.freeIndex, shape]; rfl, by rw [d.pending, shape]; rfl, by rw [d.tru, shape]; rfl,
      by rw [d.sde, shape]; rfl, fun q inn => ?_, inM, fun q inn => ?_, fun q inn r' low => ?_⟩
    · rw [h.tru]; exact Three.get_set_ne _ _ (ne q inn)
    · rw [d.sde, shape]; exact Three.get_set_ne _ _ (ne q inn)
    · refine TenantNotices.Retains.trans ?_ (later q r' (ne q inn) (by omega))
      rw [nu]
      split
      · refine TenantNotices.file_retains (ignores_eq r' (kinds := [10]) ?_ _ (by simp [Report.kind])) _
        simp only [List.mem_cons, List.not_mem_nil, or_false]
        omega
      · exact .refl _ _
  · refine toldTo q ?_ (inM q) (later q _ other' (by simp [Report.kind]))
    rw [Bool.false_and, Bool.not_false, Bool.and_true]
    exact (Three.get_set_ne _ _ other').trans party'

end State.DropsRecord

/-- Settles O43: the lines' levels, and the detach by what the tenant has to do with the pending action. -/
theorem detachReturnsDefaults : Obligations.DetachReturnsDefaults := by
  intro s p tag
  refine ⟨rfl, fun start => ?_, fun start out => ?_, fun c command => ?_⟩
  · exact if_pos start
  · refine (if_neg (by rw [start]; decide)).trans ?_
    exact congrArg Host.Outcome.next (if_neg (Bool.eq_false_iff.mp out))
  · obtain ⟨t, m, next, drops, detaches, byRequest, byLine⟩ : ∃ t m : State,
        exec c s = .next t ∧ State.DropsRecord p s m ∧ State.Detaches p (m.leaveJoint p) t ∧
        (c = .detach p tag →
          t.tpi =
            s.tpi.set p
              { s.tpi.get p with
                state := .working { code := 0x12, tag := tag, outcome := .ok, overrun := false, body := .empty }
                clocked := .fill } ∧
          t.pins = s.pins) ∧
        (c = .presentLineFalls p →
          t.tpi = s.tpi.set p { s.tpi.get p with state := .idle, overrun := false } ∧
          t.pins = { s.pins with present := s.pins.present.set p false }) := by
      rcases command with ⟨rfl, takes⟩ | ⟨rfl, start, inn⟩
      · refine ⟨(s.detachTenant p).beginResponse p 0x12 tag ⟨.ok, .empty⟩, s.setTenant p .detached,
          congrArg _ (State.takeRequest_of_attached takes _ _ _ _ _),
          ⟨⟨rfl, rfl, rfl, rfl, rfl, rfl, rfl, rfl, rfl, rfl⟩, rfl⟩, (State.detachTenant_detaches p s).withPort _, fun _ => ⟨?_, ?_⟩,
          (by cases ·)⟩
        · rw [State.beginResponse_tpi, s.detachTenant_frame p |>.2.1]
        · exact (s.detachTenant_frame p).2.2.1
      · obtain ⟨x, hx⟩ : ∃ x : State, x =
            { s with
              pins := { s.pins with present := s.pins.present.set p false }
              tpi := s.tpi.set p { s.tpi.get p with state := .idle, overrun := false } } := ⟨_, rfl⟩
        have next : exec (.presentLineFalls p) s = .next (x.detachTenant p) := by
          have closed : (s.setPresent p false).closePort p = x := by rw [hx]; rfl
          show execPresentLineFalls p s = _
          unfold execPresentLineFalls
          dsimp only
          rw [if_neg (by rw [start]; decide), closed]
          exact congrArg _ (if_pos (by rw [hx]; exact inn))
        refine ⟨x.detachTenant p, x.setTenant p .detached, next, ?_, State.detachTenant_detaches p x, (by cases ·),
          fun _ => ⟨?_, ?_⟩⟩
        · rw [hx]; exact ⟨⟨rfl, rfl, rfl, rfl, rfl, rfl, rfl, rfl, rfl, rfl⟩, rfl⟩
        · rw [(x.detachTenant_frame p).2.1, hx]
        · rw [(x.detachTenant_frame p).2.2.1, hx]
    obtain ⟨h1, h2, h3, h4, h5, h6, h7, h8⟩ := drops.record detaches
    refine ⟨t, next, h1, h2, h3, h4, h5, h6, h7, h8, byRequest, byLine, fun q ne => drops.told detaches ne,
      drops.of_idle detaches, fun r pending => ⟨drops.of_initiator detaches pending, drops.of_outsider detaches pending,
      fun other party => ⟨drops.of_last detaches pending other party, drops.of_waiting detaches pending other party⟩⟩⟩

end Sys2Proof.Machine
end

section
/-!
PROOFS. ATTACH and ADVERTISE (O47).
-/

namespace Sys2Proof.Machine

variable {s t x y : State} {p q : Port}

/-! ## The advertisement -/

/-- An advertisement as it is taken, field by field (R132). -/
def takenAdvertisement (f : AdvertisementFields) : TakenAdvertisement :=
  { adv :=
      { limit := max 100000 (min 50000000 f.limit.toInt), allow := decide (f.permission = 0)
        slew := max 1000 (min 10000000 f.slew.toInt), squelch := decide (f.squelch ≠ 0) }
    limitClamped := decide (max 100000 (min 50000000 f.limit.toInt) ≠ f.limit.toInt)
    slewClamped := decide (max 1000 (min 10000000 f.slew.toInt) ≠ f.slew.toInt) }

theorem takeAdvertisement_of_known {f : AdvertisementFields} (h : f.permission = 0 ∨ f.permission = 1) :
    takeAdvertisement f = some (takenAdvertisement f) := by
  unfold takeAdvertisement
  rw [if_pos h]
  have allow : (f.permission == 0) = decide (f.permission = 0) := rfl
  have wish : (f.squelch != 0) = decide (f.squelch ≠ 0) := by rw [Bool.eq_iff_iff, bne_iff_ne, decide_eq_true_iff]
  have limit : ∀ l : Int, (l != signed f.limit) = decide (l ≠ f.limit.toInt) := fun l => by
    rw [Bool.eq_iff_iff, bne_iff_ne, decide_eq_true_iff]; rfl
  have slew : ∀ w : Int, (w != signed f.slew) = decide (w ≠ f.slew.toInt) := fun w => by
    rw [Bool.eq_iff_iff, bne_iff_ne, decide_eq_true_iff]; rfl
  dsimp only
  rw [allow, wish, limit, slew]
  rfl

theorem takeAdvertisement_of_unknown {f : AdvertisementFields} (h : ¬(f.permission = 0 ∨ f.permission = 1)) :
    takeAdvertisement f = none := if_neg h

theorem State.advertised_taken (f : AdvertisementFields) (x : State) :
    x.advertised (takenAdvertisement f) =
      ⟨if max 100000 (min 50000000 f.limit.toInt) ≠ f.limit.toInt ∨ max 1000 (min 10000000 f.slew.toInt) ≠ f.slew.toInt then
          .clamped
        else .ok,
        .advertised (decide (max 100000 (min 50000000 f.limit.toInt) ≠ f.limit.toInt))
          (decide (max 1000 (min 10000000 f.slew.toInt) ≠ f.slew.toInt)) x.tru.policy x.tru.generation⟩ := by
  unfold State.advertised takenAdvertisement
  dsimp only
  rw [if_congr (by rw [Bool.or_eq_true, decide_eq_true_iff, decide_eq_true_iff]) rfl rfl]

/-! ## The resolution -/

/-- The resolution reads who is attached and the advertisements alone (R137). -/
theorem resolvedPolicy_congr {u v : Three Tenant}
    (h : ∀ p : Port, (u.get p).attached = (v.get p).attached ∧ (u.get p).adv = (v.get p).adv) :
    resolvedPolicy u = resolvedPolicy v := by
  have advs : ∀ w : Three Tenant, (([w.t0, w.t1, w.t2].filter (·.attached)).map (·.adv)) =
      ((([w.t0, w.t1, w.t2].map fun t => (t.attached, t.adv)).filter (·.1)).map (·.2)) := fun w => by
    rw [List.filter_map, List.map_map]; rfl
  have same : ([u.t0, u.t1, u.t2].map fun t => (t.attached, t.adv)) = [v.t0, v.t1, v.t2].map fun t => (t.attached, t.adv) := by
    have pair : ∀ p, ((u.get p).attached, (u.get p).adv) = ((v.get p).attached, (v.get p).adv) := fun p => by
      rw [(h p).1, (h p).2]
    exact congrArg₂ List.cons (pair 0) (congrArg₂ List.cons (pair 1) (congrArg₂ List.cons (pair 2) rfl))
  unfold resolvedPolicy
  rw [advs, advs, same]

/-- A tenant's record set, the resolution run, and its generation given to the tenant (R137, R138). -/
def State.resolvedFor (p : Port) (adv : Advertisement) (x : State) : Tru :=
  { x.tru with
    tenants := x.tru.tenants.set p { attached := true, adv := adv, ackGen := x.tru.generation + 1 }
    generation := x.tru.generation + 1
    policy := resolvedPolicy (x.tru.tenants.set p { attached := true, adv := adv, ackGen := x.tru.generation + 1 }) }

theorem State.tru_of_resolvedFor {adv : Advertisement} (tru : x.tru = s.resolvedFor p adv) :
    x.tru =
      { s.tru with
        tenants := s.tru.tenants.set p { attached := true, adv := adv, ackGen := s.tru.generation + 1 }
        generation := s.tru.generation + 1, policy := resolvedPolicy x.tru.tenants } := by
  rw [tru]
  rfl

/-- The resolution and its generation given to tenant p, whose record had been set. -/
theorem State.resolve_acknowledge_tru {adv : Advertisement} {old : Word16}
    (tru : y.tru = { s.tru with tenants := s.tru.tenants.set p { attached := true, adv := adv, ackGen := old } }) :
    (y.resolve.acknowledge p).tru = s.resolvedFor p adv := by
  have inn : y.resolve.attached p = true := by
    show (y.tru.tenants.get p).attached = true
    rw [tru]
    exact congrArg Tenant.attached (Three.get_set_same _ _ _)
  have policy : resolvedPolicy (s.tru.tenants.set p { attached := true, adv := adv, ackGen := old }) =
      resolvedPolicy (s.tru.tenants.set p { attached := true, adv := adv, ackGen := s.tru.generation + 1 }) := by
    refine resolvedPolicy_congr fun q => ?_
    rw [Three.get_set, Three.get_set]
    split <;> exact ⟨rfl, rfl⟩
  rw [State.acknowledge_of_attached inn]
  dsimp only
  rw [State.resolve_tru, tru, State.resolvedFor]
  dsimp only
  rw [Three.set_set, Three.get_set_same, policy]

theorem State.acknowledge_shape (p : Port) (x : State) : x.acknowledge p = { x with tru := (x.acknowledge p).tru } := by
  unfold State.acknowledge
  split <;> rfl

theorem State.resolve_acknowledge_nu (p q : Port) (y : State) :
    (y.resolve.acknowledge p).nu.get q =
      if y.attached q = true then (y.nu.get q).file (.resolved (y.tru.generation + 1)) else y.nu.get q := by
  rw [State.acknowledge_shape]
  exact State.postAll_nu_get _ _ _

/-! ## ATTACH of a detached tenant -/

/-- The state before the resolution of an ATTACH (R133, R125, R207; log 33). -/
def State.attaching (p : Port) (adv : Advertisement) (s : State) : State :=
  let a := (s.setTenant p { attached := true, adv := adv, ackGen := 0 }).setNotices p .detached
  (a.setTol p (a.toleranceOf p)).armLatches p

theorem State.attachTenant_eq (p : Port) (adv : Advertisement) (s : State) :
    s.attachTenant p adv = (s.attaching p adv).resolve.acknowledge p := rfl

theorem State.attaching_sde (p : Port) (adv : Advertisement) (s : State) :
    (s.attaching p adv).sde =
      { s.sde with tol := s.sde.tol.set p (s.tsg.timeValid && decide (s.sde.e ≤ adv.limit)) } := by
  have flag : ((s.setTenant p { attached := true, adv := adv, ackGen := 0 }).setNotices p .detached).toleranceOf p =
      (s.tsg.timeValid && decide (s.sde.e ≤ adv.limit)) := by
    have record : ((s.setTenant p { attached := true, adv := adv, ackGen := 0 }).setNotices p .detached).tru.tenants.get p =
        { attached := true, adv := adv, ackGen := 0 } := Three.get_set_same _ _ _
    rw [State.toleranceOf, State.attached, record]
    exact congrArg (· && _) (Bool.true_and _)
  exact congrArg (fun b => ({ s.sde with tol := s.sde.tol.set p b } : Sde)) flag

theorem State.attaching_nu_self (p : Port) (adv : Advertisement) (s : State) :
    (s.attaching p adv).nu.get p = { TenantNotices.detached with latches := (s.attaching p adv).armedLatches p } := by
  have held : ((s.nu.set p TenantNotices.detached).get p) = .detached := Three.get_set_same _ _ _
  refine (Three.get_set_same _ _ _).trans ?_
  exact congrArg (fun n : TenantNotices => { n with latches := (s.attaching p adv).armedLatches p }) held

theorem State.attaching_nu_other (ne : q ≠ p) (adv : Advertisement) (s : State) :
    (s.attaching p adv).nu.get q = s.nu.get q := by
  show (Three.set (Three.set s.nu p _) p _).get q = _
  rw [Three.get_set_ne _ _ ne, Three.get_set_ne _ _ ne]

theorem State.attaching_attached (p q : Port) (adv : Advertisement) (s : State) :
    (s.attaching p adv).attached q = if q = p then true else s.attached q := by
  show ((s.tru.tenants.set p { attached := true, adv := adv, ackGen := 0 }).get q).attached = _
  rw [Three.get_set]
  split <;> rfl

/-- What an ATTACH leaves (R133). -/
theorem State.attachTenant_spec (p : Port) (adv : Advertisement) (s : State) :
    let t := s.attachTenant p adv
    t = { s with tru := t.tru, nu := t.nu, sde := t.sde } ∧ t.tru = s.resolvedFor p adv ∧
      t.sde = { s.sde with tol := s.sde.tol.set p (s.tsg.timeValid && decide (s.sde.e ≤ adv.limit)) } ∧
      t.nu.get p =
        { notices := [⟨.resolved (s.tru.generation + 1), 1⟩], pending := [], mask := 0xFFFF, frozen := false
          latches := t.armedLatches p } ∧
      ∀ q : Port, q ≠ p →
        t.nu.get q =
          (if s.attached q = true then (s.nu.get q).file (.resolved (s.tru.generation + 1)) else s.nu.get q) := by
  intro t
  have eq : t = (s.attaching p adv).resolve.acknowledge p := s.attachTenant_eq p adv
  have shape : t = { (s.attaching p adv).resolve with tru := t.tru } := by rw [eq]; exact State.acknowledge_shape _ _
  have sde : t.sde = (s.attaching p adv).sde := by rw [shape]; rfl
  have armed : t.armedLatches p = (s.attaching p adv).armedLatches p := by rw [shape]; rfl
  have nu := fun q => State.resolve_acknowledge_nu p q (s.attaching p adv)
  rw [← eq] at nu
  refine ⟨by rw [shape]; rfl, ?_, sde.trans (s.attaching_sde p adv), ?_, fun q ne => ?_⟩
  · rw [eq]; exact State.resolve_acknowledge_tru rfl
  · rw [nu, s.attaching_attached, if_pos rfl, if_pos rfl, armed, s.attaching_nu_self]
    refine TenantNotices.file_of_enabled rfl ?_
    show (0xFFFF : Word16).getLsbD 8 = true
    decide
  · rw [nu, s.attaching_attached, if_neg ne, s.attaching_nu_other ne]
    rfl

/-! ## ADVERTISE of an attached tenant -/

/-- The state after the resolution of an ADVERTISE, before a new limit is judged (R134). -/
def State.readvertised (p : Port) (adv : Advertisement) (s : State) : State :=
  (s.setTenant p { s.tru.tenants.get p with adv := adv }).resolve.acknowledge p

theorem State.replaceAdvertisement_eq (p : Port) (adv : Advertisement) (s : State) :
    s.replaceAdvertisement p adv =
      if (s.tru.tenants.get p).adv.limit = adv.limit then s.readvertised p adv
      else (s.readvertised p adv).judgeTenant p := rfl

theorem State.readvertised_spec (inn : s.attached p = true) (adv : Advertisement) :
    let b := s.readvertised p adv
    b = { s with tru := b.tru, nu := b.nu } ∧ b.tru = s.resolvedFor p adv ∧ (∀ q, b.attached q = s.attached q) ∧
      ∀ q : Port,
        b.nu.get q = if s.attached q = true then (s.nu.get q).file (.resolved (s.tru.generation + 1)) else s.nu.get q := by
  intro b
  have record : { s.tru.tenants.get p with adv := adv } =
      ({ attached := true, adv := adv, ackGen := (s.tru.tenants.get p).ackGen } : Tenant) := by
    have attached : (s.tru.tenants.get p).attached = true := inn
    dsimp only
    rw [attached]
  have tru : b.tru = s.resolvedFor p adv := State.resolve_acknowledge_tru (congrArg (fun r => { s.tru with tenants := s.tru.tenants.set p r }) record)
  have before : ∀ q, (s.setTenant p { s.tru.tenants.get p with adv := adv }).attached q = s.attached q := fun q => by
    show ((s.tru.tenants.set p _).get q).attached = (s.tru.tenants.get q).attached
    rw [Three.get_set]
    split
    next same => rw [same]
    · rfl
  refine ⟨?_, tru, fun q => ?_, fun q => ?_⟩
  · have shape : b = { (s.setTenant p { s.tru.tenants.get p with adv := adv }).resolve with tru := b.tru } :=
      State.acknowledge_shape p _
    rw [shape]
    rfl
  · rw [State.attached, tru]
    show ((s.tru.tenants.set p _).get q).attached = (s.tru.tenants.get q).attached
    rw [Three.get_set]
    split
    next same => rw [same]; exact inn.symm
    · rfl
  · refine (State.resolve_acknowledge_nu p q _).trans (if_congr ?_ rfl rfl)
    rw [before]

/-- What an ADVERTISE leaves of a tenant's notices, where the judgement of the new limit changes tenant p's flag or not. -/
def State.readvertisedNotices (p : Port) (limit : Int) (s t : State) (q : Port) : TenantNotices :=
  let flag := s.tsg.timeValid && decide (s.sde.e ≤ limit)
  if s.attached q = false then s.nu.get q
  else
    let n := (s.nu.get q).file (.resolved (s.tru.generation + 1))
    if (s.tru.tenants.get p).adv.limit = limit ∨ flag = s.sde.tol.get p then n
    else
      let n' : TenantNotices :=
        { n with
          latches :=
            { n.latches with
              timeValid := n.latches.timeValid && s.tsg.timeValid
              inTolerance := n.latches.inTolerance && t.sde.tol.get q
              locked := n.latches.locked && decide (s.sde.clock = ClockState.locked)
              ovenSettled := n.latches.ovenSettled && decide (s.spm.oven = OvenState.settled) } }
      if q = p then n'.file (if flag then .tolRegained s.sde.e else .tolLost s.sde.e) else n'

/-- What an ADVERTISE of an attached tenant leaves (R134). -/
theorem State.replaceAdvertisement_spec (inn : s.attached p = true) (adv : Advertisement) :
    let t := s.replaceAdvertisement p adv
    t = { s with tru := t.tru, nu := t.nu, sde := t.sde } ∧ t.tru = s.resolvedFor p adv ∧
      t.sde =
        { s.sde with
          tol :=
            if (s.tru.tenants.get p).adv.limit = adv.limit then s.sde.tol
            else s.sde.tol.set p (s.tsg.timeValid && decide (s.sde.e ≤ adv.limit)) } ∧
      ∀ q : Port, t.nu.get q = s.readvertisedNotices p adv.limit t q := by
  intro t
  obtain ⟨shape, tru, attached, nu⟩ := State.readvertised_spec inn adv
  have eq : t = _ := s.replaceAdvertisement_eq p adv
  generalize s.readvertised p adv = b at *
  have sde : b.sde = s.sde := by rw [shape]
  have unjudged : ∀ q, b.nu.get q = if s.attached q = false then s.nu.get q
      else (s.nu.get q).file (.resolved (s.tru.generation + 1)) := fun q => by
    rw [nu]; cases s.attached q <;> rfl
  by_cases same : (s.tru.tenants.get p).adv.limit = adv.limit
  · rw [if_pos same] at eq
    rw [eq]
    refine ⟨by rw [shape], tru, by rw [sde, if_pos same], fun q => ?_⟩
    rw [unjudged]
    exact if_congr Iff.rfl rfl (if_pos (.inl same)).symm
  · rw [if_neg same] at eq
    have flag : b.toleranceOf p = (s.tsg.timeValid && decide (s.sde.e ≤ adv.limit)) := by
      have record : (b.tru.tenants.get p).adv.limit = adv.limit := by
        rw [tru]
        exact congrArg (fun r : Tenant => r.adv.limit) (Three.get_set_same _ _ _)
      rw [State.toleranceOf_of_attached ((attached p).trans inn), record, sde]
      rw [shape]
    rw [if_neg same, ← flag]
    by_cases keeps : b.toleranceOf p = s.sde.tol.get p
    · rw [State.judgeTenant_of_keeps fun h => h.2 (keeps.trans (by rw [sde]))] at eq
      rw [eq]
      refine ⟨by rw [shape], tru, by rw [sde, keeps, Three.set_get], fun q => ?_⟩
      rw [unjudged]
      exact if_congr Iff.rfl rfl (if_pos (.inr (flag.symm.trans keeps))).symm
    · have inB : b.attached p = true := (attached p).trans inn
      rw [State.judgeTenant_of_changes ⟨inB, by rw [sde]; exact keeps⟩, sde] at eq
      generalize hf : b.toleranceOf p = on at *
      have tSde : t.sde = { s.sde with tol := s.sde.tol.set p on } := by
        rw [eq]
        show { b.sde with tol := b.sde.tol.set p on } = _
        rw [sde]
      refine ⟨by rw [eq, shape]; rfl, by rw [eq]; exact tru, tSde, fun q => ?_⟩
      obtain ⟨x, hx⟩ : ∃ x, x = b.setTol p on := ⟨_, rfl⟩
      have inX : x.attached q = s.attached q := by rw [hx]; exact attached q
      have nuX : x.nu.get q = b.nu.get q := by rw [hx]; rfl
      have armed : x.armedLatches q =
          { timeValid := s.tsg.timeValid, inTolerance := t.sde.tol.get q, locked := decide (s.sde.clock = ClockState.locked)
            ovenSettled := decide (s.spm.oven = OvenState.settled), refFault := false, stepped := false } := by
        rw [tSde, hx, ← sde, shape]
        rfl
      rw [← hx] at eq
      have inW : x.watchLatches.attached q = s.attached q := inX
      have told : t.nu.get q = _ := congrArg (fun y : State => y.nu.get q) eq
      rw [told, State.postTo_nu_get, inW, State.watchLatches_get, inX, nuX, nu, armed, State.readvertisedNotices, ← flag]
      cases s.attached q with
      | false => rfl
      | true =>
        have changes : ¬((s.tru.tenants.get p).adv.limit = adv.limit ∨ on = s.sde.tol.get p) := not_or.mpr ⟨same, keeps⟩
        dsimp only
        rw [if_neg changes, Bool.true_and]
        by_cases own : q = p
        · rw [if_pos own, if_pos (beq_iff_eq.mpr own)]
          rfl
        · rw [if_neg own, if_neg (by rw [beq_eq_false_iff_ne.mpr own]; decide)]
          rfl

/-! ## The requests -/

/-- A change of the TRU, the SDE and the notices, answered at a port. -/
theorem State.onlyTenants_of_shape (shape : x = { s with tru := x.tru, nu := x.nu, sde := x.sde }) (tpi : Three TenantPort) :
    ({ x with tpi := tpi } : State) = { s with tru := x.tru, nu := x.nu, sde := x.sde, tpi := tpi } :=
  congrArg (fun y : State => { y with tpi := tpi }) shape

theorem exec_attach (takes : s.takes p) (tag : Word16) (f : AdvertisementFields) :
    exec (.attach p tag f) s = .next ((s.actAttach p f).1.beginResponse p 0x10 tag (s.actAttach p f).2) :=
  congrArg _ (State.takeRequest_of_may takes _ _ _ _)

theorem exec_advertise (takes : s.takesAttached p) (tag : Word16) (f : AdvertisementFields) :
    exec (.advertise p tag f) s = .next ((s.actAdvertise p f).1.beginResponse p 0x11 tag (s.actAdvertise p f).2) :=
  congrArg _ (State.takeRequest_of_attached takes _ _ _ _ _)

/-- An attached tenant's ATTACH is an ADVERTISE under its own code (R134). -/
theorem exec_advertisement (takes : s.takesAttached p) {c : Instr} {tag : Word16} {f : AdvertisementFields}
    (command : c = .advertise p tag f ∨ c = .attach p tag f) :
    exec c s =
      .next
        ((s.actAdvertise p f).1.beginResponse p (if c = .advertise p tag f then 0x11 else 0x10) tag (s.actAdvertise p f).2) := by
  rcases command with rfl | rfl
  · rw [if_pos rfl]
    exact exec_advertise takes tag f
  · rw [if_neg (by simp), exec_attach takes.1, State.actAttach, if_pos takes.2]

/-- Settles O47: a detached port's ATTACH by its line and the permission code, an attached tenant's by the code and the limit. -/
theorem attachAndAdvertiseTakeAdvertisement : Obligations.AttachAndAdvertiseTakeAdvertisement := by
  intro s p tag f l w adv outcome answer known
  have detached : s.attached p = false → ¬s.attached p = true := fun out => by rw [out]; decide
  refine ⟨fun takes out low => ?_, fun takes out high bad => ?_, fun takes out high good => ?_, fun c takes command => ?_⟩
  · rw [exec_attach takes, State.actAttach, if_neg (detached out), if_pos low]
  · rw [exec_attach takes, State.actAttach, if_neg (detached out), if_neg (by rw [high]; decide),
      takeAdvertisement_of_unknown bad]
  · obtain ⟨shape, tru, sde, own, others⟩ := s.attachTenant_spec p adv
    have act : s.actAttach p f = (s.attachTenant p adv, (s.attachTenant p adv).advertised (takenAdvertisement f)) := by
      rw [State.actAttach, if_neg (detached out), if_neg (by rw [high]; decide), takeAdvertisement_of_known good]
      rfl
    have next := exec_attach takes tag f
    rw [act, State.advertised_taken] at next
    have tpi : (s.attachTenant p adv).tpi = s.tpi := by rw [shape]
    generalize s.attachTenant p adv = x at *
    refine ⟨_, next, ?_, ?_, sde, own, others, ?_⟩
    · exact State.onlyTenants_of_shape shape _
    · exact State.tru_of_resolvedFor tru
    · exact State.beginResponse_tpi_congr tpi
  · intro code
    refine ⟨fun bad => ?_, fun good => ?_⟩
    · rw [exec_advertisement takes command, State.actAdvertise, takeAdvertisement_of_unknown bad]
    obtain ⟨shape, tru, sde, nu⟩ := State.replaceAdvertisement_spec takes.2 adv
    have act : s.actAdvertise p f =
        (s.replaceAdvertisement p adv, (s.replaceAdvertisement p adv).advertised (takenAdvertisement f)) := by
      rw [State.actAdvertise, takeAdvertisement_of_known good]
      rfl
    have next := exec_advertisement takes command
    rw [act, State.advertised_taken] at next
    have tpi : (s.replaceAdvertisement p adv).tpi = s.tpi := by rw [shape]
    generalize s.replaceAdvertisement p adv = x at *
    refine ⟨_, next, ?_, ?_, sde, nu, ?_⟩
    · exact State.onlyTenants_of_shape shape _
    · exact State.tru_of_resolvedFor tru
    · exact State.beginResponse_tpi_congr tpi

end Sys2Proof.Machine
end

section
/-!
PROOFS. What the stages of an epoch close post: the kinds of report that each files, and the latches that each leaves.
-/

namespace Sys2Proof.Machine

/-! ## Postings of some kinds only -/

/-- From one notice state to another only reports of the kinds given are filed, and no event latch falls. -/
structure TenantNotices.Files (kinds : List Nat) (n n' : TenantNotices) : Prop where
  retains : ∀ fits : Report → Prop, Ignores fits kinds → n.Retains fits n'
  refFault : n.latches.refFault = true → n'.latches.refFault = true
  stepped : n.latches.stepped = true → n'.latches.stepped = true

/-- From one state to another every tenant is filed reports of the kinds given only. -/
def State.Files (kinds : List Nat) (s t : State) : Prop := ∀ p : Port, (s.nu.get p).Files kinds (t.nu.get p)

theorem TenantNotices.Files.refl (kinds : List Nat) (n : TenantNotices) : n.Files kinds n :=
  ⟨fun _ _ => .refl _ _, id, id⟩

theorem TenantNotices.Files.trans {kinds : List Nat} {a b c : TenantNotices} (h : a.Files kinds b) (h' : b.Files kinds c) :
    a.Files kinds c :=
  ⟨fun fits ok => (h.retains fits ok).trans (h'.retains fits ok), h'.refFault ∘ h.refFault, h'.stepped ∘ h.stepped⟩

theorem TenantNotices.Files.mono {kinds kinds' : List Nat} {a b : TenantNotices} (h : a.Files kinds b)
    (sub : kinds ⊆ kinds') : a.Files kinds' b :=
  ⟨fun fits ok => h.retains fits (ok.mono sub), h.refFault, h.stepped⟩

theorem TenantNotices.LowsFall.files {n n' : TenantNotices} (h : n.LowsFall n') (kinds : List Nat) : n.Files kinds n' :=
  ⟨fun fits _ => h.retains fits, fun on => h.2.2.1.trans on, fun on => h.2.2.2.trans on⟩

theorem TenantNotices.file_files {kinds : List Nat} {r : Report} (mem : r.kind ∈ kinds) (n : TenantNotices) :
    n.Files kinds (n.file r) :=
  ⟨fun _ ok => TenantNotices.file_retains (ok r mem) n, fun on => by rw [n.file_latches]; exact on,
    fun on => by rw [n.file_latches]; exact on⟩

theorem TenantNotices.Files.before {kinds : List Nat} {n n' : TenantNotices} (h : n.Files kinds n') :
    n.Retains (fun _ => False) n' := h.retains _ (ignores_false _)

theorem TenantNotices.Files.keeps {kinds : List Nat} {n n' : TenantNotices} (h : n.Files kinds n') {r : Report}
    (ne : r.kind ∉ kinds) : n.Retains (fun x => x = r) n' := h.retains _ (ignores_eq r ne)

section
variable {kinds kinds' : List Nat} {s t u : State}

theorem State.Files.refl (kinds : List Nat) (s : State) : s.Files kinds s := fun _ => .refl _ _

theorem State.Files.trans (h : s.Files kinds t) (h' : t.Files kinds u) : s.Files kinds u := fun p => (h p).trans (h' p)

theorem State.Files.mono (h : s.Files kinds t) (sub : kinds ⊆ kinds') : s.Files kinds' t := fun p => (h p).mono sub

/-- A change that leaves the notices files nothing. -/
theorem State.Files.of_nu (h : t.nu = s.nu) : s.Files kinds t := fun p => h ▸ TenantNotices.Files.refl kinds (s.nu.get p)

theorem State.post_files {r : Report} (mem : r.kind ∈ kinds) (named : Port → Bool) (s : State) :
    s.Files kinds (s.post named r) := fun p => by
  rw [State.post_get]; split
  · exact TenantNotices.file_files mem _
  · exact .refl _ _

theorem State.postAll_files {r : Report} (mem : r.kind ∈ kinds) (s : State) : s.Files kinds (s.postAll r) :=
  State.post_files mem _ s

theorem State.watchLatches_files (kinds : List Nat) (s : State) : s.Files kinds s.watchLatches :=
  fun p => (State.watchLatches_lowsFall s p).files kinds

theorem State.latchStepped_files (kinds : List Nat) (s : State) : s.Files kinds s.latchStepped := fun p => by
  rw [State.latchStepped_get]; split
  · exact ⟨fun _ _ => TenantNotices.retains_latches _ _ _, id, fun _ => rfl⟩
  · exact .refl _ _

theorem State.latchRefFault_files (kinds : List Nat) (s : State) : s.Files kinds s.latchRefFault := fun p => by
  rw [State.latchRefFault_get]; split
  · exact ⟨fun _ _ => TenantNotices.retains_latches _ _ _, fun _ => rfl, id⟩
  · exact .refl _ _

/-! ## The SDE's operations -/

/-- The part with another SDE record: the writes of the SDE's stages, named. -/
def State.withSde (d : Sde) (s : State) : State := { s with sde := d }

@[simp] theorem State.withSde_sde (d : Sde) (s : State) : (s.withSde d).sde = d := rfl

@[simp] theorem State.withSde_frame (d : Sde) (s : State) :
    (s.withSde d).tsg = s.tsg ∧ (s.withSde d).rmu = s.rmu ∧ (s.withSde d).ols = s.ols ∧ (s.withSde d).tru = s.tru ∧
      (s.withSde d).nu = s.nu ∧ (s.withSde d).pou = s.pou ∧ (s.withSde d).spm = s.spm ∧ (s.withSde d).tpi = s.tpi ∧
      (s.withSde d).pins = s.pins ∧ (s.withSde d).freeIndex = s.freeIndex ∧ (s.withSde d).pending = s.pending :=
  ⟨rfl, rfl, rfl, rfl, rfl, rfl, rfl, rfl, rfl, rfl, rfl⟩

theorem State.withSde_files (kinds : List Nat) (d : Sde) (s : State) : s.Files kinds (s.withSde d) := .of_nu rfl

theorem State.orderFApp_files (kinds : List Nat) (f : Int) (s : State) : s.Files kinds (s.orderFApp f) := .of_nu rfl

theorem State.takeAnchor_files (kinds : List Nat) (f : Int) (s : State) : s.Files kinds (s.takeAnchor f) := .of_nu rfl

theorem State.judgeAll_files (s : State) : s.Files [0, 1] s.judgeAll := fun p => by
  refine TenantNotices.Files.trans ?_ ((State.judgeAll_nu p s).files _)
  unfold State.judgedNotices
  split
  · exact TenantNotices.file_files (by rw [tolReport_kind]; split <;> simp) _
  · exact .refl _ _

theorem State.setE_files (e : Int) (s : State) : s.Files [0, 1] (s.setE e) :=
  (State.withSde_files _ { s.sde with e := min e eCap } s).trans (State.judgeAll_files _)

theorem State.enterClock_eq {c : ClockState} {s : State} (ne : c ≠ s.sde.clock) :
    s.enterClock c =
      let b := s.withSde
        { s.sde with
          clock := c, assisted := false
          stepNow := s.sde.stepNow && s.sde.clock != .acquire
          stepDecisionPending := s.sde.stepDecisionPending && s.sde.clock != .acquire }
      b.watchLatches.postAll b.clockReport := if_neg ne

theorem State.enterClock_self (s : State) : s.enterClock s.sde.clock = s := if_pos rfl

theorem State.enterClock_files (c : ClockState) (s : State) : s.Files [2] (s.enterClock c) := by
  by_cases same : c = s.sde.clock
  · rw [same, State.enterClock_self]; exact .refl _ _
  · rw [State.enterClock_eq same]
    exact (State.withSde_files _ _ s).trans
      ((State.watchLatches_files _ _).trans (State.postAll_files (by exact List.mem_singleton.mpr rfl) _))

theorem State.enterHoldover_eq (s : State) :
    s.enterHoldover =
      let b := (s.withSde { s.sde with decisionPending := false, bridgeRemaining := 0 }).enterClock .holdover
      if s.sde.clock == .bridge then b.takeAnchor b.sde.fAvg else (b.takeAnchor b.sde.fAvg).setE s.entryE := rfl

theorem State.enterHoldover_files (s : State) : s.Files [0, 1, 2] s.enterHoldover := by
  rw [State.enterHoldover_eq]
  dsimp only
  generalize hb : s.withSde { s.sde with decisionPending := false, bridgeRemaining := 0 } = b
  have anchored : s.Files [0, 1, 2] ((b.enterClock .holdover).takeAnchor (b.enterClock .holdover).sde.fAvg) :=
    (hb ▸ State.withSde_files _ _ s).trans
      (((State.enterClock_files .holdover b).mono (by decide)).trans (State.takeAnchor_files _ _ _))
  split
  · exact anchored
  · exact anchored.trans ((State.setE_files _ _).mono (by decide))

theorem State.enterBridge_eq (s : State) :
    s.enterBridge =
      let b := (s.withSde { s.sde with decisionPending := false, bridgeRemaining := s.tru.config.bridgeTime }).enterClock .bridge
      ((b.orderFApp b.sde.fInt).takeAnchor b.sde.fInt).setE s.entryE := rfl

theorem State.enterBridge_files (s : State) : s.Files [0, 1, 2] s.enterBridge := by
  rw [State.enterBridge_eq]
  dsimp only
  generalize hb : s.withSde { s.sde with decisionPending := false, bridgeRemaining := s.tru.config.bridgeTime } = b
  exact ((hb ▸ State.withSde_files _ _ s).trans ((State.enterClock_files .bridge b).mono (by decide))).trans
    (((State.orderFApp_files _ _ _).trans (State.takeAnchor_files _ _ _)).trans ((State.setE_files _ _).mono (by decide)))

theorem State.enterFreerun_files (s : State) : s.Files [0, 1, 2] s.enterFreerun :=
  ((State.enterClock_files .freerun s).mono (by decide)).trans ((State.setE_files _ _).mono (by decide))

theorem State.orderStep_eq (e : Int) (s : State) :
    s.orderStep e =
      ((s.withSde { s.sde with lockCount := 0, lockLoss := 0 }).postAll (.phaseStep (limitStep e))).latchStepped := rfl

theorem State.orderStep_files (e : Int) (s : State) : s.Files [6] (s.orderStep e) := by
  rw [State.orderStep_eq]
  exact (State.withSde_files _ _ s).trans
    ((State.postAll_files (by exact List.mem_singleton.mpr rfl) _).trans (State.latchStepped_files _ _))

/-- The step decision's orders, whatever it finds (R62, R63). -/
theorem State.stepDecision_eq (e : Int) (s : State) :
    s.stepDecision e =
      let b := s.withSde { s.sde with stepDecisionPending := false, stepNow := false }
      if s.stepsNow e || s.decidesStep e then (b.orderStep e, true) else (b, false) := rfl

theorem State.stepDecision_files (e : Int) (s : State) : s.Files [6] (s.stepDecision e).1 := by
  rw [State.stepDecision_eq]
  dsimp only
  split
  · exact (State.withSde_files _ _ s).trans (State.orderStep_files e _)
  · exact State.withSde_files _ _ s

/-- The part with time valid, and the SDE's record, as the clock enters LOCKED (R53, R57, R59). -/
def State.validated (s : State) : State :=
  { s with
    tsg := { s.tsg with timeValid := true }
    sde := { s.sde with lockLoss := 0, decisionPending := false, bridgeRemaining := 0, lockedSinceStart := true } }

theorem State.enterLocked_eq (s : State) : s.enterLocked = (s.validated.enterClock .locked).judgeAll := rfl

theorem State.enterLocked_files (s : State) : s.Files [0, 1, 2] s.enterLocked := by
  have valid : s.Files [0, 1, 2] s.validated := .of_nu rfl
  rw [State.enterLocked_eq]
  exact valid.trans
    (((State.enterClock_files .locked _).mono (by decide)).trans ((State.judgeAll_files _).mono (by decide)))

/-- The clock in ACQUIRE before the step decision of an epoch that took it there (R55, R57, R59). -/
def State.acquiring (s : State) : State :=
  let b := (s.withSde { s.sde with decisionPending := false, bridgeRemaining := 0 }).enterClock .acquire
  b.withSde { b.sde with lockCount := 0, stepDecisionPending := true }

theorem State.enterAcquireDeciding_eq (e : Int) (s : State) : s.enterAcquireDeciding e = s.acquiring.stepDecision e := rfl

theorem State.acquiring_files (s : State) : s.Files [2] s.acquiring :=
  ((State.withSde_files _ _ s).trans (State.enterClock_files .acquire _)).trans (State.withSde_files _ _ _)

theorem State.enterAcquireDeciding_files (e : Int) (s : State) : s.Files [2, 6] (s.enterAcquireDeciding e).1 := by
  rw [State.enterAcquireDeciding_eq]
  exact ((State.acquiring_files s).mono (by decide)).trans ((State.stepDecision_files e _).mono (by decide))

theorem State.goodAcquire_eq (e : Int) (s : State) :
    s.goodAcquire e =
      let d := s.stepDecision e
      if d.2 then d
      else if s.withinLock e then
        let b := d.1.withSde { d.1.sde with lockCount := satAdd 16 d.1.sde.lockCount 1 }
        (if 16 ≤ satAdd 16 d.1.sde.lockCount 1 then b.enterLocked else b, false)
      else (d.1.withSde { d.1.sde with lockCount := 0 }, false) := rfl

theorem State.goodLocked_eq (e : Int) (s : State) :
    s.goodLocked e =
      if s.withinLock e then (s.withSde { s.sde with decisionPending := false, lockLoss := 0 }, false)
      else if s.sde.decisionPending then s.enterAcquireDeciding e
      else
        let b := s.withSde { s.sde with lockLoss := satAdd 4 s.sde.lockLoss 1 }
        if 4 ≤ satAdd 4 s.sde.lockLoss 1 then b.enterAcquireDeciding e else (b, false) := rfl

theorem State.goodEpoch_files (e : Int) (s : State) : s.Files [0, 1, 2, 6] (s.goodEpoch e).1 := by
  have decided : s.Files [0, 1, 2, 6] (s.stepDecision e).1 := (State.stepDecision_files e s).mono (by decide)
  have deciding (x : State) : x.Files [0, 1, 2, 6] (x.enterAcquireDeciding e).1 :=
    (State.enterAcquireDeciding_files e x).mono (by decide)
  have locking (x : State) : x.Files [0, 1, 2, 6] x.enterLocked := (State.enterLocked_files x).mono (by decide)
  unfold State.goodEpoch
  split
  · rw [State.goodAcquire_eq]
    dsimp only
    split
    · exact decided
    · split
      · dsimp only
        split
        · exact (decided.trans (State.withSde_files _ _ _)).trans (locking _)
        · exact decided.trans (State.withSde_files _ _ _)
      · exact decided.trans (State.withSde_files _ _ _)
  · rw [State.goodLocked_eq]
    split
    · exact State.withSde_files _ _ s
    · split
      · exact deciding s
      · dsimp only
        split
        · exact (State.withSde_files _ _ s).trans (deciding _)
        · exact State.withSde_files _ _ s
  · unfold State.goodBridge
    split
    · exact locking s
    · exact deciding s
  · exact .refl _ _
  · exact .refl _ _

theorem State.holdUpdate_files (n : SlotId) (s : State) : s.Files [0, 1] (s.holdUpdate n) :=
  (State.orderFApp_files _ _ s).trans (State.setE_files _ _)

theorem State.setFromLabel_files (k l : Seconds) (s : State) : s.Files [7] (s.setFromLabel k l) := by
  have applied : s.Files [7] (s.applySet (l + (s.tsg.seconds - k))) := .of_nu rfl
  unfold State.setFromLabel
  exact applied.trans
    ((State.postAll_files (by exact List.mem_singleton.mpr rfl) _).trans (State.latchStepped_files _ _))

theorem State.setAssisted_files (b : Bool) (s : State) : s.Files [2] (s.setAssisted b) :=
  (State.withSde_files _ _ s).trans (State.postAll_files (by exact List.mem_singleton.mpr rfl) _)

theorem State.judgeAssistance_files (lf : SlotItem) (s : State) : s.Files [2] (s.judgeAssistance lf) := by
  unfold State.judgeAssistance
  split
  · dsimp only
    split
    · exact State.orderFApp_files _ _ s
    · exact (State.orderFApp_files _ _ s).trans (State.setAssisted_files true _)
  · split
    · exact (State.takeAnchor_files _ _ s).trans (State.setAssisted_files false _)
    · exact .refl _ _

theorem State.changeSelection_files (new : Option SlotId) (s : State) : s.Files [3] (s.changeSelection new) := by
  unfold State.changeSelection
  generalize hb : ({ s with
      rmu := { s.rmu with slots := s.rmu.slots.mapIdx (markSelection s.sde.selected new) }
      sde :=
        { s.sde with
          selected := new, lastSelected := new.or s.sde.lastSelected, labelMismatch := 0, stepNow := false
          lockCount := 0 } } : State) = b
  exact (State.Files.of_nu (by rw [← hb])).trans (State.postAll_files (by exact List.mem_singleton.mpr rfl) _)

theorem State.enterAcquireFollowing_files (s : State) : s.Files [2] s.enterAcquireFollowing :=
  (State.enterClock_files .acquire s).trans (State.withSde_files _ _ _)

/-- The follow stage, its writes named (R52 to R60). -/
theorem State.followStage_eq (old : Option SlotId) (s : State) :
    s.followStage old =
      let new := s.sde.selected
      match s.sde.clock with
      | .freerun => if old.isNone && new.isSome then s.enterAcquireFollowing else s
      | .acquire =>
        if new = old then s
        else if new.isSome then s.withSde { s.sde with lockCount := 0, stepDecisionPending := true }
        else if s.tsg.timeValid then s.enterHoldover
        else s.enterFreerun
      | .locked =>
        if new = old then s
        else if new.isSome then s.withSde { s.sde with decisionPending := true }
        else
          let b := s.withSde { s.sde with lockLoss := 0 }
          if 0 < s.tru.config.bridgeTime then b.enterBridge else b.enterHoldover
      | .bridge => if new = old then s else s.withSde { s.sde with decisionPending := new.isSome }
      | .holdover =>
        if new.isSome then (s.withSde { s.sde with fInt := s.tsg.fApp }).enterAcquireFollowing else s := by
  unfold State.followStage
  cases s.sde.clock <;> rfl

/-- Where the selection is not lost, the follow stage tells of the clock alone. -/
theorem State.followStage_files_of_selected {old : Option SlotId} {s : State}
    (kept : s.sde.selected.isSome = true ∨ s.sde.selected = old) : s.Files [2] (s.followStage old) := by
  rw [State.followStage_eq]
  dsimp only
  split
  · split
    · exact State.enterAcquireFollowing_files s
    · exact .refl _ _
  · split
    · exact .refl _ _
    next moved => rw [if_pos (kept.resolve_right moved)]; exact State.withSde_files _ _ s
  · split
    · exact .refl _ _
    next moved => rw [if_pos (kept.resolve_right moved)]; exact State.withSde_files _ _ s
  · split
    · exact .refl _ _
    · exact State.withSde_files _ _ s
  · split
    · exact (State.withSde_files _ _ s).trans (State.enterAcquireFollowing_files _)
    · exact .refl _ _

theorem State.followStage_files (old : Option SlotId) (s : State) : s.Files [0, 1, 2] (s.followStage old) := by
  by_cases kept : s.sde.selected.isSome = true ∨ s.sde.selected = old
  · exact (State.followStage_files_of_selected kept).mono (by decide)
  · obtain ⟨lost, moved⟩ := not_or.mp kept
    have gone : s.sde.selected.isSome = false := Bool.eq_false_iff.mpr lost
    rw [State.followStage_eq]
    dsimp only
    split
    · rw [gone, Bool.and_false]; exact .refl _ _
    · rw [if_neg moved, if_neg lost]
      split
      · exact State.enterHoldover_files s
      · exact State.enterFreerun_files s
    · rw [if_neg moved, if_neg lost]
      split
      · exact (State.withSde_files _ _ s).trans (State.enterBridge_files _)
      · exact (State.withSde_files _ _ s).trans (State.enterHoldover_files _)
    · rw [if_neg moved]; exact State.withSde_files _ _ s
    · rw [if_neg lost]; exact .refl _ _

end

end Sys2Proof.Machine
end

section
/-!
PROOFS. The drive stage by its parts: the full update as an update of the loop, the step it ordered, and the rule of the label;
a GOOD epoch by the clock it finds.
-/

namespace Sys2Proof.Machine

/-! ## The rule of the label (R65 to R67) -/

/-- The label that orders a seconds set at the close of epoch k (R65, R66). -/
def setFrom (k : Seconds) (label : Option Seconds) (valid : Bool) (mismatch : Nat) : Option Seconds :=
  match label with
  | none => none
  | some l => if l = k ∨ valid = true ∧ mismatch < 2 then none else some l

/-- The mismatch count after a GOOD epoch k (R66). -/
def ruledMismatch (k : Seconds) (label : Option Seconds) (valid : Bool) (mismatch : Nat) : Nat :=
  match label with
  | none => mismatch
  | some l => if valid = false then mismatch else if l = k ∨ 2 ≤ mismatch then 0 else mismatch + 1

theorem State.labelRule_eq (k : Seconds) (label : Option Seconds) (s : State) :
    s.labelRule k label =
      (s.withSde { s.sde with labelMismatch := ruledMismatch k label s.tsg.timeValid s.sde.labelMismatch },
        setFrom k label s.tsg.timeValid s.sde.labelMismatch) := by
  cases label with
  | none => rfl
  | some l =>
    cases valid : s.tsg.timeValid with
    | false => rw [State.labelRule_of_invalid valid]; simp [setFrom, ruledMismatch, State.withSde]
    | true =>
      by_cases same : l = k
      · subst same
        rw [State.labelRule_of_same valid]
        simp [setFrom, ruledMismatch, State.withSde]
      · by_cases few : s.sde.labelMismatch < 2
        · rw [State.labelRule_of_few valid same few]
          simp [setFrom, ruledMismatch, State.withSde, same, few, Nat.not_le.mpr few]
        · rw [State.labelRule_of_third valid same (Nat.not_lt.mp few)]
          simp [setFrom, ruledMismatch, State.withSde, same, few, Nat.not_lt.mp few]

/-- The part once the rule of the label is applied, and the seconds set that it orders (R65 to R67). -/
def State.labelled (k : Seconds) (label : Option Seconds) (s : State) : State :=
  match s.labelRule k label with
  | (s6, some l) => s6.setFromLabel k l
  | (s6, none) => s6

/-- The part with the mismatch count that a GOOD epoch k leaves (R66). -/
def State.ruled (k : Seconds) (label : Option Seconds) (s : State) : State :=
  s.withSde { s.sde with labelMismatch := ruledMismatch k label s.tsg.timeValid s.sde.labelMismatch }

section
variable {s : State} {k : Seconds} {label : Option Seconds}

theorem State.labelled_of_keeps (h : setFrom k label s.tsg.timeValid s.sde.labelMismatch = none) :
    s.labelled k label = s.ruled k label := by
  rw [State.labelled, State.labelRule_eq, h]; rfl

theorem State.labelled_of_sets {l : Seconds} (h : setFrom k label s.tsg.timeValid s.sde.labelMismatch = some l) :
    s.labelled k label = (s.ruled k label).setFromLabel k l := by
  rw [State.labelled, State.labelRule_eq, h]; rfl

/-- The RMU renumbered by a seconds set (R33). -/
def Rmu.renumbered (d : Seconds) (r : Rmu) : Rmu :=
  { r with
    slots := r.slots.mapIdx fun _ sl => sl.renumber d
    targetA := r.targetA.map (LabelTarget.renumber d)
    targetB := r.targetB.map (LabelTarget.renumber d)
    lastClosed := r.lastClosed + d
    lfVoid := true }

/-- The OLS after a seconds set from c to v (R96). -/
def Ols.daySet (c v : Seconds) (o : Ols) : Ols :=
  if dayOf c = dayOf v then o else { o with dayLocked := 0, dayCorr := 0, dayTemp := 0 }

theorem State.setFromLabel_tsg (k l : Seconds) (s : State) :
    (s.setFromLabel k l).tsg = { s.tsg with seconds := l + (s.tsg.seconds - k) } := rfl

theorem State.setFromLabel_rmu (k l : Seconds) (s : State) :
    (s.setFromLabel k l).rmu = s.rmu.renumbered (l + (s.tsg.seconds - k) - s.tsg.seconds) := rfl

theorem State.setFromLabel_ols (k l : Seconds) (s : State) :
    (s.setFromLabel k l).ols = s.ols.daySet s.tsg.seconds (l + (s.tsg.seconds - k)) := rfl

/-- The set is told to every attached tenant, and latched (R64, R67). -/
theorem State.setFromLabel_nu_get (k l : Seconds) (p : Port) (s : State) (inn : s.attached p = true) :
    (s.setFromLabel k l).nu.get p =
      let n := (s.nu.get p).file (.secondsSet (l + (s.tsg.seconds - k)))
      { n with latches := { n.latches with stepped := true } } := by
  have attached : (s.applySet (l + (s.tsg.seconds - k))).attached p = true := inn
  have posted :
      (State.postAll (.secondsSet (l + (s.tsg.seconds - k))) (s.applySet (l + (s.tsg.seconds - k)))).attached p = true := inn
  rw [State.setFromLabel, State.latchStepped_get, if_pos posted, State.postAll_nu_get, if_pos attached]
  rfl

/-! ## The full update (R71 to R76) -/

/-- The RMU's share of a phase step of d, already limited (R26, R32). -/
def Rmu.shifted (d : Int) (r : Rmu) : Rmu :=
  { r with slots := r.slots.mapIdx fun n sl => if phaseCapable n then sl.shiftPhase d else sl, lfVoid := true }

/-- The integral and, in LOCKED, the averages, learning and LF tracking of a full update (R75, R80 to R84, R92). -/
def State.averaged (used : Int) (first : Bool) (lf : SlotItem) (s : State) : State :=
  let b := s.withSde { s.sde with fInt := s.integral used }
  if s.sde.clock = .locked then ((b.lockedAverages used first).takeResult).trackItem lf else b

/-- The loop update of a full update: averages, E and F_app (R73 to R76, R80 to R84, R120). -/
def State.updated (e used : Int) (first : Bool) (lf : SlotItem) (s : State) : State :=
  let b := s.averaged used first lf
  (b.setE (b.tru.config.eFloor + mag e)).orderFApp
    ((b.setE (b.tru.config.eFloor + mag e)).sde.fInt + s.proportional used)

theorem State.fullUpdate_of_stays (k : Seconds) (e : Int) (label : Option Seconds) (first : Bool) (lf : SlotItem)
    (s : State) : s.fullUpdate k e label false first lf = (s.updated e e first lf).labelled k label := rfl

theorem State.fullUpdate_of_steps (k : Seconds) (e : Int) (label : Option Seconds) (first : Bool) (lf : SlotItem)
    (s : State) : s.fullUpdate k e label true first lf = ((s.updated e 0 first lf).applyStep e).labelled k label := rfl

theorem State.trackItem_sde (lf : SlotItem) (s : State) :
    (s.trackItem lf).sde =
      { s.sde with
        bias := (s.trackItem lf).sde.bias, wander := (s.trackItem lf).sde.wander
        lfCount := (s.trackItem lf).sde.lfCount, lfBasis := (s.trackItem lf).sde.lfBasis
        lfRestart := (s.trackItem lf).sde.lfRestart } := by
  unfold State.trackItem State.trackLf
  split
  · split
    · rfl
    · split <;> rfl
  all_goals rfl

/-- The averages and the tracking write their own fields. -/
theorem State.averaged_sde (used : Int) (first : Bool) (lf : SlotItem) (s : State) :
    (s.averaged used first lf).sde =
      { s.sde with
        fInt := s.integral used
        residual := (s.averaged used first lf).sde.residual, fAvg := (s.averaged used first lf).sde.fAvg
        fAvgBin := (s.averaged used first lf).sde.fAvgBin, bias := (s.averaged used first lf).sde.bias
        wander := (s.averaged used first lf).sde.wander, lfCount := (s.averaged used first lf).sde.lfCount
        lfBasis := (s.averaged used first lf).sde.lfBasis, lfRestart := (s.averaged used first lf).sde.lfRestart } := by
  unfold State.averaged
  dsimp only
  split
  · generalize hb : s.withSde { s.sde with fInt := s.integral used } = b
    have tracked := State.trackItem_sde lf (b.lockedAverages used first).takeResult
    rw [(State.takeResult_frame _).2.2.1] at tracked
    have residual := congrArg Sde.residual tracked
    have fAvg := congrArg Sde.fAvg tracked
    have fAvgBin := congrArg Sde.fAvgBin tracked
    refine tracked.trans ?_
    rw [residual, fAvg, fAvgBin, ← hb]
    rfl
  · rfl

theorem State.averaged_frame (used : Int) (first : Bool) (lf : SlotItem) (s : State) :
    (s.averaged used first lf).tsg = s.tsg ∧ (s.averaged used first lf).rmu = s.rmu ∧
      (s.averaged used first lf).tru = s.tru ∧ (s.averaged used first lf).nu = s.nu ∧
      (s.averaged used first lf).spm = s.spm := by
  unfold State.averaged
  dsimp only
  split <;> simp

theorem State.updated_frame (e used : Int) (first : Bool) (lf : SlotItem) (s : State) :
    (s.updated e used first lf).rmu = s.rmu ∧ (s.updated e used first lf).tru = s.tru ∧
      (s.updated e used first lf).ols = (s.averaged used first lf).ols := by
  unfold State.updated
  simp [State.averaged_frame]

theorem State.updated_sde (e used : Int) (first : Bool) (lf : SlotItem) (s : State) :
    (s.updated e used first lf).sde =
      { (s.averaged used first lf).sde with
        e := min (s.tru.config.eFloor + mag e) eCap, tol := (s.updated e used first lf).sde.tol } := by
  have shape := State.setE_shape ((s.averaged used first lf).tru.config.eFloor + mag e) (s.averaged used first lf)
  have sde : (s.updated e used first lf).sde =
      ((s.averaged used first lf).setE ((s.averaged used first lf).tru.config.eFloor + mag e)).sde := rfl
  rw [sde, ← (State.averaged_frame used first lf s).2.2.1]
  exact congrArg State.sde shape

theorem State.updated_tsg (e used : Int) (first : Bool) (lf : SlotItem) (s : State) :
    (s.updated e used first lf).tsg =
      { s.tsg with fApp := clampCorr (s.integral used + s.proportional used) } := by
  have fInt : ((s.averaged used first lf).setE ((s.averaged used first lf).tru.config.eFloor + mag e)).sde.fInt =
      s.integral used := by rw [State.setE_shape, State.averaged_sde]
  unfold State.updated
  dsimp only
  rw [State.orderFApp_tsg, fInt, (State.setE_frame _ _).1, (State.averaged_frame used first lf s).1]

theorem State.updated_files (e used : Int) (first : Bool) (lf : SlotItem) (s : State) :
    s.Files [0, 1] (s.updated e used first lf) :=
  ((State.Files.of_nu (State.averaged_frame used first lf s).2.2.2.1).trans (State.setE_files _ _)).trans
    (State.orderFApp_files _ _ _)

theorem State.labelled_files (k : Seconds) (label : Option Seconds) (s : State) : s.Files [7] (s.labelled k label) := by
  have ruled : s.Files [7] (s.ruled k label) := State.withSde_files _ _ s
  cases h : setFrom k label s.tsg.timeValid s.sde.labelMismatch with
  | none => rw [State.labelled_of_keeps h]; exact ruled
  | some l => rw [State.labelled_of_sets h]; exact ruled.trans (State.setFromLabel_files k l _)

theorem State.applyStep_files (kinds : List Nat) (e : Int) (s : State) : s.Files kinds (s.applyStep e) := .of_nu rfl

theorem State.fullUpdate_files (k : Seconds) (e : Int) (label : Option Seconds) (stepped first : Bool) (lf : SlotItem)
    (s : State) : s.Files [0, 1, 7] (s.fullUpdate k e label stepped first lf) := by
  have labels (x : State) : x.Files [0, 1, 7] (x.labelled k label) := (State.labelled_files k label x).mono (by decide)
  have updates (used : Int) : s.Files [0, 1, 7] (s.updated e used first lf) :=
    (State.updated_files e used first lf s).mono (by decide)
  cases stepped with
  | false => rw [State.fullUpdate_of_stays]; exact (updates e).trans (labels _)
  | true =>
    rw [State.fullUpdate_of_steps]
    exact ((updates 0).trans (State.applyStep_files _ e _)).trans (labels _)

/-! ## The drive stage as a whole -/

theorem State.faultyEpoch_eq (s : State) :
    s.faultyEpoch = if s.sde.clock = .acquire then s.withSde { s.sde with lockCount := 0 } else s := rfl

theorem State.driveItem_files (k : Seconds) (n : SlotId) (item lf : SlotItem) (s : State) :
    s.Files [0, 1, 2, 6, 7] (s.driveItem k n item lf) := by
  have good (e : Int) : s.Files [0, 1, 2, 6, 7] (s.goodEpoch e).1 := (State.goodEpoch_files e s).mono (by decide)
  have held (x : State) : x.Files [0, 1, 2, 6, 7] (x.holdUpdate n) := (State.holdUpdate_files n x).mono (by decide)
  unfold State.driveItem
  split
  · dsimp only
    split
    · exact (good _).trans ((State.fullUpdate_files _ _ _ _ _ _ _).mono (by decide))
    · exact good _
  · split
    · refine State.Files.trans ?_ (held _)
      rw [State.faultyEpoch_eq]
      split
      · exact State.withSde_files _ _ s
      · exact .refl _ _
    · exact .refl _ _
  · split
    · exact held s
    · exact .refl _ _
  · exact .refl _ _

theorem State.driveStage_files (k : Seconds) (items : Six SlotItem) (s : State) :
    s.Files [0, 1, 2, 6, 7] (s.driveStage k items) := by
  unfold State.driveStage
  split
  · exact (State.judgeAssistance_files _ s).mono (by decide)
  · split
    · exact .refl _ _
    · exact State.driveItem_files _ _ _ _ _

theorem State.noteLfHalt_eq (lf : SlotItem) (s : State) :
    s.noteLfHalt lf =
      s.withSde { s.sde with lfRestart := s.sde.lfRestart || decide (lf.state = .off ∨ lf.haltEnded = true) } := by
  unfold State.noteLfHalt
  split
  next h => rw [decide_eq_true h, Bool.or_true]; rfl
  next h => rw [decide_eq_false h, Bool.or_false]; rfl

theorem State.noteLfHalt_files (kinds : List Nat) (lf : SlotItem) (s : State) : s.Files kinds (s.noteLfHalt lf) := by
  rw [State.noteLfHalt_eq]; exact State.withSde_files _ _ s

theorem State.selectAndFollow_eq (items : Six SlotItem) (s : State) :
    s.selectAndFollow items =
      let new := chooseSlot items s.tru.config s.sde.selected
      State.followStage s.sde.selected (if new = s.sde.selected then s else s.changeSelection new) := rfl

theorem State.selectAndFollow_files (items : Six SlotItem) (s : State) : s.Files [0, 1, 2, 3] (s.selectAndFollow items) := by
  rw [State.selectAndFollow_eq]
  dsimp only
  refine State.Files.trans ?_ ((State.followStage_files _ _).mono (by decide))
  split
  · exact .refl _ _
  · exact (State.changeSelection_files _ s).mono (by decide)

end

end Sys2Proof.Machine
end

section
/-!
PROOFS. A GOOD epoch of the driving slot, in closed form: the SDE's record, site time and the step that it orders, by the clock
that it finds (R53 to R59, R62, R63).
-/

namespace Sys2Proof.Machine

/-! ## The pieces of a GOOD epoch -/

section
variable {s : State}

theorem State.stepDecision_snd (e : Int) (s : State) : (s.stepDecision e).2 = (s.stepsNow e || s.decidesStep e) := by
  rw [State.stepDecision_eq]
  dsimp only
  split
  next h => exact h.symm
  next h => exact (Bool.eq_false_iff.mpr h).symm

theorem State.stepDecision_sde (e : Int) (s : State) :
    (s.stepDecision e).1.sde =
      { s.sde with
        stepDecisionPending := false, stepNow := false
        lockCount := if s.stepsNow e || s.decidesStep e then 0 else s.sde.lockCount
        lockLoss := if s.stepsNow e || s.decidesStep e then 0 else s.sde.lockLoss } := by
  rw [State.stepDecision_eq]
  dsimp only
  cases s.stepsNow e || s.decidesStep e <;> rfl

theorem State.enterLocked_sde (away : s.sde.clock ≠ .locked) :
    s.enterLocked.sde =
      { s.sde with
        clock := .locked, lockLoss := 0, decisionPending := false, bridgeRemaining := 0, lockedSinceStart := true
        assisted := false, stepNow := s.sde.stepNow && s.sde.clock != .acquire
        stepDecisionPending := s.sde.stepDecisionPending && s.sde.clock != .acquire, tol := s.enterLocked.sde.tol } := by
  obtain ⟨b, hb⟩ : ∃ b : State, b = s.validated := ⟨_, rfl⟩
  have clock : b.sde.clock = s.sde.clock := by rw [hb]; rfl
  have shape := congrArg State.sde (State.judgeAll_shape (b.enterClock .locked))
  have entered := State.enterClock_of_ne (c := .locked) (s := b) (by rw [clock]; exact away.symm)
  rw [State.enterLocked_eq, ← hb]
  refine shape.trans ?_
  dsimp only
  rw [entered, hb]
  rfl

theorem State.enterLocked_tsg (s : State) : s.enterLocked.tsg = { s.tsg with timeValid := true } := by
  rw [State.enterLocked_eq, (State.judgeAll_frame _).1, (State.enterClock_frame _ _).1]
  rfl

theorem State.acquiring_sde (away : s.sde.clock ≠ .acquire) :
    s.acquiring.sde =
      { s.sde with
        clock := .acquire, decisionPending := false, bridgeRemaining := 0, assisted := false, lockCount := 0
        stepDecisionPending := true } := by
  obtain ⟨b, hb⟩ : ∃ b : State, b = s.withSde { s.sde with decisionPending := false, bridgeRemaining := 0 } := ⟨_, rfl⟩
  have clock : b.sde.clock = s.sde.clock := by rw [hb]; rfl
  have stays : (b.sde.clock != .acquire) = true := by rw [clock]; exact bne_iff_ne.mpr away
  have entered := State.enterClock_of_ne (c := .acquire) (s := b) (by rw [clock]; exact away.symm)
  unfold State.acquiring
  dsimp only
  rw [← hb, State.withSde_sde, entered, stays, Bool.and_true, Bool.and_true, hb]
  rfl

theorem State.acquiring_frame (s : State) :
    s.acquiring.tsg = s.tsg ∧ s.acquiring.rmu = s.rmu ∧ s.acquiring.ols = s.ols ∧ s.acquiring.tru = s.tru ∧
      s.acquiring.spm = s.spm := by
  unfold State.acquiring
  simp

/-! ## The step decision's condition -/

/-- A step is ordered by a pending STEP_NOW, or by a step decision that is pending (R62, R63). -/
abbrev State.ordersStep (s : State) (e : Int) : Prop :=
  s.sde.stepNow = true ∧ e ≠ 0 ∨
    (s.sde.stepDecisionPending = true ∨ s.sde.clock ≠ .acquire) ∧ s.tru.config.stepThreshold < mag e ∧
      (s.tru.policy.stepsPermitted = true ∨ s.tsg.timeValid = false)

theorem State.stepsAt_iff (s : State) (e : Int) : s.stepsAt e ↔ s.decidesAt e ∧ s.ordersStep e := Iff.rfl

theorem State.decides_iff (s : State) (e : Int) :
    (s.stepsNow e || s.decidesStep e) = true ↔
      s.sde.stepNow = true ∧ e ≠ 0 ∨
        s.sde.stepDecisionPending = true ∧ s.tru.config.stepThreshold < mag e ∧
          (s.tru.policy.stepsPermitted = true ∨ s.tsg.timeValid = false) := by
  simp [State.stepsNow, State.decidesStep, and_assoc]

theorem State.ordersStep_of_acquire (h : s.sde.clock = .acquire) (e : Int) :
    (s.stepsNow e || s.decidesStep e) = decide (s.ordersStep e) := by
  rw [Bool.eq_iff_iff, State.decides_iff, decide_eq_true_iff]
  simp only [State.ordersStep, h, ne_eq, not_true_eq_false, or_false]

theorem State.ordersStep_of_acquiring (away : s.sde.clock ≠ .acquire) (e : Int) :
    (s.acquiring.stepsNow e || s.acquiring.decidesStep e) = decide (s.ordersStep e) := by
  obtain ⟨tsg, -, -, tru, -⟩ := s.acquiring_frame
  rw [Bool.eq_iff_iff, State.decides_iff, decide_eq_true_iff, tsg, tru, State.acquiring_sde away]
  simp only [State.ordersStep, away, ne_eq, not_false_eq_true, or_true]

/-! ## The closed form -/

/-- The SDE's record after a GOOD epoch, the tolerance flags aside: by whether a step is ordered, a step decision made, LOCKED
entered, and the value within the lock threshold; where the clock is ACQUIRE, LOCKED or BRIDGE. -/
def Sde.afterGood (steps decides locks within : Bool) (d : Sde) : Sde :=
  let away := d.clock != .acquire
  { d with
    clock := if locks || d.clock == .locked && !decides then .locked else .acquire
    lockCount := if decides then (if steps || !within then 0 else min 16 (d.lockCount + 1)) else d.lockCount
    lockLoss :=
      if steps || locks || d.clock == .locked && within then 0
      else if d.clock == .locked && !d.decisionPending then min 4 (d.lockLoss + 1)
      else d.lockLoss
    decisionPending := if locks || away && (decides || within) then false else d.decisionPending
    stepDecisionPending := if decides then false else d.stepDecisionPending
    stepNow := if decides then false else d.stepNow
    bridgeRemaining := if locks || away && decides then 0 else d.bridgeRemaining
    lockedSinceStart := d.lockedSinceStart || locks
    assisted := if locks || away && decides then false else d.assisted }

/-- The value e is within the lock threshold. -/
abbrev State.within (s : State) (e : Int) : Prop := mag e ≤ s.tru.config.lockThreshold

theorem State.withinLock_eq (s : State) (e : Int) : s.withinLock e = decide (s.within e) := rfl

/-- The clock runs the loop, or awaits a GOOD epoch that decides it. -/
abbrev State.drives (s : State) : Prop := s.sde.clock = .acquire ∨ s.sde.clock = .locked ∨ s.sde.clock = .bridge

/-- What a GOOD epoch of value e leaves, in g with the flag of a step ordered. -/
structure State.GoodLeaves (s : State) (e : Int) (g : State × Bool) : Prop where
  sde : g.1.sde =
    { s.sde.afterGood (decide (s.stepsAt e)) (decide (s.decidesAt e)) (decide (s.locksAt e)) (decide (s.within e)) with
      tol := g.1.sde.tol }
  tsg : g.1.tsg = { s.tsg with timeValid := s.tsg.timeValid || decide (s.locksAt e) }
  stepped : g.2 = decide (s.stepsAt e)

/-- `GoodLeaves` from the values of the four conditions. -/
theorem State.GoodLeaves.of_conditions {e : Int} {g : State × Bool} {steps decides locks within : Bool}
    (isSteps : decide (s.stepsAt e) = steps) (isDecides : decide (s.decidesAt e) = decides)
    (isLocks : decide (s.locksAt e) = locks) (isWithin : decide (s.within e) = within)
    (sde : g.1.sde = { s.sde.afterGood steps decides locks within with tol := g.1.sde.tol })
    (tsg : g.1.tsg = { s.tsg with timeValid := s.tsg.timeValid || locks }) (stepped : g.2 = steps) : s.GoodLeaves e g := by
  subst isSteps isDecides isLocks isWithin
  exact ⟨sde, tsg, stepped⟩

/-- A GOOD epoch in ACQUIRE: a step, a count toward LOCKED, the sixteenth, or one beyond the threshold. -/
theorem State.goodAcquire_leaves (h : s.sde.clock = .acquire) (e : Int) : s.GoodLeaves e (s.goodAcquire e) := by
  have orders := State.ordersStep_of_acquire h e
  have flag := State.stepDecision_snd e s
  have decided := State.stepDecision_sde e s
  have tsg := (State.stepDecision_frame e s).1
  rw [orders] at flag decided
  have decides : s.decidesAt e := .inl h
  have steps : s.stepsAt e ↔ s.ordersStep e := by rw [State.stepsAt_iff]; exact and_iff_right decides
  have locks : s.locksAt e ↔ s.within e ∧ 15 ≤ s.sde.lockCount ∧ ¬s.ordersStep e := by
    simp [State.locksAt, h, steps]
  have valid : ({ s.tsg with timeValid := s.tsg.timeValid || false } : Tsg) = s.tsg := by rw [Bool.or_false]
  rw [State.goodAcquire_eq]
  dsimp only
  rw [flag]
  by_cases ordered : s.ordersStep e
  · rw [decide_eq_true ordered, if_pos rfl]
    refine .of_conditions (decide_eq_true (steps.mpr ordered)) (decide_eq_true decides)
      (decide_eq_false fun l => (locks.mp l).2.2 ordered) rfl ?_ (tsg.trans valid.symm) (flag.trans (decide_eq_true ordered))
    rw [decided, decide_eq_true ordered]
    simp [Sde.afterGood, h]
  · rw [decide_eq_false ordered, if_neg (by decide)]
    have noStep : decide (s.stepsAt e) = false := decide_eq_false fun x => ordered (steps.mp x)
    have counted : (s.stepDecision e).1.sde = { s.sde with stepDecisionPending := false, stepNow := false } := by
      rw [decided, decide_eq_false ordered]; rfl
    obtain ⟨b, hb⟩ : ∃ b : State, b = (s.stepDecision e).1 := ⟨_, rfl⟩
    rw [← hb] at counted tsg ⊢
    have most : satAdd 16 b.sde.lockCount 1 = min 16 (s.sde.lockCount + 1) := by rw [counted]; rfl
    rw [most, counted, State.withinLock_eq]
    by_cases within : s.within e
    · rw [decide_eq_true within, if_pos rfl]
      obtain ⟨x, hx⟩ : ∃ x : State, x = b.withSde
        { s.sde with stepDecisionPending := false, stepNow := false, lockCount := min 16 (s.sde.lockCount + 1) } := ⟨_, rfl⟩
      have xsde : x.sde =
        { s.sde with stepDecisionPending := false, stepNow := false, lockCount := min 16 (s.sde.lockCount + 1) } := by
        rw [hx]; rfl
      have xtsg : x.tsg = s.tsg := by rw [hx]; exact tsg
      rw [← hx]
      by_cases full : 15 ≤ s.sde.lockCount
      · rw [if_pos (show 16 ≤ min 16 (s.sde.lockCount + 1) by omega)]
        refine .of_conditions noStep (decide_eq_true decides) (decide_eq_true (locks.mpr ⟨within, full, ordered⟩))
          (decide_eq_true within) ?_ ?_ rfl
        · refine (State.enterLocked_sde (by rw [xsde, h]; decide)).trans ?_
          rw [xsde]
          simp [Sde.afterGood, h]
        · rw [State.enterLocked_tsg, xtsg, Bool.or_true]
      · rw [if_neg (show ¬16 ≤ min 16 (s.sde.lockCount + 1) by omega)]
        refine .of_conditions noStep (decide_eq_true decides) (decide_eq_false fun l => full (locks.mp l).2.1)
          (decide_eq_true within) ?_ (xtsg.trans valid.symm) rfl
        show x.sde = _
        rw [xsde]
        simp [Sde.afterGood, h]
    · rw [decide_eq_false within, if_neg (by decide)]
      refine .of_conditions noStep (decide_eq_true decides) (decide_eq_false fun l => within (locks.mp l).1)
        (decide_eq_false within) ?_ (tsg.trans valid.symm) rfl
      show { s.sde with stepDecisionPending := false, stepNow := false, lockCount := 0 } = _
      simp [Sde.afterGood, h]

/-- The step decision of an epoch that takes the clock to ACQUIRE, from b: s but for its lock-loss count. -/
theorem State.deciding_leaves {b : State} {e : Int} {loss : Nat} (away : s.sde.clock ≠ .acquire) (decides : s.decidesAt e)
    (beyond : ¬s.within e) (hb : b = s.withSde { s.sde with lockLoss := loss })
    (isLoss : loss =
      if s.sde.clock == .locked && !s.sde.decisionPending then min 4 (s.sde.lockLoss + 1) else s.sde.lockLoss) :
    s.GoodLeaves e (b.enterAcquireDeciding e) := by
  have clock : b.sde.clock ≠ .acquire := by rw [hb]; exact away
  have orders := State.ordersStep_of_acquiring clock e
  have same : b.ordersStep e ↔ s.ordersStep e := by rw [hb]; exact Iff.rfl
  have acquiring := State.acquiring_sde clock
  have tsg : b.acquiring.tsg = s.tsg := by rw [b.acquiring_frame.1, hb]; rfl
  have steps : s.stepsAt e ↔ s.ordersStep e := by rw [State.stepsAt_iff]; exact and_iff_right decides
  have noLock : decide (s.locksAt e) = false := decide_eq_false fun l => beyond l.1
  rw [State.enterAcquireDeciding_eq]
  have flag := State.stepDecision_snd e b.acquiring
  have decided := State.stepDecision_sde e b.acquiring
  rw [orders, decide_eq_decide.mpr (same.trans steps.symm)] at flag decided
  refine .of_conditions rfl (decide_eq_true decides) noLock (decide_eq_false beyond) ?_ ?_ flag
  · rw [decided, acquiring, hb, State.withSde_sde, isLoss]
    simp only [Sde.afterGood, bne_iff_ne.mpr away, Bool.and_false, Bool.or_false, Bool.not_true, Bool.and_true,
      Bool.not_false, Bool.or_true, if_true, ite_self]
    rfl
  · rw [(State.stepDecision_frame e _).1, tsg, Bool.or_false]

/-- A GOOD epoch in LOCKED: within the threshold, a count toward the loss of lock, or a step decision. -/
theorem State.goodLocked_leaves (h : s.sde.clock = .locked) (e : Int) : s.GoodLeaves e (s.goodLocked e) := by
  have away : s.sde.clock ≠ .acquire := by rw [h]; decide
  have decides : s.decidesAt e ↔ ¬s.within e ∧ (s.sde.decisionPending = true ∨ 3 ≤ s.sde.lockLoss) := by
    simp [State.decidesAt, h]
  have noLock : decide (s.locksAt e) = false := decide_eq_false fun l => by
    rcases l.2 with ⟨acquire, -⟩ | bridge
    · exact away acquire
    · rw [h] at bridge; cases bridge
  have valid : ({ s.tsg with timeValid := s.tsg.timeValid || false } : Tsg) = s.tsg := by rw [Bool.or_false]
  rw [State.goodLocked_eq, State.withinLock_eq]
  by_cases within : s.within e
  · rw [decide_eq_true within, if_pos rfl]
    have undecided : ¬s.decidesAt e := fun d => (decides.mp d).1 within
    refine .of_conditions (decide_eq_false fun x => undecided x.1) (decide_eq_false undecided) noLock
      (decide_eq_true within) ?_ valid.symm rfl
    show { s.sde with decisionPending := false, lockLoss := 0 } = _
    simp [Sde.afterGood, h]
  · rw [decide_eq_false within, if_neg (by decide)]
    cases pending : s.sde.decisionPending with
    | true =>
      rw [if_pos rfl]
      exact State.deciding_leaves away (decides.mpr ⟨within, .inl pending⟩) within (loss := s.sde.lockLoss) rfl
        (by rw [pending]; simp)
    | false =>
      rw [if_neg (by decide)]
      dsimp only
      have most : satAdd 4 s.sde.lockLoss 1 = min 4 (s.sde.lockLoss + 1) := rfl
      by_cases fourth : 3 ≤ s.sde.lockLoss
      · rw [if_pos (show 4 ≤ satAdd 4 s.sde.lockLoss 1 by rw [most]; omega)]
        exact State.deciding_leaves away (decides.mpr ⟨within, .inr fourth⟩) within rfl (by rw [h, pending]; rfl)
      · rw [if_neg (show ¬4 ≤ satAdd 4 s.sde.lockLoss 1 by rw [most]; omega)]
        have undecided : ¬s.decidesAt e := fun d => by
          rcases (decides.mp d).2 with on | three
          · rw [pending] at on; cases on
          · exact fourth three
        refine .of_conditions (decide_eq_false fun x => undecided x.1) (decide_eq_false undecided) noLock
          (decide_eq_false within) ?_ valid.symm rfl
        show { s.sde with lockLoss := satAdd 4 s.sde.lockLoss 1 } = _
        rw [most]
        simp [Sde.afterGood, h, pending]

/-- A GOOD epoch in BRIDGE decides it. -/
theorem State.goodBridge_leaves (h : s.sde.clock = .bridge) (e : Int) : s.GoodLeaves e (s.goodBridge e) := by
  have away : s.sde.clock ≠ .acquire := by rw [h]; decide
  have decides : s.decidesAt e ↔ ¬s.within e := by simp [State.decidesAt, h]
  have locks : s.locksAt e ↔ s.within e := by simp [State.locksAt, h]
  unfold State.goodBridge
  rw [State.withinLock_eq]
  by_cases within : s.within e
  · rw [decide_eq_true within, if_pos rfl]
    have undecided : ¬s.decidesAt e := fun d => decides.mp d within
    refine .of_conditions (decide_eq_false fun x => undecided x.1) (decide_eq_false undecided)
      (decide_eq_true (locks.mpr within)) (decide_eq_true within) ?_ (by rw [State.enterLocked_tsg, Bool.or_true]) rfl
    refine (State.enterLocked_sde (by rw [h]; decide)).trans ?_
    simp [Sde.afterGood, h]
  · rw [decide_eq_false within, if_neg (by decide)]
    exact State.deciding_leaves away (decides.mpr within) within (loss := s.sde.lockLoss) rfl (by rw [h]; rfl)

/-- What a GOOD epoch leaves of a clock that it drives. -/
theorem State.goodEpoch_leaves (h : s.drives) (e : Int) : s.GoodLeaves e (s.goodEpoch e) := by
  unfold State.goodEpoch
  rcases h with h | h | h
  · rw [h]; exact State.goodAcquire_leaves h e
  · rw [h]; exact State.goodLocked_leaves h e
  · rw [h]; exact State.goodBridge_leaves h e

/-- Outside these states a GOOD epoch does nothing. -/
theorem State.goodEpoch_of_not_drives (h : ¬s.drives) (e : Int) : s.goodEpoch e = (s, false) := by
  unfold State.goodEpoch
  cases clock : s.sde.clock with
  | freerun => rfl
  | holdover => rfl
  | acquire => exact absurd (.inl clock) h
  | locked => exact absurd (.inr (.inl clock)) h
  | bridge => exact absurd (.inr (.inr clock)) h

end

end Sys2Proof.Machine
end

section
/-!
PROOFS. The drive stage by what drives it, and how it moves site time and the RMU: a phase step, then a seconds set (R8, R12,
R32, R33).
-/

namespace Sys2Proof.Machine

/-! ## A phase step and a seconds set, where there is one -/

/-- Site time after a phase step, where there is one. -/
def Tsg.afterStep (step : Option Int) (t : Tsg) : Tsg := step.elim t t.step

/-- The RMU after a phase step and a renumbering, where there is one. -/
def Rmu.movedBy (step : Option Int) (shift : Option Seconds) (r : Rmu) : Rmu :=
  let r' := step.elim r r.shifted
  shift.elim r' r'.renumbered

/-- From b to c site time and the RMU move by a phase step and a seconds set, where there is one. -/
structure State.Moves (step : Option Int) (set : Option Seconds) (b c : State) : Prop where
  seconds : c.tsg.seconds = set.getD (b.tsg.afterStep step).seconds
  phase : c.tsg.phase = (b.tsg.afterStep step).phase
  reRun : c.tsg.reRun = (b.tsg.afterStep step).reRun
  rmu : c.rmu = b.rmu.movedBy step (set.map fun v => v - (b.tsg.afterStep step).seconds)

theorem State.Moves.still {b c : State} (tsg : c.tsg = { b.tsg with fApp := c.tsg.fApp, timeValid := c.tsg.timeValid })
    (rmu : c.rmu = b.rmu) : b.Moves none none c := by
  refine ⟨?_, ?_, ?_, rmu⟩ <;> rw [tsg] <;> rfl

/-- A phase step reads and writes neither F_app nor the time-valid flag. -/
theorem Tsg.step_flags (t : Tsg) (f : Int) (valid : Bool) (d : Int) :
    ({ t with fApp := f, timeValid := valid } : Tsg).step d = { t.step d with fApp := f, timeValid := valid } := by
  unfold Tsg.step
  dsimp only
  split
  · rfl
  · split <;> rfl

theorem Tsg.afterStep_flags (t : Tsg) (f : Int) (valid : Bool) (step : Option Int) :
    Tsg.afterStep step { t with fApp := f, timeValid := valid } =
      { t.afterStep step with fApp := f, timeValid := valid } := by
  cases step with
  | none => rfl
  | some d => exact t.step_flags f valid d

/-- A move from b as it was before F_app and the time-valid flag changed. -/
theorem State.Moves.of_flags {a b c : State} {step : Option Int} {set : Option Seconds}
    (tsg : b.tsg = { a.tsg with fApp := b.tsg.fApp, timeValid := b.tsg.timeValid }) (rmu : b.rmu = a.rmu)
    (h : b.Moves step set c) : a.Moves step set c := by
  have after : b.tsg.afterStep step = { a.tsg.afterStep step with fApp := b.tsg.fApp, timeValid := b.tsg.timeValid } :=
    (congrArg (Tsg.afterStep step) tsg).trans (Tsg.afterStep_flags _ _ _ _)
  obtain ⟨seconds, phase, reRun, r⟩ := h
  have same : (b.tsg.afterStep step).seconds = (a.tsg.afterStep step).seconds := (congrArg Tsg.seconds after :)
  exact ⟨by rw [seconds, same], by rw [phase, after], by rw [reRun, after], by rw [r, rmu, same]⟩

section
variable {s : State} {k : Seconds} {label : Option Seconds}

/-- The rule of the label moves the seconds count alone. -/
theorem State.labelled_moves (k : Seconds) (label : Option Seconds) (s : State) :
    s.Moves none ((setFrom k label s.tsg.timeValid s.sde.labelMismatch).map fun l => l + (s.tsg.seconds - k))
      (s.labelled k label) := by
  have tsg : (s.ruled k label).tsg = s.tsg := rfl
  have rmu : (s.ruled k label).rmu = s.rmu := rfl
  cases h : setFrom k label s.tsg.timeValid s.sde.labelMismatch with
  | none =>
    rw [State.labelled_of_keeps h]
    exact State.Moves.still (by rw [tsg]) rmu
  | some l =>
    rw [State.labelled_of_sets h]
    refine ⟨?_, ?_, ?_, ?_⟩
    · rw [State.setFromLabel_tsg, tsg]; rfl
    · rw [State.setFromLabel_tsg, tsg]; rfl
    · rw [State.setFromLabel_tsg, tsg]; rfl
    · rw [State.setFromLabel_rmu, tsg, rmu]; rfl

/-- A phase step before the rule of the label. -/
theorem State.Moves.after_step {a b c : State} {e : Int} {set : Option Seconds} (tsg : b.tsg = a.tsg.step (limitStep e))
    (rmu : b.rmu = a.rmu.shifted (limitStep e)) (h : b.Moves none set c) : a.Moves (some (limitStep e)) set c := by
  obtain ⟨seconds, phase, reRun, r⟩ := h
  have same : b.tsg.afterStep none = a.tsg.afterStep (some (limitStep e)) := tsg
  exact ⟨by rw [seconds, same], by rw [phase, same], by rw [reRun, same], by rw [r, rmu, same]; rfl⟩

theorem Tsg.step_timeValid (t : Tsg) (d : Int) : (t.step d).timeValid = t.timeValid := by
  unfold Tsg.step
  dsimp only
  split
  · rfl
  · split <;> rfl

/-- The loop update leaves the mismatch count. -/
theorem State.updated_labelMismatch (e used : Int) (first : Bool) (lf : SlotItem) (s : State) :
    (s.updated e used first lf).sde.labelMismatch = s.sde.labelMismatch := by
  rw [State.updated_sde, State.averaged_sde]

/-- The full update moves site time and the RMU by the step and the set that it ordered. -/
theorem State.fullUpdate_moves (k : Seconds) (e : Int) (label : Option Seconds) (stepped first : Bool) (lf : SlotItem)
    (s : State) :
    let step := if stepped then some (limitStep e) else none
    s.Moves step
      ((setFrom k label s.tsg.timeValid s.sde.labelMismatch).map fun l => l + ((s.tsg.afterStep step).seconds - k))
      (s.fullUpdate k e label stepped first lf) := by
  dsimp only
  cases stepped with
  | false =>
    obtain ⟨u, hu⟩ : ∃ u : State, u = s.updated e e first lf := ⟨_, rfl⟩
    have tsg : u.tsg = { s.tsg with fApp := clampCorr (s.integral e + s.proportional e) } := by
      rw [hu]; exact State.updated_tsg e e first lf s
    have rmu : u.rmu = s.rmu := by rw [hu]; exact (State.updated_frame e e first lf s).1
    have mismatch : u.sde.labelMismatch = s.sde.labelMismatch := by rw [hu]; exact State.updated_labelMismatch e e first lf s
    rw [State.fullUpdate_of_stays, ← hu]
    have moved := State.labelled_moves k label u
    rw [tsg, mismatch] at moved
    exact State.Moves.of_flags (by rw [tsg]) rmu moved
  | true =>
    obtain ⟨u, hu⟩ : ∃ u : State, u = s.updated e 0 first lf := ⟨_, rfl⟩
    have tsg : u.tsg = { s.tsg with fApp := clampCorr (s.integral 0 + s.proportional 0) } := by
      rw [hu]; exact State.updated_tsg e 0 first lf s
    have rmu : u.rmu = s.rmu := by rw [hu]; exact (State.updated_frame e 0 first lf s).1
    have mismatch : u.sde.labelMismatch = s.sde.labelMismatch := by rw [hu]; exact State.updated_labelMismatch e 0 first lf s
    rw [State.fullUpdate_of_steps, ← hu]
    obtain ⟨v, hv⟩ : ∃ v : State, v = u.applyStep e := ⟨_, rfl⟩
    have vtsg : v.tsg = u.tsg.step (limitStep e) := by rw [hv]; rfl
    have vrmu : v.rmu = u.rmu.shifted (limitStep e) := by rw [hv]; rfl
    have vsde : v.sde.labelMismatch = s.sde.labelMismatch := by rw [hv]; exact mismatch
    rw [← hv]
    have valid : v.tsg.timeValid = s.tsg.timeValid := by rw [vtsg, Tsg.step_timeValid, tsg]
    have seconds : v.tsg.seconds = (s.tsg.afterStep (some (limitStep e))).seconds := by
      rw [vtsg, tsg]
      exact (congrArg Tsg.seconds (s.tsg.step_flags _ s.tsg.timeValid (limitStep e)) :)
    have moved := State.labelled_moves k label v
    rw [valid, vsde, seconds] at moved
    exact State.Moves.of_flags (by rw [tsg]) rmu (State.Moves.after_step vtsg vrmu moved)

/-! ## The drive stage by what drives it -/

theorem State.drives_not_holdover (h : s.drives) : s.sde.clock ≠ .holdover := by
  rcases h with h | h | h <;> rw [h] <;> decide

/-- A clock that a GOOD epoch drives runs the loop after it. -/
theorem State.goodEpoch_loops (h : s.drives) (e : Int) : (s.goodEpoch e).1.loops = true := by
  have clock := congrArg Sde.clock (State.goodEpoch_leaves h e).sde
  unfold State.loops
  rw [clock]
  dsimp only [Sde.afterGood]
  split <;> rfl

/-- Whether the update that follows a GOOD epoch of value e is the first in LOCKED after a start (R81). -/
def State.firstLocked (s : State) (e : Int) : Bool :=
  !s.sde.lockedSinceStart && (s.goodEpoch e).1.sde.lockedSinceStart

variable {items : Six SlotItem} {n : SlotId}

theorem State.driveStage_of_selected (away : s.sde.clock ≠ .holdover) (selected : s.sde.selected = some n) :
    s.driveStage k items = s.driveItem k n (items.get n) (items.get lfSlot) := by
  rw [State.driveStage, if_neg away, selected]

theorem State.driveStage_of_none (away : s.sde.clock ≠ .holdover) (selected : s.sde.selected = none) :
    s.driveStage k items = s := by
  rw [State.driveStage, if_neg away, selected]

theorem State.driveStage_of_holdover (h : s.sde.clock = .holdover) :
    s.driveStage k items = s.judgeAssistance (items.get lfSlot) := if_pos h

/-- A GOOD epoch drives a full update. -/
theorem State.driveStage_of_good (drives : s.drives) (selected : s.sde.selected = some n) {e : Int}
    (good : (items.get n).outcome = .good e label) :
    s.driveStage k items =
      (s.goodEpoch e).1.fullUpdate k e label (decide (s.stepsAt e)) (s.firstLocked e) (items.get lfSlot) := by
  have leaves := State.goodEpoch_leaves drives e
  rw [State.driveStage_of_selected (State.drives_not_holdover drives) selected, State.driveItem, good]
  dsimp only
  rw [if_pos (State.goodEpoch_loops drives e), leaves.stepped]
  rfl

/-- An EMPTY epoch, or a FAULTY one, drives a hold update in ACQUIRE and LOCKED. -/
theorem State.driveStage_of_empty (loops : s.sde.clock = .acquire ∨ s.sde.clock = .locked)
    (selected : s.sde.selected = some n) (empty : (items.get n).outcome = .empty) :
    s.driveStage k items = s.holdUpdate n := by
  have away : s.sde.clock ≠ .holdover := by rcases loops with h | h <;> rw [h] <;> decide
  have runs : s.loops = true := by unfold State.loops; rcases loops with h | h <;> rw [h] <;> rfl
  rw [State.driveStage_of_selected away selected, State.driveItem, empty]
  exact if_pos runs

theorem State.driveStage_of_faulty (loops : s.sde.clock = .acquire ∨ s.sde.clock = .locked)
    (selected : s.sde.selected = some n) {kinds : FaultSet} (faulty : (items.get n).outcome = .faulty kinds) :
    s.driveStage k items = s.faultyEpoch.holdUpdate n := by
  have away : s.sde.clock ≠ .holdover := by rcases loops with h | h <;> rw [h] <;> decide
  have runs : s.loops = true := by unfold State.loops; rcases loops with h | h <;> rw [h] <;> rfl
  rw [State.driveStage_of_selected away selected, State.driveItem, faulty]
  exact if_pos runs

theorem State.not_loops_of_not {s : State} (h : ¬(s.sde.clock = .acquire ∨ s.sde.clock = .locked)) : s.loops = false := by
  unfold State.loops
  cases clock : s.sde.clock with
  | acquire => exact absurd (.inl clock) h
  | locked => exact absurd (.inr clock) h
  | freerun => rfl
  | bridge => rfl
  | holdover => rfl

/-- With no GOOD epoch, a clock that does not run the loop rests. -/
theorem State.driveStage_of_rest (away : s.sde.clock ≠ .holdover)
    (rest : ¬(s.sde.clock = .acquire ∨ s.sde.clock = .locked))
    (noGood : s.sde.clock = .freerun ∨ ∀ n, s.sde.selected = some n → ∀ e l, (items.get n).outcome ≠ .good e l) :
    s.driveStage k items = s := by
  cases selected : s.sde.selected with
  | none => exact State.driveStage_of_none away selected
  | some n =>
    rw [State.driveStage_of_selected away selected, State.driveItem]
    split
    next e l good =>
      have free : s.sde.clock = .freerun := noGood.resolve_right fun h => h n selected e l good
      have idle : ¬s.drives := by unfold State.drives; rw [free]; decide
      rw [State.goodEpoch_of_not_drives idle]
      dsimp only
      rw [if_neg (by rw [State.not_loops_of_not rest]; decide)]
    · rw [if_neg (by rw [State.not_loops_of_not rest]; decide)]
    · rw [if_neg (by rw [State.not_loops_of_not rest]; decide)]
    · rfl

theorem State.holdUpdate_tsg (n : SlotId) (s : State) :
    (s.holdUpdate n).tsg = { s.tsg with fApp := clampCorr s.sde.fInt } := by
  unfold State.holdUpdate
  dsimp only
  rw [(State.setE_frame _ _).1]
  rfl

theorem State.judgeAssistance_tsg (lf : SlotItem) (s : State) :
    (s.judgeAssistance lf).tsg = { s.tsg with fApp := (s.judgeAssistance lf).tsg.fApp } := by
  unfold State.judgeAssistance
  split
  · dsimp only
    split <;> rfl
  · split <;> rfl

theorem State.faultyEpoch_tsg (s : State) : s.faultyEpoch.tsg = s.tsg := (State.faultyEpoch_frame s).1

/-- The second move of a GOOD epoch's drive: by the step and the set that it ordered. -/
theorem State.driveStage_moves_of_good (drives : s.drives) (selected : s.sde.selected = some n) {e : Int}
    (good : (items.get n).outcome = .good e label) :
    let step := if s.stepsAt e then some (limitStep e) else none
    s.Moves step
      ((setFrom k label (s.tsg.timeValid || decide (s.locksAt e)) s.sde.labelMismatch).map
        fun l => l + ((s.tsg.afterStep step).seconds - k))
      (s.driveStage k items) := by
  dsimp only
  rw [State.driveStage_of_good drives selected good]
  have leaves := State.goodEpoch_leaves drives e
  obtain ⟨g, hg⟩ : ∃ g : State, g = (s.goodEpoch e).1 := ⟨_, rfl⟩
  have tsg := leaves.tsg
  have mismatch : (s.goodEpoch e).1.sde.labelMismatch = s.sde.labelMismatch :=
    (congrArg Sde.labelMismatch leaves.sde :)
  have rmu := (State.goodEpoch_frame e s).1
  rw [← hg] at tsg mismatch rmu ⊢
  have moved := State.fullUpdate_moves k e label (decide (s.stepsAt e)) (s.firstLocked e) (items.get lfSlot) g
  simp only [decide_eq_true_eq] at moved
  have seconds (step : Option Int) : (g.tsg.afterStep step).seconds = (s.tsg.afterStep step).seconds := by
    rw [tsg]; exact (congrArg Tsg.seconds (Tsg.afterStep_flags s.tsg s.tsg.fApp _ step) :)
  rw [seconds, mismatch, show g.tsg.timeValid = _ from congrArg Tsg.timeValid tsg] at moved
  exact State.Moves.of_flags (by rw [tsg]) rmu moved

/-- Without a GOOD epoch that drives, the drive stage leaves site time, F_app aside, and the RMU. -/
theorem State.driveStage_still
    (noGood : ¬(s.drives ∧ ∃ n e l, s.sde.selected = some n ∧ (items.get n).outcome = .good e l)) :
    (s.driveStage k items).tsg = { s.tsg with fApp := (s.driveStage k items).tsg.fApp } ∧
      (s.driveStage k items).rmu = s.rmu := by
  by_cases holdover : s.sde.clock = .holdover
  · rw [State.driveStage_of_holdover holdover]
    exact ⟨State.judgeAssistance_tsg _ s, (State.judgeAssistance_frame _ s).1⟩
  · by_cases loops : s.sde.clock = .acquire ∨ s.sde.clock = .locked
    · have drives : s.drives := loops.imp_right .inl
      cases selected : s.sde.selected with
      | none => rw [State.driveStage_of_none holdover selected]; exact ⟨rfl, rfl⟩
      | some n =>
        cases outcome : (items.get n).outcome with
        | good e l => exact absurd ⟨drives, n, e, l, selected, outcome⟩ noGood
        | empty =>
          rw [State.driveStage_of_empty loops selected outcome]
          exact ⟨by rw [State.holdUpdate_tsg], (State.holdUpdate_frame n s).1⟩
        | faulty kinds =>
          rw [State.driveStage_of_faulty loops selected outcome]
          refine ⟨by rw [State.holdUpdate_tsg, State.faultyEpoch_tsg], ?_⟩
          rw [(State.holdUpdate_frame n _).1, (State.faultyEpoch_frame s).2.1]
        | none =>
          rw [State.driveStage_of_selected holdover selected, State.driveItem, outcome]
          exact ⟨rfl, rfl⟩
    · have still : s.driveStage k items = s := by
        refine State.driveStage_of_rest holdover loops ?_
        by_cases drives : s.drives
        · exact .inr fun n selected e l good => noGood ⟨drives, n, e, l, selected, good⟩
        · refine .inl ?_
          cases clock : s.sde.clock with
          | freerun => rfl
          | holdover => exact absurd clock holdover
          | acquire => exact absurd (.inl clock) drives
          | locked => exact absurd (.inr (.inl clock)) drives
          | bridge => exact absurd (.inr (.inr clock)) drives
      rw [still]
      exact ⟨rfl, rfl⟩

end

end Sys2Proof.Machine
end

section
/-!
PROOFS. The epoch close in stages: the slots closed and told of, the summary driven, the selection, the settings adopted.
-/

namespace Sys2Proof.Machine

/-! ## Telling, by the notices alone -/

/-- From one notice state to another the report r is filed, and what then fits stands. -/
def TenantNotices.Tells (r : Report) (fits : Report → Prop) (n n' : TenantNotices) : Prop :=
  ∃ m : TenantNotices, n.Retains (fun _ => False) m ∧ (m.file r).Retains fits n'

theorem TenantNotices.Tells.later {r : Report} {fits : Report → Prop} {a b c : TenantNotices} (h : a.Tells r fits b)
    (h' : b.Retains fits c) : a.Tells r fits c := by
  obtain ⟨m, before, after⟩ := h
  exact ⟨m, before, after.trans h'⟩

theorem TenantNotices.Tells.earlier {r : Report} {fits : Report → Prop} {a b c : TenantNotices}
    (h : a.Retains (fun _ => False) b) (h' : b.Tells r fits c) : a.Tells r fits c := by
  obtain ⟨m, before, after⟩ := h'
  exact ⟨m, h.trans before, after⟩

section
variable {s t : State} {p : Port} {r : Report}

theorem State.told_of_tells (plain : r.kind ∉ [4, 5, 15]) (h : (s.nu.get p).Tells r (fun x => x = r) (t.nu.get p)) :
    s.told t p r := by
  obtain ⟨m, before, after⟩ := h
  exact State.told_of_file plain before after

/-- A posting to every attached tenant tells each. -/
theorem State.postAll_tells (r : Report) (fits : Report → Prop) (s : State) (inn : s.attached p = true) :
    (s.nu.get p).Tells r fits ((s.postAll r).nu.get p) := by
  refine ⟨s.nu.get p, .refl _ _, ?_⟩
  rw [State.postAll_nu_get, if_pos inn]
  exact .refl _ _

end

/-! ## What a close tells of one slot -/

/-- A REF_DISQUALIFIED that names slot n. -/
def disqualifiedNames (n : SlotId) (r : Report) : Prop := ∃ slots : Six Bool, r = .refDisqualified slots ∧ slots.get n = true

/-- A REF_HALTED that names slot n. -/
def haltedNames (n : SlotId) (r : Report) : Prop := ∃ slots : Six Bool, r = .refHalted slots ∧ slots.get n = true

theorem oneSlot_get_self (n : SlotId) : (oneSlot n).get n = true := Six.get_set_same _ _ _

/-- A union with a set that names a slot names it. -/
theorem disqualifiedNames_merge {n : SlotId} {slots : Six Bool} (named : slots.get n = true) (old : Report)
    (kind : old.kind = 4) : disqualifiedNames n (old.merge (.refDisqualified slots)) := by
  cases old with
  | refDisqualified a => exact ⟨slotUnion a slots, rfl, by rw [slotUnion_get, named, Bool.or_true]⟩
  | _ => cases kind

theorem haltedNames_merge {n : SlotId} {slots : Six Bool} (named : slots.get n = true) (old : Report)
    (kind : old.kind = 5) : haltedNames n (old.merge (.refHalted slots)) := by
  cases old with
  | refHalted a => exact ⟨slotUnion a slots, rfl, by rw [slotUnion_get, named, Bool.or_true]⟩
  | _ => cases kind

/-- A named slot stays named in the notice of its kind. -/
theorem disqualifiedNames_ignores (n : SlotId) (kinds : List Nat) : Ignores (disqualifiedNames n) kinds := by
  intro r _ old names same
  obtain ⟨a, rfl, named⟩ := names
  cases r with
  | refDisqualified b => exact ⟨slotUnion a b, rfl, by rw [slotUnion_get, named, Bool.true_or]⟩
  | _ => cases same

theorem haltedNames_ignores (n : SlotId) (kinds : List Nat) : Ignores (haltedNames n) kinds := by
  intro r _ old names same
  obtain ⟨a, rfl, named⟩ := names
  cases r with
  | refHalted b => exact ⟨slotUnion a b, rfl, by rw [slotUnion_get, named, Bool.true_or]⟩
  | _ => cases same

section
variable {s t : State} {p : Port} {n : SlotId}

theorem State.toldThat_disqualified
    (h : (s.nu.get p).Tells (.refDisqualified (oneSlot n)) (disqualifiedNames n) (t.nu.get p)) :
    s.toldThat t p 4 (disqualifiedNames n) := by
  obtain ⟨m, before, after⟩ := h
  exact State.toldThat_of_file before after rfl ⟨_, rfl, oneSlot_get_self n⟩ (disqualifiedNames_merge (oneSlot_get_self n))

theorem State.toldThat_halted
    (h : (s.nu.get p).Tells (.refHalted (oneSlot n)) (haltedNames n) (t.nu.get p)) :
    s.toldThat t p 5 (haltedNames n) := by
  obtain ⟨m, before, after⟩ := h
  exact State.toldThat_of_file before after rfl ⟨_, rfl, oneSlot_get_self n⟩ (haltedNames_merge (oneSlot_get_self n))

theorem State.postHalted_files (n : SlotId) (s : State) : s.Files [4, 5] (s.postHalted n) := by
  unfold State.postHalted
  exact State.postAll_files (by simp [Report.kind]) s

theorem State.postDisqualified_files (n : SlotId) (s : State) : s.Files [4, 5] (s.postDisqualified n) := by
  unfold State.postDisqualified
  exact (State.postAll_files (by simp [Report.kind]) s).trans (State.latchRefFault_files _ _)

theorem State.postClose_eq (closes : Six SlotClose) (n : SlotId) (s : State) :
    s.postClose closes n =
      let b := if (closes.get n).disqualified then s.postDisqualified n else s
      if (closes.get n).halted then b.postHalted n else b := rfl

theorem State.postClose_files (closes : Six SlotClose) (n : SlotId) (s : State) : s.Files [4, 5] (s.postClose closes n) := by
  have first : s.Files [4, 5] (if (closes.get n).disqualified then s.postDisqualified n else s) := by
    split
    · exact State.postDisqualified_files n s
    · exact .refl _ _
  rw [State.postClose_eq]
  dsimp only
  split
  · exact first.trans (State.postHalted_files n _)
  · exact first

/-- A disqualification is told and latched. -/
theorem State.postClose_disqualified {closes : Six SlotClose} (h : (closes.get n).disqualified = true)
    (inn : s.attached p = true) :
    (s.nu.get p).Tells (.refDisqualified (oneSlot n)) (disqualifiedNames n) ((s.postClose closes n).nu.get p) ∧
      ((s.postClose closes n).nu.get p).latches.refFault = true := by
  have told : (s.nu.get p).Tells (.refDisqualified (oneSlot n)) (disqualifiedNames n) ((s.postDisqualified n).nu.get p) :=
    (State.postAll_tells _ _ s inn).later
      ((State.latchRefFault_files [] _ p).retains _ (disqualifiedNames_ignores n _))
  have latched : ((s.postDisqualified n).nu.get p).latches.refFault = true := by
    have posted : (s.postAll (.refDisqualified (oneSlot n))).attached p = true := inn
    unfold State.postDisqualified
    rw [State.latchRefFault_get, if_pos posted]
  have last : (s.postDisqualified n).Files [4, 5] (s.postClose closes n) := by
    rw [State.postClose_eq]
    dsimp only
    rw [if_pos h]
    split
    · exact State.postHalted_files n _
    · exact .refl _ _
  exact ⟨told.later ((last p).retains _ (disqualifiedNames_ignores n _)), (last p).refFault latched⟩

/-- The end of a halt is told. -/
theorem State.postClose_halted {closes : Six SlotClose} (h : (closes.get n).halted = true) (inn : s.attached p = true) :
    (s.nu.get p).Tells (.refHalted (oneSlot n)) (haltedNames n) ((s.postClose closes n).nu.get p) := by
  rw [State.postClose_eq]
  dsimp only
  rw [if_pos h]
  generalize hb : (if (closes.get n).disqualified = true then s.postDisqualified n else s) = b
  have first : s.Files [4, 5] b := by
    rw [← hb]
    split
    · exact State.postDisqualified_files n s
    · exact .refl _ _
  have attached : b.attached p = true := by
    rw [← hb]
    split
    · exact inn
    · exact inn
  exact .earlier (first p).before (State.postAll_tells _ _ b attached)

/-- Among the acts for every slot stands that for slot n. -/
theorem State.forSlots_at {f : SlotId → State → State} {kinds : List Nat} (files : ∀ m x, State.Files kinds x (f m x))
    (tru : ∀ m x, (f m x).tru = x.tru) (n : SlotId) (s : State) :
    ∃ a : State, s.Files kinds a ∧ a.tru = s.tru ∧ (f n a).Files kinds (s.forSlots f) := by
  obtain ⟨a1, h1⟩ : ∃ a, a = f 0 s := ⟨_, rfl⟩
  obtain ⟨a2, h2⟩ : ∃ a, a = f 1 a1 := ⟨_, rfl⟩
  obtain ⟨a3, h3⟩ : ∃ a, a = f 2 a2 := ⟨_, rfl⟩
  obtain ⟨a4, h4⟩ : ∃ a, a = f 3 a3 := ⟨_, rfl⟩
  obtain ⟨a5, h5⟩ : ∃ a, a = f 4 a4 := ⟨_, rfl⟩
  have last : s.forSlots f = f 5 a5 := by rw [h5, h4, h3, h2, h1]; rfl
  have g1 : s.Files kinds a1 := h1 ▸ files 0 s
  have g2 : a1.Files kinds a2 := h2 ▸ files 1 a1
  have g3 : a2.Files kinds a3 := h3 ▸ files 2 a2
  have g4 : a3.Files kinds a4 := h4 ▸ files 3 a3
  have g5 : a4.Files kinds a5 := h5 ▸ files 4 a4
  have g6 : a5.Files kinds (s.forSlots f) := last ▸ files 5 a5
  have e1 : a1.tru = s.tru := h1 ▸ tru 0 s
  have e2 : a2.tru = s.tru := (h2 ▸ tru 1 a1 : a2.tru = a1.tru).trans e1
  have e3 : a3.tru = s.tru := (h3 ▸ tru 2 a2 : a3.tru = a2.tru).trans e2
  have e4 : a4.tru = s.tru := (h4 ▸ tru 3 a3 : a4.tru = a3.tru).trans e3
  have e5 : a5.tru = s.tru := (h5 ▸ tru 4 a4 : a5.tru = a4.tru).trans e4
  match n with
  | 0 => exact ⟨s, .refl _ _, rfl, h1 ▸ (((g2.trans g3).trans g4).trans g5).trans g6⟩
  | 1 => exact ⟨a1, g1, e1, h2 ▸ ((g3.trans g4).trans g5).trans g6⟩
  | 2 => exact ⟨a2, g1.trans g2, e2, h3 ▸ (g4.trans g5).trans g6⟩
  | 3 => exact ⟨a3, (g1.trans g2).trans g3, e3, h4 ▸ g5.trans g6⟩
  | 4 => exact ⟨a4, ((g1.trans g2).trans g3).trans g4, e4, h5 ▸ g6⟩
  | 5 => exact ⟨a5, (((g1.trans g2).trans g3).trans g4).trans g5, e5, last ▸ .refl _ _⟩

theorem State.postCloses_files (closes : Six SlotClose) (s : State) : s.Files [4, 5] (s.forSlots (State.postClose closes)) := by
  obtain ⟨a, first, -, last⟩ := State.forSlots_at (State.postClose_files closes)
    (fun m x => (State.postClose_frame closes m x).2.2.2.2.1) 0 s
  exact (first.trans (State.postClose_files closes 0 a)).trans last

/-! ## The stages -/

/-- The closes of a due EPOCH_CLOSE. -/
abbrev State.closing (s : State) : Six SlotClose := s.slotCloses (s.tsg.seconds - 1)

/-- The summary of a due EPOCH_CLOSE (R42). -/
abbrev State.summary (s : State) : Six SlotItem := s.closing.mapIdx fun _ (c : SlotClose) => c.item

/-- In b site time has come to the close of s, every slot is closed, and the notices of the closes are posted (R34, R38, R41). -/
structure State.SlotsClosed (s b : State) : Prop where
  tsg : b.tsg = { s.tsg with phase := b.tsg.phase, frac := b.tsg.frac }
  phase : b.tsg.phase = (s.advanceToPhase closePhase).tsg.phase
  rmu : b.rmu = s.rmu.closed (s.tsg.seconds - 1) s.closing
  sde : b.sde = s.sde
  ols : b.ols = s.ols
  tru : b.tru = s.tru
  spm : b.spm = s.spm
  tpi : b.tpi = s.tpi
  pins : b.pins = s.pins
  freeIndex : b.freeIndex = s.freeIndex
  pending : b.pending = s.pending
  pou : b.pou = (s.advanceToPhase closePhase).pou
  files : s.Files [4, 5] b
  disqualified : ∀ (n : SlotId) (p : Port), (s.closing.get n).disqualified = true → s.attached p = true →
    (s.nu.get p).Tells (.refDisqualified (oneSlot n)) (disqualifiedNames n) (b.nu.get p) ∧
      (b.nu.get p).latches.refFault = true
  halted : ∀ (n : SlotId) (p : Port), (s.closing.get n).halted = true → s.attached p = true →
    (s.nu.get p).Tells (.refHalted (oneSlot n)) (haltedNames n) (b.nu.get p)

/-- The slots closed and told of, from the part as site time reaches the close. -/
theorem State.slotsClosed_of_advance {a : State} (ha : a = s.advanceToPhase closePhase) :
    s.SlotsClosed (State.forSlots (State.postClose s.closing)
      { a with rmu := a.rmu.closed (s.tsg.seconds - 1) s.closing }) := by
  obtain ⟨rmu, sde, ols, tru, nu, spm, tpi, pins, free, pending⟩ := State.advanceToPhase_frame closePhase s
  have tsg : a.tsg = { s.tsg with phase := a.tsg.phase, frac := a.tsg.frac } := by rw [ha]; rfl
  rw [← ha] at rmu sde ols tru nu spm tpi pins free pending
  obtain ⟨b, hb⟩ : ∃ b : State, b = { a with rmu := a.rmu.closed (s.tsg.seconds - 1) s.closing } := ⟨_, rfl⟩
  obtain ⟨f1, f2, f3, f4, f5, f6, f7, f8, f9, f10, f11⟩ := State.postCloses_frame s.closing b
  have same : b.nu = s.nu := by rw [hb]; exact nu
  have attached (p : Port) : b.attached p = s.attached p := State.attached_congr (by rw [hb]; exact congrArg Tru.tenants tru) p
  have at' (n : SlotId) := State.forSlots_at (State.postClose_files s.closing)
    (fun m x => (State.postClose_frame s.closing m x).2.2.2.2.1) n b
  have files := State.postCloses_files s.closing b
  rw [← hb]
  generalize State.forSlots (State.postClose s.closing) b = c at f1 f2 f3 f4 f5 f6 f7 f8 f9 f10 f11 at' files
  constructor
  · rw [f1, hb]; exact tsg
  · rw [f1, hb]; exact congrArg (fun x => x.tsg.phase) ha
  · rw [f2, hb]; exact congrArg (fun r => Rmu.closed r _ _) rmu
  · rw [f3, hb]; exact sde
  · rw [f4, hb]; exact ols
  · rw [f5, hb]; exact tru
  · rw [f7, hb]; exact spm
  · rw [f8, hb]; exact tpi
  · rw [f9, hb]; exact pins
  · rw [f10, hb]; exact free
  · rw [f11, hb]; exact pending
  · rw [f6, hb]; exact (congrArg State.pou ha :)
  · exact (State.Files.of_nu same).trans files
  · intro n p disq inn
    obtain ⟨x, first, tru', last⟩ := at' n
    have attachedX : x.attached p = true := by
      rw [State.attached_congr (congrArg Tru.tenants tru') p, attached, inn]
    obtain ⟨told, latched⟩ := State.postClose_disqualified disq attachedX
    rw [← same]
    exact ⟨(TenantNotices.Tells.earlier (first p).before told).later ((last p).retains _ (disqualifiedNames_ignores n _)),
      (last p).refFault latched⟩
  · intro n p halt inn
    obtain ⟨x, first, tru', last⟩ := at' n
    have attachedX : x.attached p = true := by
      rw [State.attached_congr (congrArg Tru.tenants tru') p, attached, inn]
    rw [← same]
    exact (TenantNotices.Tells.earlier (first p).before (State.postClose_halted halt attachedX)).later
      ((last p).retains _ (haltedNames_ignores n _))

/-- The part with the settings adopted (R22). -/
def State.adopted (s : State) : State := { s with rmu := s.rmu.adopt s.tru.config }

/-- A due EPOCH_CLOSE in stages. -/
theorem epochClose_stages (due : s.closeDue = true) :
    ∃ b : State, s.SlotsClosed b ∧
      exec .epochClose s = .next
        (((b.driveStage (s.tsg.seconds - 1) s.summary).noteLfHalt (s.summary.get lfSlot)).selectAndFollow s.summary).adopted := by
  obtain ⟨a, ha⟩ : ∃ a : State, a = s.advanceToPhase closePhase := ⟨_, rfl⟩
  refine ⟨_, State.slotsClosed_of_advance ha, ?_⟩
  have closes : a.slotCloses (s.tsg.seconds - 1) = s.closing := by
    obtain ⟨rmu, -, -, tru, -⟩ := State.advanceToPhase_frame closePhase s
    unfold State.slotCloses
    rw [ha, rmu, tru]
    rfl
  have unfolded : exec .epochClose s =
      .next (if s.closeDue then (s.advanceToPhase closePhase).closeEpoch (s.tsg.seconds - 1) else s) := by rfl
  rw [unfolded, if_pos due, ← ha, State.closeEpoch_eq, State.drivenClose, closes]
  rfl

end

end Sys2Proof.Machine
end

section
/-!
PROOFS. A slot, and the RMU's other records, through an epoch close: closed, moved with site time, marked by the selection, its
settings adopted.
-/

namespace Sys2Proof.Machine

/-! ## Entries moved -/

theorem mapEntries_mapEntries (f g : Entry → Entry) (q : List QueueItem) :
    mapEntries g (mapEntries f q) = mapEntries (fun x => g (f x)) q := by
  unfold mapEntries
  rw [List.map_map]
  refine List.map_congr_left fun i _ => ?_
  cases i <;> rfl

theorem mapEntries_of_id {f : Entry → Entry} (h : ∀ x, f x = x) (q : List QueueItem) : mapEntries f q = q := by
  unfold mapEntries
  refine (List.map_congr_left fun i _ => ?_).trans (List.map_id q)
  cases i with
  | entry e => exact congrArg QueueItem.entry (h e)
  | haltMark => rfl

/-- An entry moved by a value and by a number of epochs. -/
def Entry.moved (by' : Int) (shift : Seconds) (x : Entry) : Entry :=
  { x with value := x.value + by', stamp := x.stamp + shift }

theorem Entry.moved_zero (x : Entry) : x.moved 0 0 = x := by
  simp [Entry.moved]

/-- The tallies renumbered, where there is a set. -/
def movedTallies (shift : Option Seconds) (ts : List Tally) : List Tally :=
  shift.elim ts fun d => ts.map fun t => { t with epoch := t.epoch + d }

/-- A slot moved by a value and renumbered. -/
def Slot.moved (by' : Int) (shift : Option Seconds) (sl : Slot) : Slot :=
  { sl with
    lastValue := sl.lastValue.map (· + by')
    queue := mapEntries (Entry.moved by' (shift.getD 0)) sl.queue
    tallies := movedTallies shift sl.tallies }

theorem Option.map_add_zero (v : Option Int) : v.map (· + 0) = v := by
  cases v <;> simp

theorem Slot.moved_zero (sl : Slot) : sl.moved 0 none = sl := by
  unfold Slot.moved
  rw [Option.map_add_zero, Option.getD_none, mapEntries_of_id Entry.moved_zero]
  rfl

theorem Slot.shiftPhase_eq (d : Int) (sl : Slot) : sl.shiftPhase d = sl.moved (-d) none := by
  unfold Slot.shiftPhase Slot.moved Entry.moved
  simp only [Int.sub_eq_add_neg, Option.getD_none, add_zero]
  rfl

theorem Slot.renumber_moved (by' : Int) (d : Seconds) (sl : Slot) :
    (sl.moved by' none).renumber d = sl.moved by' (some d) := by
  unfold Slot.renumber Slot.moved
  rw [mapEntries_mapEntries]
  have step : (fun x : Entry => ({ x.moved by' 0 with stamp := (x.moved by' 0).stamp + d } : Entry)) = Entry.moved by' d := by
    funext x; simp [Entry.moved]
  dsimp only [Option.getD_none, Option.getD_some]
  rw [step]
  rfl

/-- How far a phase step moves the values of slot n (R32). -/
def stepMove (n : SlotId) (step : Option Int) : Int := if phaseCapable n then -step.getD 0 else 0

theorem Rmu.movedBy_get (step : Option Int) (shift : Option Seconds) (r : Rmu) (n : SlotId) :
    (r.movedBy step shift).slots.get n = (r.slots.get n).moved (stepMove n step) shift := by
  have stepped : (step.elim r r.shifted).slots.get n = (r.slots.get n).moved (stepMove n step) none := by
    cases step with
    | none =>
      have zero : stepMove n none = 0 := by unfold stepMove; split <;> rfl
      rw [zero, Slot.moved_zero]; rfl
    | some d =>
      have shifted : ((some d).elim r r.shifted).slots.get n =
          if phaseCapable n then (r.slots.get n).shiftPhase d else r.slots.get n := Six.get_mapIdx _ _ _
      rw [shifted, stepMove]
      split
      · rw [Slot.shiftPhase_eq]; rfl
      · rw [Slot.moved_zero]
  cases shift with
  | none => exact stepped
  | some d =>
    have renumbered : (r.movedBy step (some d)).slots.get n = ((step.elim r r.shifted).slots.get n).renumber d :=
      Six.get_mapIdx _ _ _
    rw [renumbered, stepped, Slot.renumber_moved]

/-- The RMU's other records after a move. -/
theorem Rmu.movedBy_rest (step : Option Int) (shift : Option Seconds) (r : Rmu) :
    (r.movedBy step shift).lastClosed = r.lastClosed + shift.getD 0 ∧
      (r.targetA = none → (r.movedBy step shift).targetA = none) ∧
      (r.targetB = none → (r.movedBy step shift).targetB = none) ∧
      (r.movedBy step shift).lfMark = r.lfMark ∧
      (r.movedBy step shift).lfVoid = (r.lfVoid || step.isSome || shift.isSome) ∧
      (r.movedBy step shift).lfNominal = r.lfNominal := by
  have stepped : (step.elim r r.shifted).lastClosed = r.lastClosed ∧ (step.elim r r.shifted).targetA = r.targetA ∧
      (step.elim r r.shifted).targetB = r.targetB ∧ (step.elim r r.shifted).lfMark = r.lfMark ∧
      (step.elim r r.shifted).lfVoid = (r.lfVoid || step.isSome) ∧ (step.elim r r.shifted).lfNominal = r.lfNominal := by
    cases step with
    | none => exact ⟨rfl, rfl, rfl, rfl, (Bool.or_false _).symm, rfl⟩
    | some d => exact ⟨rfl, rfl, rfl, rfl, (Bool.or_true _).symm, rfl⟩
  obtain ⟨closed, a, b, mark, void, nominal⟩ := stepped
  unfold Rmu.movedBy
  dsimp only
  generalize step.elim r r.shifted = r' at closed a b mark void nominal
  cases shift with
  | none =>
    exact ⟨by rw [Option.elim_none, Option.getD_none, add_zero, closed], fun h => a.trans h, fun h => b.trans h, mark,
      void.trans (Bool.or_false _).symm, nominal⟩
  | some d =>
    refine ⟨congrArg (· + d) closed, fun h => ?_, fun h => ?_, mark, (Bool.or_true _).symm, nominal⟩
    · show r'.targetA.map _ = none; rw [a, h]; rfl
    · show r'.targetB.map _ = none; rw [b, h]; rfl

/-! ## Settings adopted -/

/-- A slot of an RMU whose settings are adopted (R22). -/
theorem Rmu.adopt_slot (r : Rmu) (c : SiteConfig) (n : SlotId) :
    (r.adopt c).slots.get n =
      { (r.slots.get n).adopt (phaseCapable n) (c.slots.get n).settings with
        lastValue :=
          if n = 2 ∧ c.lfNominal ≠ r.lfNominal then none
          else ((r.slots.get n).adopt (phaseCapable n) (c.slots.get n).settings).lastValue } := by
  unfold Rmu.adopt
  dsimp only
  by_cases same : c.lfNominal = r.lfNominal
  · rw [if_pos same, if_neg fun h => h.2 same]
    exact Six.get_mapIdx _ _ _
  · rw [if_neg same]
    dsimp only
    rw [Six.get_set]
    by_cases lf : n = 2
    · subst lf
      rw [if_pos (show (2 : SlotId) = lfSlot from rfl), if_pos ⟨rfl, same⟩]
      exact congrArg (fun sl : Slot => { sl with lastValue := none }) (Six.get_mapIdx _ _ 2)
    · rw [if_neg (show ¬n = lfSlot from lf), if_neg fun h => lf h.1]
      exact Six.get_mapIdx _ _ _

theorem Rmu.adopt_rest (r : Rmu) (c : SiteConfig) :
    (r.adopt c).lastClosed = r.lastClosed ∧ (r.adopt c).targetA = r.targetA ∧ (r.adopt c).targetB = r.targetB ∧
      (r.adopt c).lfVoid = r.lfVoid ∧ (r.adopt c).lfNominal = c.lfNominal ∧
      (c.lfNominal = r.lfNominal → (r.adopt c).lfMark = r.lfMark) ∧
      (c.lfNominal ≠ r.lfNominal → (r.adopt c).lfMark = none) := by
  unfold Rmu.adopt
  dsimp only
  by_cases same : c.lfNominal = r.lfNominal
  · rw [if_pos same]
    exact ⟨rfl, rfl, rfl, rfl, same.symm, fun _ => rfl, fun ne => absurd same ne⟩
  · rw [if_neg same]
    exact ⟨rfl, rfl, rfl, rfl, rfl, fun e => absurd e same, fun _ => rfl⟩

/-! ## The selection's marks -/

/-- The select stage moves the selection where the choice differs (R48). -/
def State.reselected (items : Six SlotItem) (s : State) : State :=
  if chooseSlot items s.tru.config s.sde.selected = s.sde.selected then s
  else s.changeSelection (chooseSlot items s.tru.config s.sde.selected)

theorem State.selectAndFollow_reselected (items : Six SlotItem) (s : State) :
    s.selectAndFollow items = (s.reselected items).followStage s.sde.selected := rfl

theorem State.reselected_selected (items : Six SlotItem) (s : State) :
    (s.reselected items).sde.selected = chooseSlot items s.tru.config s.sde.selected := by
  unfold State.reselected
  split
  next same => exact same.symm
  · rfl

theorem State.selectAndFollow_selected (items : Six SlotItem) (s : State) :
    (s.selectAndFollow items).sde.selected = chooseSlot items s.tru.config s.sde.selected := by
  rw [State.selectAndFollow_reselected, State.followStage_selected, State.reselected_selected]

theorem State.changeSelection_rmu (new : Option SlotId) (s : State) :
    (s.changeSelection new).rmu = { s.rmu with slots := s.rmu.slots.mapIdx (markSelection s.sde.selected new) } := rfl

/-- The mark that the choice leaves on slot n. -/
def State.markOf (items : Six SlotItem) (s : State) (n : SlotId) (sl : Slot) : Slot :=
  if chooseSlot items s.tru.config s.sde.selected = s.sde.selected then sl
  else markSelection s.sde.selected (chooseSlot items s.tru.config s.sde.selected) n sl

theorem State.selectAndFollow_slot (items : Six SlotItem) (s : State) (n : SlotId) :
    (s.selectAndFollow items).rmu.slots.get n = s.markOf items n (s.rmu.slots.get n) := by
  rw [State.selectAndFollow_reselected, (State.followStage_frame _ _).1]
  unfold State.reselected State.markOf
  split
  · rfl
  · rw [State.changeSelection_rmu]; exact Six.get_mapIdx _ _ _

theorem State.selectAndFollow_rest (items : Six SlotItem) (s : State) :
    (s.selectAndFollow items).rmu = { s.rmu with slots := (s.selectAndFollow items).rmu.slots } := by
  rw [State.selectAndFollow_reselected, (State.followStage_frame _ _).1]
  unfold State.reselected
  split <;> rfl

/-- A mark writes the state alone, and moves it between USABLE and SELECTED, where the items show the slots' states. -/
theorem State.markOf_spec {items : Six SlotItem} {n : SlotId} {sl : Slot} (s : State)
    (shown : (items.get n).state = sl.state) :
    s.markOf items n sl = { sl with state := (s.markOf items n sl).state } ∧
      (sl.state ≠ .usable → sl.state ≠ .selected → (s.markOf items n sl).state = sl.state) ∧
      (sl.state = .usable →
        (s.markOf items n sl).state = .usable ∨
          (s.markOf items n sl).state = .selected ∧ chooseSlot items s.tru.config s.sde.selected = some n) ∧
      (sl.state = .selected → (s.markOf items n sl).state = .usable ∨ (s.markOf items n sl).state = .selected) := by
  unfold State.markOf
  split
  · exact ⟨rfl, fun _ _ => rfl, fun h => .inl h, fun h => .inr h⟩
  next moved =>
    unfold markSelection
    split
    next chosen =>
      refine ⟨rfl, fun notUsable notSelected => ?_, fun _ => .inr ⟨rfl, chosen⟩, fun _ => .inr rfl⟩
      rcases chooseSlot_eq_some chosen with candidate | ⟨-, selected⟩
      · exact absurd (shown.symm.trans ((isCandidate_iff _ _).mp candidate).2.1) notUsable
      · exact absurd (shown.symm.trans selected) notSelected
    · split
      next old => exact ⟨rfl, fun _ h => absurd old.2 h, fun _ => .inl rfl, fun _ => .inl rfl⟩
      · exact ⟨rfl, fun _ _ => rfl, fun h => .inl h, fun h => .inr h⟩

end Sys2Proof.Machine
end

section
/-!
PROOFS. What an epoch close leaves of each slot, of the RMU, and of site time.
-/

namespace Sys2Proof.Machine

/-! ## One slot's close -/

section
variable {sl : Slot} {k : Seconds}

theorem Slot.taken_settings (k : Seconds) (sl : Slot) : (sl.taken k).settings = sl.settings := by
  show (sl.count _ _).settings = _
  unfold Slot.count
  split <;> rfl

theorem Slot.runOn_settings (sl : Slot) : sl.runOn.settings = sl.settings := by
  unfold Slot.runOn; split <;> rfl

theorem Slot.ran_settings (k : Seconds) (sl : Slot) : (sl.ran k).settings = sl.settings := by
  rw [Slot.ran, Slot.runOn_settings]
  split
  · exact Slot.taken_settings k sl
  · exact Slot.taken_settings k sl

/-- A close leaves the settings, which are adopted after it (R22). -/
theorem Slot.close_settings (enable : Bool) (k : Seconds) (sl : Slot) : (sl.close enable k).slot.settings = sl.settings := by
  by_cases idle : sl.state = .off ∨ sl.state = .disqualified
  · rw [Slot.close_of_idle enable k idle]
  · rw [Slot.close_of_open enable k idle]
    dsimp only
    split
    · exact Slot.ran_settings k sl
    · exact Slot.ran_settings k sl

/-- A HALTING slot ends its halt (R41). -/
theorem Slot.close_of_halting (enable : Bool) (k : Seconds) (h : sl.state = .halting) :
    (sl.close enable k).slot = (sl.ran k).endHalt enable ∧ (sl.close enable k).halted = true ∧
      (sl.close enable k).item.outcome = (sl.outcomeOf k).1 ∧
      (sl.close enable k).disqualified = decide (3 ≤ (sl.taken k).faultCount) := by
  have opened : ¬(sl.state = .off ∨ sl.state = .disqualified) := by rw [h]; decide
  rw [Slot.close_of_open enable k opened]
  dsimp only
  rw [if_pos h]
  exact ⟨rfl, decide_eq_true h, rfl, rfl⟩

end

/-! ## Through the stages -/

/-- The end of the close: the LF restart, the selection, and the settings adopted. -/
def State.closedOn (items : Six SlotItem) (c : State) : State :=
  ((c.noteLfHalt (items.get lfSlot)).selectAndFollow items).adopted

theorem State.enterBridge_tsg (s : State) : s.enterBridge.tsg = { s.tsg with fApp := s.enterBridge.tsg.fApp } := by
  rw [State.enterBridge_eq]
  dsimp only
  rw [(State.setE_frame _ _).1, (State.takeAnchor_frame _ _).1, State.orderFApp_tsg, (State.enterClock_frame _ _).1]
  rfl

/-- The follow stage orders F_app and writes no other part of site time. -/
theorem State.followStage_tsg (old : Option SlotId) (s : State) :
    (s.followStage old).tsg = { s.tsg with fApp := (s.followStage old).tsg.fApp } := by
  have of_same {t : State} (h : t.tsg = s.tsg) : t.tsg = { s.tsg with fApp := t.tsg.fApp } := by rw [h]
  rw [State.followStage_eq]
  dsimp only
  split
  · split
    · exact of_same (State.enterAcquireFollowing_frame s).1
    · rfl
  · split
    · rfl
    · split
      · rfl
      · split
        · exact of_same (State.enterHoldover_frame s).1
        · exact of_same (State.enterFreerun_frame s).1
  · split
    · rfl
    · split
      · rfl
      · split
        · exact State.enterBridge_tsg (s.withSde { s.sde with lockLoss := 0 })
        · exact of_same (State.enterHoldover_frame _).1
  · split <;> rfl
  · split
    · exact of_same (State.enterAcquireFollowing_frame _).1
    · rfl

theorem State.reselected_frame (items : Six SlotItem) (s : State) :
    (s.reselected items).tsg = s.tsg ∧ (s.reselected items).ols = s.ols ∧ (s.reselected items).tru = s.tru := by
  unfold State.reselected
  split
  · exact ⟨rfl, rfl, rfl⟩
  · exact ⟨rfl, rfl, rfl⟩

theorem State.closedOn_frame (items : Six SlotItem) (c : State) :
    (c.closedOn items).tsg = { c.tsg with fApp := (c.closedOn items).tsg.fApp } ∧ (c.closedOn items).ols = c.ols ∧
      (c.closedOn items).tru = c.tru ∧ (c.closedOn items).pou = c.pou ∧ (c.closedOn items).spm = c.spm ∧
      (c.closedOn items).tpi = c.tpi ∧ (c.closedOn items).pins = c.pins ∧ (c.closedOn items).freeIndex = c.freeIndex ∧
      (c.closedOn items).pending = c.pending := by
  obtain ⟨tsg, -, ols, tru, -, pou, spm, tpi, pins, free, pending⟩ := State.noteLfHalt_frame (items.get lfSlot) c
  obtain ⟨ols', tru', pou', spm', tpi', pins', free', pending'⟩ :=
    State.selectAndFollow_frame items (c.noteLfHalt (items.get lfSlot))
  refine ⟨?_, ols'.trans ols, tru'.trans tru, pou'.trans pou, spm'.trans spm, tpi'.trans tpi, pins'.trans pins,
    free'.trans free, pending'.trans pending⟩
  have followed := State.followStage_tsg (c.noteLfHalt (items.get lfSlot)).sde.selected
    ((c.noteLfHalt (items.get lfSlot)).reselected items)
  rw [(State.reselected_frame items _).1, tsg] at followed
  exact followed

theorem State.closedOn_files (items : Six SlotItem) (c : State) : c.Files [0, 1, 2, 3] (c.closedOn items) :=
  ((State.noteLfHalt_files _ _ c).trans (State.selectAndFollow_files items _)).trans (State.Files.of_nu rfl)

theorem State.noteLfHalt_selected (lf : SlotItem) (c : State) : (c.noteLfHalt lf).sde.selected = c.sde.selected := by
  rw [State.noteLfHalt_eq]; rfl

theorem State.closedOn_selected (items : Six SlotItem) (c : State) :
    (c.closedOn items).sde.selected = chooseSlot items c.tru.config c.sde.selected := by
  have chosen := State.selectAndFollow_selected items (c.noteLfHalt (items.get lfSlot))
  rw [(State.noteLfHalt_frame _ c).2.2.2.1, State.noteLfHalt_selected] at chosen
  exact chosen

section
variable {s b c : State} {step : Option Int} {set : Option Seconds}

/-- The slot that the close leaves, before it is moved and its settings are adopted. -/
abbrev State.closedSlot (s : State) (n : SlotId) : Slot := (s.closing.get n).slot

theorem State.closing_get (s : State) (n : SlotId) :
    s.closing.get n = (s.rmu.slots.get n).close (s.tru.config.slots.get n).enable (s.tsg.seconds - 1) :=
  Six.get_mapIdx _ _ _

theorem State.summary_get (s : State) (n : SlotId) : s.summary.get n = (s.closing.get n).item := Six.get_mapIdx _ _ _

theorem State.SlotsClosed.slot (closed : s.SlotsClosed b) (n : SlotId) : b.rmu.slots.get n = s.closedSlot n := by
  rw [closed.rmu]; exact Six.get_mapIdx _ _ _

theorem State.summary_state (s : State) (n : SlotId) : (s.summary.get n).state = (s.closedSlot n).state := by
  rw [State.closedSlot, State.summary_get, State.closing_get, Slot.close_item_state]

/-- By how much the RMU renumbers (R33). -/
def renumbering (b : State) (step : Option Int) (set : Option Seconds) : Option Seconds :=
  set.map fun v => v - (b.tsg.afterStep step).seconds

/-- A slot before the settings are adopted: closed, moved, and marked by the selection. -/
theorem State.marked_slot (closed : s.SlotsClosed b) (moves : b.Moves step set c) (n : SlotId) :
    ((c.noteLfHalt (s.summary.get lfSlot)).selectAndFollow s.summary).rmu.slots.get n =
      (c.noteLfHalt (s.summary.get lfSlot)).markOf s.summary n
        ((s.closedSlot n).moved (stepMove n step) (renumbering b step set)) := by
  rw [State.selectAndFollow_slot, (State.noteLfHalt_frame _ c).2.1, moves.rmu, Rmu.movedBy_get, closed.slot]
  rfl

/-- How far an epoch close moves the values of slot n: by a phase step and the change of cable compensation (R22, R32). -/
def State.valueMove (s : State) (n : SlotId) (step : Option Int) : Int :=
  if n = 2 then 0 else (s.tru.config.slots.get n).settings.comp - (s.rmu.slots.get n).settings.comp - step.getD 0

theorem State.valueMove_eq (s : State) (n : SlotId) (step : Option Int) :
    stepMove n step +
        (if phaseCapable n then (s.tru.config.slots.get n).settings.comp - (s.rmu.slots.get n).settings.comp else 0) =
      s.valueMove n step := by
  unfold stepMove State.valueMove
  by_cases lf : n = 2
  · have : phaseCapable n = false := by rw [lf]; rfl
    rw [this, if_pos lf]; rfl
  · have : phaseCapable n = true := bne_iff_ne.mpr lf
    rw [this, if_neg lf, if_pos rfl, if_pos rfl]
    omega

/-- What the close leaves of a slot: closed, moved, marked, and its settings adopted. -/
theorem State.closedOn_slot (closed : s.SlotsClosed b) (moves : b.Moves step set c) (tru : c.tru = s.tru)
    (n : SlotId) :
    let x := s.closedSlot n
    let y := (c.closedOn s.summary).rmu.slots.get n
    let adopted := (s.tru.config.slots.get n).settings
    y = { x with
          state := y.state, settings := adopted
          lastValue :=
            if n = 2 ∧ s.tru.config.lfNominal ≠ s.rmu.lfNominal then none
            else x.lastValue.map (· + s.valueMove n step)
          queue := mapEntries (Entry.moved (s.valueMove n step) ((renumbering b step set).getD 0)) x.queue
          tallies := movedTallies (renumbering b step set) x.tallies
          qualifyCount :=
            if x.state = .qualifying ∧ adopted.qualify ≤ x.qualifyCount then adopted.qualify - 1 else x.qualifyCount } ∧
      (x.state ≠ .usable → x.state ≠ .selected → y.state = x.state) ∧
      (x.state = .usable → y.state = .usable ∨ y.state = .selected ∧ (c.closedOn s.summary).sde.selected = some n) ∧
      (x.state = .selected → y.state = .usable ∨ y.state = .selected) := by
  dsimp only
  obtain ⟨d, hd⟩ : ∃ d : State, d = (c.noteLfHalt (s.summary.get lfSlot)).selectAndFollow s.summary := ⟨_, rfl⟩
  have final : c.closedOn s.summary = d.adopted := by rw [hd]; rfl
  have truD : d.tru = s.tru := by
    rw [hd, (State.selectAndFollow_frame _ _).2.1, (State.noteLfHalt_frame _ c).2.2.2.1, tru]
  have nominal : d.rmu.lfNominal = s.rmu.lfNominal := by
    rw [hd, State.selectAndFollow_rest]
    show (c.noteLfHalt _).rmu.lfNominal = _
    rw [(State.noteLfHalt_frame _ c).2.1, moves.rmu, (Rmu.movedBy_rest _ _ _).2.2.2.2.2, closed.rmu]
    rfl
  have marked := State.marked_slot closed moves n
  have chosen : (c.closedOn s.summary).sde.selected =
      chooseSlot s.summary (c.noteLfHalt (s.summary.get lfSlot)).tru.config
        (c.noteLfHalt (s.summary.get lfSlot)).sde.selected := by
    rw [State.closedOn_selected, (State.noteLfHalt_frame _ c).2.2.2.1, State.noteLfHalt_selected]
  obtain ⟨same, rest, usable, held⟩ := State.markOf_spec (c.noteLfHalt (s.summary.get lfSlot))
    (n := n) (sl := (s.closedSlot n).moved (stepMove n step) (renumbering b step set)) (s.summary_state n)
  rw [← marked, ← hd] at same rest usable held
  rw [← chosen] at usable
  have slot : (c.closedOn s.summary).rmu.slots.get n = (d.rmu.adopt d.tru.config).slots.get n := by rw [final]; rfl
  have settings : (s.closedSlot n).settings = (s.rmu.slots.get n).settings := by
    rw [State.closedSlot, State.closing_get, Slot.close_settings]
  rw [Rmu.adopt_slot, truD, nominal] at slot
  generalize d.rmu.slots.get n = z at same rest usable held slot
  have state : ((c.closedOn s.summary).rmu.slots.get n).state = z.state := by rw [slot]; rfl
  rw [state]
  refine ⟨?_, rest, usable, held⟩
  have qualifying : z.state = .qualifying ↔ (s.closedSlot n).state = .qualifying := by
    constructor
    · intro q
      by_cases u : (s.closedSlot n).state = .usable
      · rcases usable u with h | h
        · rw [h] at q; cases q
        · rw [h.1] at q; cases q
      · by_cases v : (s.closedSlot n).state = .selected
        · rcases held v with h | h <;> rw [h] at q <;> cases q
        · exact (rest u v).symm.trans q
    · intro q
      have away : (s.closedSlot n).state ≠ .usable ∧ (s.closedSlot n).state ≠ .selected := by rw [q]; decide
      exact (rest away.1 away.2).trans q
  have zSettings : z.settings = (s.rmu.slots.get n).settings := by rw [same]; exact settings
  have zCount : z.qualifyCount = (s.closedSlot n).qualifyCount := by rw [same]; rfl
  have zValue : z.lastValue = (s.closedSlot n).lastValue.map (· + stepMove n step) := by rw [same]; rfl
  have zQueue : z.queue = mapEntries (Entry.moved (stepMove n step) ((renumbering b step set).getD 0)) (s.closedSlot n).queue := by
    rw [same]; rfl
  have value : (z.lastValue.map (· + (if phaseCapable n then
      (s.tru.config.slots.get n).settings.comp - (s.rmu.slots.get n).settings.comp else 0))) =
        (s.closedSlot n).lastValue.map (· + s.valueMove n step) := by
    rw [zValue, Option.map_map, ← State.valueMove_eq]
    exact congrArg (fun f => Option.map f _) (funext fun v => Int.add_assoc _ _ _)
  have queue : mapEntries (fun e => { e with value := e.value + (if phaseCapable n then
      (s.tru.config.slots.get n).settings.comp - (s.rmu.slots.get n).settings.comp else 0) }) z.queue =
        mapEntries (Entry.moved (s.valueMove n step) ((renumbering b step set).getD 0)) (s.closedSlot n).queue := by
    rw [zQueue, mapEntries_mapEntries, ← State.valueMove_eq]
    exact congrArg (fun f => mapEntries f _) (funext fun v => by simp only [Entry.moved, Int.add_assoc])
  rw [slot]
  unfold Slot.adopt
  dsimp only
  rw [zSettings, value, queue, if_congr (and_congr_left' qualifying) rfl rfl, zCount]
  rw [same]
  rfl

/-- What the close leaves of the RMU, the slots aside. -/
theorem State.closedOn_rest (closed : s.SlotsClosed b) (moves : b.Moves step set c) (tru : c.tru = s.tru) :
    let t := c.closedOn s.summary
    t.rmu.lastClosed = s.tsg.seconds - 1 + (renumbering b step set).getD 0 ∧
      (keptTarget s.closing.s0 s.rmu.targetA = none → t.rmu.targetA = none) ∧
      (keptTarget s.closing.s1 s.rmu.targetB = none → t.rmu.targetB = none) ∧
      t.rmu.lfVoid = (s.rmu.lfVoid || step.isSome || set.isSome) ∧ t.rmu.lfNominal = s.tru.config.lfNominal ∧
      (s.tru.config.lfNominal = s.rmu.lfNominal → t.rmu.lfMark = s.rmu.lfMark) ∧
      (s.tru.config.lfNominal ≠ s.rmu.lfNominal → t.rmu.lfMark = none) := by
  dsimp only
  obtain ⟨d, hd⟩ : ∃ d : State, d = (c.noteLfHalt (s.summary.get lfSlot)).selectAndFollow s.summary := ⟨_, rfl⟩
  have truD : d.tru = s.tru := by
    rw [hd, (State.selectAndFollow_frame _ _).2.1, (State.noteLfHalt_frame _ c).2.2.2.1, tru]
  have final : (c.closedOn s.summary).rmu = d.rmu.adopt s.tru.config := by rw [← truD, hd]; rfl
  have moved : d.rmu = { b.rmu.movedBy step (renumbering b step set) with slots := d.rmu.slots } := by
    rw [hd, State.selectAndFollow_rest]
    dsimp only
    rw [(State.noteLfHalt_frame _ c).2.1, moves.rmu]
    rfl
  obtain ⟨m1, m2, m3, m4, m5, m6⟩ := Rmu.movedBy_rest step (renumbering b step set) b.rmu
  obtain ⟨a1, a2, a3, a4, a5, a6, a7⟩ := Rmu.adopt_rest d.rmu s.tru.config
  have isSome : (renumbering b step set).isSome = set.isSome := by cases set <;> rfl
  have e1 : d.rmu.lastClosed = b.rmu.lastClosed + (renumbering b step set).getD 0 :=
    (congrArg Rmu.lastClosed moved :).trans m1
  have e2 (h : b.rmu.targetA = none) : d.rmu.targetA = none := (congrArg Rmu.targetA moved :).trans (m2 h)
  have e3 (h : b.rmu.targetB = none) : d.rmu.targetB = none := (congrArg Rmu.targetB moved :).trans (m3 h)
  have e4 : d.rmu.lfMark = b.rmu.lfMark := (congrArg Rmu.lfMark moved :).trans m4
  have e5 : d.rmu.lfVoid = (b.rmu.lfVoid || step.isSome || (renumbering b step set).isSome) :=
    (congrArg Rmu.lfVoid moved :).trans m5
  have e6 : d.rmu.lfNominal = b.rmu.lfNominal := (congrArg Rmu.lfNominal moved :).trans m6
  have nominal : d.rmu.lfNominal = s.rmu.lfNominal := by rw [e6, closed.rmu]; rfl
  rw [nominal] at a6 a7
  rw [closed.rmu] at e1 e2 e3 e4 e5
  rw [final]
  refine ⟨by rw [a1, e1]; rfl, fun h => a2.trans (e2 h), fun h => a3.trans (e3 h), ?_, a5, fun h => (a6 h).trans e4, a7⟩
  rw [a4, e5, isSome]
  rfl

/-- The values and the queues that a close holds move with site time and the cable compensation (R22, R32, R33, R36). -/
theorem State.heldMoved_of_moves (closed : s.SlotsClosed b) (moves : b.Moves step set c) (tru : c.tru = s.tru) :
    s.heldMoved (c.closedOn s.summary) (step.getD 0) := by
  have last : (c.closedOn s.summary).rmu.lastClosed - (s.tsg.seconds - 1) = (renumbering b step set).getD 0 := by
    rw [(State.closedOn_rest closed moves tru).1]; exact add_sub_cancel_left _ _
  intro m
  have slot := (State.closedOn_slot closed moves tru m).1
  have settings : (s.closedSlot m).settings = (s.rmu.slots.get m).settings := by
    rw [State.closedSlot, State.closing_get, Slot.close_settings]
  dsimp only at slot ⊢
  rw [last]
  have by' : (if m = 2 then (0 : Int) else
      (s.tru.config.slots.get m).settings.comp - (s.closedSlot m).settings.comp - step.getD 0) = s.valueMove m step := by
    rw [settings]; rfl
  rw [show (((s.slotCloses (s.tsg.seconds - 1)).get m).slot) = s.closedSlot m from rfl, by', slot]
  exact ⟨rfl, rfl⟩

end

end Sys2Proof.Machine
end

section
/-!
PROOFS. The epoch close as a whole: site time, the last-closed epoch, the slots that end their halt, and what stands (O24).
-/

namespace Sys2Proof.Machine

section
variable {sl : Slot} {k : Seconds}

/-! ## The outcome of an epoch -/

theorem Slot.outcomeOf_of_marked (h : (tallyOf k sl.tallies).faults.marked = true) :
    sl.outcomeOf k = (.faulty (tallyOf k sl.tallies).faults, 0) := by
  unfold Slot.outcomeOf
  exact if_pos h

theorem Slot.outcomeOf_of_good (unmarked : ¬(tallyOf k sl.tallies).faults.marked = true)
    (some' : (entriesStamped k sl.queue).map (·.value) ≠ []) :
    sl.outcomeOf k =
      (.good (median ((entriesStamped k sl.queue).map (·.value)))
        ((entriesStamped k sl.queue).filterMap (·.label)).getLast?, 0) := by
  have filled : (!(entriesStamped k sl.queue).isEmpty) = true := by
    cases h : entriesStamped k sl.queue with
    | nil => rw [h] at some'; exact absurd rfl some'
    | cons _ _ => rfl
  unfold Slot.outcomeOf
  dsimp only
  rw [if_neg unmarked, if_pos filled]

theorem Slot.outcomeOf_of_silent (unmarked : ¬(tallyOf k sl.tallies).faults.marked = true)
    (none' : (entriesStamped k sl.queue).map (·.value) = []) :
    sl.outcomeOf k =
      if sl.settings.freshness < min 65535 (sl.emptyRun + 1) then
        (.faulty { stale := true }, min 65535 (sl.emptyRun + 1))
      else (.empty, min 65535 (sl.emptyRun + 1)) := by
  have empty : entriesStamped k sl.queue = [] := List.map_eq_nil_iff.mp none'
  unfold Slot.outcomeOf
  dsimp only
  rw [if_neg unmarked, empty]
  rfl

end

section
variable {s b : State}

/-- The label of the epoch that a due close closes for slot n, where it is GOOD (R36). -/
abbrev State.closingLabel (s : State) (n : SlotId) : Option Seconds :=
  ((entriesStamped (s.tsg.seconds - 1) (s.rmu.slots.get n).queue).filterMap (·.label)).getLast?

/-- A slot's item is GOOD where the slot takes an outcome and its epoch closes GOOD, with the median and the label (R35, R36). -/
theorem State.summary_good_iff (s : State) (n : SlotId) (e : Int) (l : Option Seconds) :
    (s.summary.get n).outcome = .good e l ↔
      ¬((s.rmu.slots.get n).state = .off ∨ (s.rmu.slots.get n).state = .disqualified) ∧ s.closesGood n ∧
        e = median (s.closingValues n) ∧ l = s.closingLabel n := by
  rw [State.summary_get, State.closing_get]
  by_cases idle : (s.rmu.slots.get n).state = .off ∨ (s.rmu.slots.get n).state = .disqualified
  · rw [Slot.close_of_idle _ _ idle]
    exact ⟨(by cases ·), fun h => absurd idle h.1⟩
  · rw [Slot.close_of_open _ _ idle]
    dsimp only
    by_cases marked : s.closingMarked n
    · rw [Slot.outcomeOf_of_marked marked]
      exact ⟨(by cases ·), fun h => absurd marked h.2.1.1⟩
    · by_cases silent : s.closingValues n = []
      · rw [Slot.outcomeOf_of_silent marked silent]
        refine ⟨fun h => ?_, fun h => absurd silent h.2.1.2⟩
        split at h <;> cases h
      · rw [Slot.outcomeOf_of_good marked silent]
        refine ⟨fun h => ?_, fun ⟨_, _, he, hl⟩ => he ▸ hl ▸ rfl⟩
        cases h
        exact ⟨idle, ⟨marked, silent⟩, rfl, rfl⟩

/-! ## What drives the close -/

theorem State.SlotsClosed.drives (closed : s.SlotsClosed b) : b.drives ↔ s.drives := by
  unfold State.drives; rw [closed.sde]

theorem State.SlotsClosed.timeValid (closed : s.SlotsClosed b) : b.tsg.timeValid = s.tsg.timeValid := by
  rw [closed.tsg]

theorem setFrom_of_same {k l : Seconds} (h : l = k) (valid : Bool) (mismatch : Nat) :
    setFrom k (some l) valid mismatch = none := if_pos (.inl h)

theorem setFrom_of_few {valid : Bool} {mismatch : Nat} (isValid : valid = true) (few : mismatch < 2) (k l : Seconds) :
    setFrom k (some l) valid mismatch = none := if_pos (.inr ⟨isValid, few⟩)

/-- A step ordered is within its limit, and a seconds set comes of a label other than the epoch's (R11, R65). -/
structure State.MovesOnOrder (s b c : State) (step : Option Int) (set : Option Seconds) : Prop where
  moves : b.Moves step set c
  limited : ∀ d, step = some d → -499999999999 ≤ d ∧ d ≤ 499999999999
  undriven : s.sde.selected = none → step = none ∧ set = none
  labelled : set ≠ none → ∃ (n : SlotId) (e : Int) (l : Seconds), s.sde.selected = some n ∧
    (s.summary.get n).outcome = .good e (some l) ∧ l ≠ s.tsg.seconds - 1 ∧
    ¬(s.tsg.timeValid = true ∧ s.sde.labelMismatch < 2)

theorem State.driveStage_movesOnOrder (closed : s.SlotsClosed b) :
    ∃ (step : Option Int) (set : Option Seconds),
      s.MovesOnOrder b (b.driveStage (s.tsg.seconds - 1) s.summary) step set := by
  by_cases good : b.drives ∧ ∃ n e l, b.sde.selected = some n ∧ (s.summary.get n).outcome = .good e l
  · obtain ⟨drives, n, e, l, selected, outcome⟩ := good
    refine ⟨_, _, State.driveStage_moves_of_good drives selected outcome, fun d hd => ?_, fun none => ?_, fun set => ?_⟩
    · split at hd
      · cases hd; exact limitStep_bounds e
      · cases hd
    · rw [← closed.sde, selected] at none; cases none
    · rw [closed.sde] at selected
      have mismatch : b.sde.labelMismatch = s.sde.labelMismatch := congrArg Sde.labelMismatch closed.sde
      cases l with
      | none => exact absurd rfl set
      | some l =>
        refine ⟨n, e, l, selected, outcome, fun same => set ?_, fun held => set ?_⟩
        · rw [setFrom_of_same same]; rfl
        · rw [setFrom_of_few (Bool.or_eq_true_iff.mpr (.inl (closed.timeValid.trans held.1))) (mismatch ▸ held.2)]; rfl
  · obtain ⟨tsg, rmu⟩ := State.driveStage_still (k := s.tsg.seconds - 1) good
    refine ⟨none, none, State.Moves.still ?_ rmu, fun _ h => (by cases h), fun _ => ⟨rfl, rfl⟩, fun h => absurd rfl h⟩
    rw [tsg]

theorem State.driveStage_selected (k : Seconds) (items : Six SlotItem) (s : State) :
    (s.driveStage k items).sde.selected = s.sde.selected := (State.driveStage_sameMarks k items).1

/-! ## Site time at the close -/

theorem ceilDiv_mul_lt (a : Nat) {b : Nat} (h : 0 < b) : ceilDiv a b * b < a + b := by
  unfold ceilDiv
  have := Nat.div_mul_le_self (a + b - 1) b
  omega

/-- Site time comes to the close within one cycle. -/
theorem State.closePhase_bound (range : s.timeInRange) (before : s.tsg.phase ≤ 250000000000) :
    (s.advanceToPhase closePhase).tsg.phase < 250000100000 := by
  obtain ⟨-, frac, low, high⟩ := range
  unfold corrLimit at low high
  unfold unitsPerPs at frac
  have phase : (s.advanceToPhase closePhase).tsg.phase =
      (s.tsg.position + min (ceilDiv (closePhase * unitsPerPs - s.tsg.position) s.tsg.cycleAdvance)
        ((unitsPerSecond - 1 - s.tsg.position) / s.tsg.cycleAdvance) * s.tsg.cycleAdvance) / unitsPerPs := rfl
  have adv : s.tsg.cycleAdvance = (1000000000000 + s.tsg.fApp).toNat := rfl
  have position : s.tsg.position = s.tsg.phase * 20000000 + s.tsg.frac := rfl
  rw [phase]
  generalize s.tsg.cycleAdvance = a at adv
  have positive : 0 < a := by omega
  have most : a < 1000100000000 := by omega
  have cycles := ceilDiv_mul_lt (closePhase * unitsPerPs - s.tsg.position) positive
  have fewer : min (ceilDiv (closePhase * unitsPerPs - s.tsg.position) a) ((unitsPerSecond - 1 - s.tsg.position) / a) * a ≤
      ceilDiv (closePhase * unitsPerPs - s.tsg.position) a * a := Nat.mul_le_mul_right a (Nat.min_le_left _ _)
  generalize min (ceilDiv (closePhase * unitsPerPs - s.tsg.position) a) ((unitsPerSecond - 1 - s.tsg.position) / a) * a = m
    at fewer
  generalize ceilDiv (closePhase * unitsPerPs - s.tsg.position) a * a = m' at fewer cycles
  unfold closePhase unitsPerPs at cycles
  unfold unitsPerPs
  omega

/-- A limited step from the close stays in the second, or goes back to the one before it and sets the re-run flag (R8, R9). -/
theorem Tsg.step_of_close {t : Tsg} {d : Int} (phase : t.phase < 250000100000) (low : -499999999999 ≤ d)
    (high : d ≤ 499999999999) :
    ((t.step d).phase : Int) = ((t.phase : Int) + d) % 1000000000000 ∧
      (t.step d).reRun = (t.reRun || decide ((t.phase : Int) + d < 0)) ∧
      (t.step d).seconds = if (t.phase : Int) + d < 0 then t.seconds - 1 else t.seconds := by
  unfold Tsg.step psPerSecond
  dsimp only
  by_cases back : (t.phase : Int) + d < 0
  · rw [if_pos back, if_pos back, decide_eq_true back, Bool.or_true]
    refine ⟨?_, rfl, rfl⟩
    dsimp only
    omega
  · rw [if_neg back, if_neg back, decide_eq_false back, Bool.or_false,
      if_pos (show (t.phase : Int) + d < ((1000000000000 : Nat) : Int) by omega)]
    refine ⟨?_, rfl, rfl⟩
    dsimp only
    omega

/-- Where the close stood before the close instant and no second is re-run, the last-closed epoch follows the seconds count. -/
theorem lastClosed_of_moves {c : State} {step : Option Int} {set : Option Seconds} (closed : s.SlotsClosed b)
    (ordered : s.MovesOnOrder b c step set) (range : s.timeInRange) (before : s.tsg.phase ≤ 250000000000)
    (first : s.tsg.reRun = false) :
    s.tsg.seconds - 1 + (renumbering b step set).getD 0 = if c.tsg.reRun then c.tsg.seconds else c.tsg.seconds - 1 := by
  have seconds : b.tsg.seconds = s.tsg.seconds := by rw [closed.tsg]
  have reRun : b.tsg.reRun = false := by rw [closed.tsg]; exact first
  have phase : b.tsg.phase < 250000100000 := by rw [closed.phase]; exact State.closePhase_bound range before
  have stepped : (b.tsg.afterStep step).seconds =
      if (b.tsg.afterStep step).reRun then s.tsg.seconds - 1 else s.tsg.seconds := by
    cases hs : step with
    | none =>
      show b.tsg.seconds = if b.tsg.reRun then _ else _
      rw [seconds, reRun]; rfl
    | some d =>
      obtain ⟨low, high⟩ := ordered.limited d hs
      obtain ⟨-, back, second⟩ := Tsg.step_of_close phase low high
      show (b.tsg.step d).seconds = if (b.tsg.step d).reRun then _ else _
      rw [second, back, reRun, Bool.false_or, seconds]
      simp only [decide_eq_true_eq]
  rw [ordered.moves.reRun, ordered.moves.seconds]
  unfold renumbering
  generalize b.tsg.afterStep step = a at stepped
  rw [stepped]
  cases set with
  | none => split <;> simp
  | some v =>
    dsimp only [Option.map_some, Option.getD_some]
    split
    · exact add_sub_cancel _ _
    · bv_omega

/-- With labels of the epoch alone, or few mismatches in valid time, no seconds set is ordered. -/
theorem State.MovesOnOrder.set_none {c : State} {step : Option Int} {set : Option Seconds}
    (ordered : s.MovesOnOrder b c step set)
    (h : ∀ n : SlotId, s.sde.selected = some n →
      s.tsg.timeValid = true ∧ s.sde.labelMismatch < 2 ∨
      ∀ e ∈ entriesStamped (s.tsg.seconds - 1) (s.rmu.slots.get n).queue,
        e.label = none ∨ e.label = some (s.tsg.seconds - 1)) : set = none := by
  by_contra some'
  obtain ⟨n, e, l, selected, outcome, other, unheld⟩ := ordered.labelled some'
  obtain ⟨-, -, -, label⟩ := (State.summary_good_iff s n e (some l)).mp outcome
  rcases h n selected with held | own
  · exact unheld held
  · obtain ⟨x, mem, isLabel⟩ := List.mem_filterMap.mp (List.mem_of_getLast? label.symm)
    rcases own x mem with none' | same
    · rw [none'] at isLabel; cases isLabel
    · exact other (Option.some.inj (isLabel.symm.trans same))

end

/-- Settles O24: the slots closed and told of, moved with site time, marked, and their settings adopted. -/
theorem epochCloseCloses : Obligations.EpochCloseCloses := by
  intro s
  refine ⟨fun idle => ?_, fun due => ?_⟩
  · have unfolded : exec .epochClose s =
        .next (if s.closeDue then (s.advanceToPhase closePhase).closeEpoch (s.tsg.seconds - 1) else s) := by rfl
    rw [unfolded, if_neg (by rw [idle]; decide)]
  obtain ⟨b, closed, next⟩ := epochClose_stages due
  obtain ⟨step, set, ordered⟩ := State.driveStage_movesOnOrder closed
  have files := State.driveStage_files (s.tsg.seconds - 1) s.summary b
  obtain ⟨tru, pou, spm, tpi, pins, free, pending⟩ := State.driveStage_frame (s.tsg.seconds - 1) s.summary b
  generalize b.driveStage (s.tsg.seconds - 1) s.summary = c at *
  rw [closed.tru] at tru
  obtain ⟨t, ht⟩ : ∃ t : State, t = c.closedOn s.summary := ⟨_, rfl⟩
  obtain ⟨tsg', -, tru', pou', spm', tpi', pins', free', pending'⟩ := State.closedOn_frame s.summary c
  obtain ⟨last, targetA, targetB, -, nominal, mark, unmarked⟩ := State.closedOn_rest closed ordered.moves tru
  have slots (n : SlotId) := State.closedOn_slot closed ordered.moves tru n
  have files' := State.closedOn_files s.summary c
  rw [← ht] at tsg' tru' pou' spm' tpi' pins' free' pending' last targetA targetB nominal mark unmarked slots files'
  dsimp only at slots
  refine ⟨t, by rw [ht]; exact next, tru'.trans tru, (spm'.trans spm).trans closed.spm, (tpi'.trans tpi).trans closed.tpi,
    (pins'.trans pins).trans closed.pins, (pending'.trans pending).trans closed.pending,
    (free'.trans free).trans closed.freeIndex, fun o => ?_, fun labels => ?_, fun range before first => ?_,
    fun n halting => ?_, fun n => ?_, nominal, fun changed => ⟨unmarked changed, ?_⟩, mark⟩
  · have advanced : ∃ (now : Tsg) (cycles adv : Nat), t.pou.get o = (s.pou.get o).advance now cycles adv := by
      rw [pou', pou, closed.pou]; exact ⟨_, _, _, Four.get_mapIdx _ _ _⟩
    obtain ⟨now, cycles, adv, out⟩ := advanced
    obtain ⟨current, pend, state, -⟩ := Output.advance_frame now cycles adv (s.pou.get o)
    rw [out]
    exact ⟨current, pend, state⟩
  · rw [last, renumbering, ordered.set_none labels]; simp
  · rw [last, lastClosed_of_moves closed ordered range before first, tsg']
  · obtain ⟨slot, rest, -⟩ := slots n
    obtain ⟨ended, halted, -⟩ :=
      Slot.close_of_halting (s.tru.config.slots.get n).enable (s.tsg.seconds - 1) halting
    have isEnded : s.closedSlot n = _ := (congrArg SlotClose.slot (State.closing_get s n)).trans ended
    have isHalted : (s.closing.get n).halted = true := by rw [State.closing_get]; exact halted
    have state : (s.closedSlot n).state = if (s.tru.config.slots.get n).enable then .qualifying else .off := by
      rw [isEnded]; rfl
    have away : (s.closedSlot n).state ≠ .usable ∧ (s.closedSlot n).state ≠ .selected := by
      rw [state]; split <;> decide
    have kept (x : Option LabelTarget) (cl : SlotClose) (h : cl.halted = true) : keptTarget cl x = none := by
      unfold keptTarget; rw [h, Bool.or_true]; rfl
    refine ⟨(rest away.1 away.2).trans state, ?_, ?_, ?_, ?_, ?_, ?_, ?_, ?_, fun h => ?_, fun h => ?_, fun p inn => ?_⟩
    · rw [slot, isEnded]; rfl
    · rw [slot]
      dsimp only
      have zero : (s.closedSlot n).qualifyCount = 0 := by rw [isEnded]; rfl
      rw [zero]
      split
      next h => omega
      · rfl
    · rw [slot, isEnded]; rfl
    · rw [slot, isEnded]; rfl
    · rw [slot, isEnded]; rfl
    · rw [slot, isEnded]
      exact ite_self _
    · rw [slot, isEnded]; rfl
    · rw [slot, isEnded]
      cases renumbering b step set <;> rfl
    · subst h; exact targetA (kept _ _ isHalted)
    · subst h; exact targetB (kept _ _ isHalted)
    · have attached : s.attached p = true := by
        rw [← inn]; exact State.attached_congr (congrArg Tru.tenants (tru'.trans tru)).symm p
      exact State.toldThat_halted (((closed.halted n p isHalted attached).later
        ((files p).retains _ (haltedNames_ignores n _))).later ((files' p).retains _ (haltedNames_ignores n _))) inn
  · rw [(slots n).1]
  · rw [(slots 2).1]
    exact if_pos ⟨rfl, changed⟩

end Sys2Proof.Machine
end

section
/-!
PROOFS. How the epochs that close count on a slot: its runs, its faults, its hold-off.
-/

namespace Sys2Proof.Machine

section
variable {sl : Slot} {k : Seconds}

/-! ## One slot's count -/

/-- The tallies without that of an epoch. -/
def otherTallies (k : Seconds) (ts : List Tally) : List Tally := ts.filter fun x => x.epoch != k

theorem Slot.taken_of_faulty {kinds : FaultSet} {run : Nat} (h : sl.outcomeOf k = (.faulty kinds, run)) :
    sl.taken k =
      { sl with
        faultCount := min 3 (sl.faultCount + 1), qualifyCount := 0, emptyRun := run, lastFaults := kinds
        queue := dropStamped k sl.queue, tallies := otherTallies k sl.tallies } := by
  rw [Slot.taken, h]; rfl

theorem Slot.taken_of_empty {run : Nat} (h : sl.outcomeOf k = (.empty, run)) :
    sl.taken k =
      { sl with emptyRun := run, queue := dropStamped k sl.queue, tallies := otherTallies k sl.tallies } := by
  rw [Slot.taken, h]; rfl

theorem Slot.taken_of_good {v : Int} {l : Option Seconds} {run : Nat} (h : sl.outcomeOf k = (.good v l, run)) :
    sl.taken k =
      let q := if sl.state = .qualifying then sl.qualifyCount + 1 else sl.qualifyCount
      { sl with
        faultCount := 0, emptyRun := 0, qualifyCount := q
        state := if sl.state = .qualifying ∧ sl.settings.qualify ≤ q then .usable else sl.state
        lastValue := some v, lastLabel := l.or sl.lastLabel
        queue := dropStamped k sl.queue, tallies := otherTallies k sl.tallies } := by
  rw [Slot.taken, h]; rfl

theorem Slot.runOn_of_running (h : sl.state = .usable ∨ sl.state = .selected) :
    sl.runOn =
      { sl with
        usableRun := min 3600 (sl.usableRun + 1)
        streak := if min 3600 (sl.usableRun + 1) = 3600 then 0 else sl.streak } := if_pos h

theorem Slot.runOn_of_not_running (h : ¬(sl.state = .usable ∨ sl.state = .selected)) :
    sl.runOn = { sl with usableRun := 0 } := if_neg h

/-- The USABLE run and the streak are all that a close's run writes. -/
theorem Slot.runOn_rest (sl : Slot) :
    sl.runOn = { sl with usableRun := sl.runOn.usableRun, streak := sl.runOn.streak } := by
  unfold Slot.runOn; split <;> rfl

/-- The state counts outcomes toward USABLE or the loss of it (R35). -/
abbrev SlotState.counts (st : SlotState) : Prop := st = .qualifying ∨ st = .usable ∨ st = .selected

theorem SlotState.counts_not_idle {st : SlotState} (h : st.counts) :
    ¬(st = .off ∨ st = .disqualified) ∧ st ≠ .halting := by
  rcases h with h | h | h <;> subst h <;> decide

/-- A slot that goes on: counted, and its USABLE run (R36, R40). -/
theorem Slot.close_of_few (enable : Bool) (counts : sl.state.counts) (few : (sl.taken k).faultCount < 3) :
    (sl.close enable k).slot = (sl.taken k).runOn ∧ (sl.close enable k).disqualified = false := by
  obtain ⟨opened, running⟩ := SlotState.counts_not_idle counts
  rw [Slot.close_of_open enable k opened]
  dsimp only
  rw [if_neg running, Slot.ran, if_neg (Nat.not_le.mpr few)]
  exact ⟨rfl, decide_eq_false (Nat.not_le.mpr few)⟩

/-- A slot DISQUALIFIED at its third fault (R38). -/
theorem Slot.close_of_third (enable : Bool) (counts : sl.state.counts) (third : 3 ≤ (sl.taken k).faultCount) :
    (sl.close enable k).slot = { (sl.taken k).disqualify with usableRun := 0 } ∧
      (sl.close enable k).disqualified = true := by
  obtain ⟨opened, running⟩ := SlotState.counts_not_idle counts
  rw [Slot.close_of_open enable k opened]
  dsimp only
  rw [if_neg running, Slot.ran, if_pos third, Slot.runOn_of_not_running (by rintro (h | h) <;> cases h)]
  exact ⟨rfl, decide_eq_true third⟩

end

section
variable {s : State} {n : SlotId}

/-! ## The outcome of slot n -/

theorem State.outcome_of_marked (h : s.closingMarked n) :
    (s.rmu.slots.get n).outcomeOf (s.tsg.seconds - 1) =
      (.faulty (tallyOf (s.tsg.seconds - 1) (s.rmu.slots.get n).tallies).faults, 0) := Slot.outcomeOf_of_marked h

theorem State.outcome_of_good (h : s.closesGood n) :
    (s.rmu.slots.get n).outcomeOf (s.tsg.seconds - 1) = (.good (median (s.closingValues n)) (s.closingLabel n), 0) :=
  Slot.outcomeOf_of_good h.1 h.2

theorem State.outcome_of_empty (h : s.closesEmpty n) :
    (s.rmu.slots.get n).outcomeOf (s.tsg.seconds - 1) = (.empty, s.runAfterSilence n) := by
  obtain ⟨unmarked, silent, fresh⟩ := h
  exact (Slot.outcomeOf_of_silent unmarked silent).trans (if_neg (Nat.not_lt.mpr fresh))

theorem State.outcome_of_stale (unmarked : ¬s.closingMarked n) (h : s.closesFaulty n) :
    (s.rmu.slots.get n).outcomeOf (s.tsg.seconds - 1) = (.faulty { stale := true }, s.runAfterSilence n) := by
  obtain ⟨silent, stale⟩ := h.resolve_left unmarked
  exact (Slot.outcomeOf_of_silent unmarked silent).trans (if_pos stale)

/-- A FAULTY epoch, marked or STALE: the kinds of fault and the empty run that it leaves (R35). -/
theorem State.outcome_of_faulty (h : s.closesFaulty n) :
    ∃ (kinds : FaultSet) (run : Nat), (s.rmu.slots.get n).outcomeOf (s.tsg.seconds - 1) = (.faulty kinds, run) ∧
      (s.closingMarked n → run = 0 ∧ kinds = (tallyOf (s.tsg.seconds - 1) (s.rmu.slots.get n).tallies).faults) ∧
      (¬s.closingMarked n → run = s.runAfterSilence n ∧ kinds = { stale := true }) := by
  by_cases marked : s.closingMarked n
  · exact ⟨_, _, State.outcome_of_marked marked, fun _ => ⟨rfl, rfl⟩, fun un => absurd marked un⟩
  · exact ⟨_, _, State.outcome_of_stale marked h, fun is => absurd is marked, fun _ => ⟨rfl, rfl⟩⟩

/-- Below two faults no outcome disqualifies. -/
theorem State.taken_few (h : (s.rmu.slots.get n).faultCount < 2) :
    ((s.rmu.slots.get n).taken (s.tsg.seconds - 1)).faultCount < 3 := by
  generalize outcome : (s.rmu.slots.get n).outcomeOf (s.tsg.seconds - 1) = o
  obtain ⟨o, run⟩ := o
  cases o with
  | good v l => rw [Slot.taken_of_good outcome]; exact Nat.zero_lt_succ _
  | empty => rw [Slot.taken_of_empty outcome]; exact Nat.lt_succ_of_lt h
  | faulty kinds => rw [Slot.taken_of_faulty outcome]; show min 3 _ < 3; omega
  | none =>
    have same : ((s.rmu.slots.get n).taken (s.tsg.seconds - 1)).faultCount = (s.rmu.slots.get n).faultCount := by
      rw [Slot.taken, outcome]; rfl
    omega

/-- What a due close leaves, for the statements about one slot. -/
structure State.ClosesInto (s t : State) : Prop where
  next : exec .epochClose s = .next t
  slot : ∀ n : SlotId, ∃ (step : Option Int) (shift : Option Seconds),
    t.rmu.slots.get n =
      { s.closedSlot n with
        state := (t.rmu.slots.get n).state, settings := (s.tru.config.slots.get n).settings
        lastValue :=
          if n = 2 ∧ s.tru.config.lfNominal ≠ s.rmu.lfNominal then none
          else (s.closedSlot n).lastValue.map (· + s.valueMove n step)
        queue := mapEntries (Entry.moved (s.valueMove n step) (shift.getD 0)) (s.closedSlot n).queue
        tallies := movedTallies shift (s.closedSlot n).tallies
        qualifyCount :=
          if (s.closedSlot n).state = .qualifying ∧
              (s.tru.config.slots.get n).settings.qualify ≤ (s.closedSlot n).qualifyCount then
            (s.tru.config.slots.get n).settings.qualify - 1
          else (s.closedSlot n).qualifyCount } ∧
      (s.sde.selected = none → step = none ∧ shift = none)
  rest : ∀ n : SlotId, (s.closedSlot n).state ≠ .usable → (s.closedSlot n).state ≠ .selected →
    (t.rmu.slots.get n).state = (s.closedSlot n).state
  usable : ∀ n : SlotId, (s.closedSlot n).state = .usable →
    (t.rmu.slots.get n).state = .usable ∨ (t.rmu.slots.get n).state = .selected ∧ t.sde.selected = some n
  held : ∀ n : SlotId, (s.closedSlot n).state = .selected →
    (t.rmu.slots.get n).state = .usable ∨ (t.rmu.slots.get n).state = .selected
  undriven : s.sde.selected = none → s.heldMoved t 0
  targets : ∀ n : SlotId, (s.closing.get n).disqualified = true →
    (n = 0 → t.rmu.targetA = none) ∧ (n = 1 → t.rmu.targetB = none)
  told : ∀ n : SlotId, (s.closing.get n).disqualified = true → ∀ p : Port, s.attached p = true →
    (t.nu.get p).latches.refFault = true ∧ s.toldThat t p 4 (disqualifiedNames n)

theorem epochClose_closesInto (due : s.closeDue = true) : ∃ t : State, s.ClosesInto t := by
  obtain ⟨b, closed, next⟩ := epochClose_stages due
  obtain ⟨step, set, ordered⟩ := State.driveStage_movesOnOrder closed
  have files := State.driveStage_files (s.tsg.seconds - 1) s.summary b
  have tru := (State.driveStage_frame (s.tsg.seconds - 1) s.summary b).1
  generalize b.driveStage (s.tsg.seconds - 1) s.summary = c at *
  rw [closed.tru] at tru
  have slots := State.closedOn_slot closed ordered.moves tru
  obtain ⟨-, targetA, targetB, -⟩ := State.closedOn_rest closed ordered.moves tru
  have files' := State.closedOn_files s.summary c
  have moved := State.heldMoved_of_moves closed ordered.moves tru
  dsimp only at slots
  have dropped (cl : SlotClose) (x : Option LabelTarget) (h : cl.disqualified = true) : keptTarget cl x = none := by
    unfold keptTarget; rw [h]; rfl
  refine ⟨c.closedOn s.summary, next, fun n => ⟨step, renumbering b step set, (slots n).1, fun none => ?_⟩,
    fun n => (slots n).2.1, fun n => (slots n).2.2.1, fun n => (slots n).2.2.2, fun none => ?_,
    fun n disq => ⟨fun h => ?_, fun h => ?_⟩, fun n disq p inn => ?_⟩
  · obtain ⟨noStep, noSet⟩ := ordered.undriven none
    exact ⟨noStep, by rw [noSet]; rfl⟩
  · rwa [(ordered.undriven none).1] at moved
  · subst h; exact targetA (dropped _ _ disq)
  · subst h; exact targetB (dropped _ _ disq)
  · obtain ⟨told, latched⟩ := closed.disqualified n p disq inn
    exact ⟨(files' p).refFault ((files p).refFault latched), State.toldThat_disqualified
      ((told.later ((files p).retains _ (disqualifiedNames_ignores n _))).later
        ((files' p).retains _ (disqualifiedNames_ignores n _)))⟩

theorem State.closedSlot_eq (s : State) (n : SlotId) :
    s.closedSlot n =
      ((s.rmu.slots.get n).close (s.tru.config.slots.get n).enable (s.tsg.seconds - 1)).slot := by
  rw [State.closedSlot, State.closing_get]

/-- A slot that counts and stays below three faults: what of it stands after its count (R36, R40). -/
theorem State.ClosesInto.goesOn {t : State} (into : s.ClosesInto t) {taken : Slot}
    (isTaken : (s.rmu.slots.get n).taken (s.tsg.seconds - 1) = taken) (counts : (s.rmu.slots.get n).state.counts)
    (few : taken.faultCount < 3) (state : taken.state = (s.rmu.slots.get n).state)
    (usableRun : taken.usableRun = (s.rmu.slots.get n).usableRun) (streak : taken.streak = (s.rmu.slots.get n).streak)
    (holdOff : taken.holdOff = (s.rmu.slots.get n).holdOff)
    (tallies : taken.tallies = otherTallies (s.tsg.seconds - 1) (s.rmu.slots.get n).tallies) :
    let sl := s.rmu.slots.get n
    let sl' := t.rmu.slots.get n
    (sl.state = .qualifying → sl'.state = .qualifying ∧ sl'.usableRun = 0 ∧ sl'.streak = sl.streak) ∧
      (sl.state ≠ .qualifying →
        (sl'.state = .usable ∨ sl'.state = .selected) ∧ sl'.usableRun = min 3600 (sl.usableRun + 1) ∧
        sl'.streak = if min 3600 (sl.usableRun + 1) = 3600 then 0 else sl.streak) ∧
      sl'.holdOff = sl.holdOff ∧ sl'.settings = (s.tru.config.slots.get n).settings ∧
      (s.sde.selected = none → s.heldMoved t 0 ∧ sl'.tallies = otherTallies (s.tsg.seconds - 1) sl.tallies) := by
  dsimp only
  obtain ⟨step, shift, slot, undriven⟩ := into.slot n
  have closed : s.closedSlot n = taken.runOn := by
    rw [State.closedSlot_eq, (Slot.close_of_few _ counts (isTaken ▸ few)).1, isTaken]
  have closedState : (s.closedSlot n).state = (s.rmu.slots.get n).state := by rw [closed, Slot.runOn_state, state]
  refine ⟨fun qualifying => ?_, fun away => ?_, ?_, ?_, fun none => ⟨into.undriven none, ?_⟩⟩
  · have idle : ¬(taken.state = .usable ∨ taken.state = .selected) := by rw [state, qualifying]; decide
    rw [Slot.runOn_of_not_running idle] at closed
    refine ⟨?_, by rw [slot, closed], by rw [slot, closed]; exact streak⟩
    rw [into.rest n (by rw [closedState, qualifying]; decide) (by rw [closedState, qualifying]; decide), closedState,
      qualifying]
  · have running := counts.resolve_left away
    rw [Slot.runOn_of_running (by rw [state]; exact running)] at closed
    refine ⟨?_, by rw [slot, closed]; dsimp only; rw [usableRun], by rw [slot, closed]; dsimp only; rw [usableRun, streak]⟩
    rcases running with u | v
    · exact (into.usable n (closedState.trans u)).imp_right And.left
    · exact into.held n (closedState.trans v)
  · rw [slot, closed]
    unfold Slot.runOn
    split <;> exact holdOff
  · rw [slot]
  · obtain ⟨-, rfl⟩ := undriven none
    rw [slot, closed]
    unfold Slot.runOn
    split <;> exact tallies

end

end Sys2Proof.Machine
end

section
/-!
PROOFS. EMPTY and FAULTY epochs, and GOOD ones, as they count on a slot (O25, O26).
-/

namespace Sys2Proof.Machine

section
variable {s : State} {n : SlotId} {t : State}

/-- The qualify count that adoption leaves of a count of 0 is 0 (R22). -/
theorem adopted_zero (p : Prop) [Decidable p] (q : Nat) : (if p ∧ q ≤ 0 then q - 1 else 0) = 0 := by
  split
  next h => omega
  · rfl

/-- An OFF or DISQUALIFIED slot takes no outcome (R35). -/
theorem State.ClosesInto.of_idle (into : s.ClosesInto t)
    (idle : (s.rmu.slots.get n).state = .off ∨ (s.rmu.slots.get n).state = .disqualified) :
    t.rmu.slots.get n =
      { s.rmu.slots.get n with
        settings := (s.tru.config.slots.get n).settings, lastValue := (t.rmu.slots.get n).lastValue
        queue := (t.rmu.slots.get n).queue, tallies := (t.rmu.slots.get n).tallies } := by
  obtain ⟨step, shift, slot, -⟩ := into.slot n
  have closed : s.closedSlot n = s.rmu.slots.get n := by
    rw [State.closedSlot_eq, Slot.close_of_idle _ _ idle]
  have away : (s.closedSlot n).state ≠ .usable ∧ (s.closedSlot n).state ≠ .selected ∧
      (s.closedSlot n).state ≠ .qualifying := by
    rw [closed]; rcases idle with h | h <;> rw [h] <;> decide
  have state := into.rest n away.1 away.2.1
  have count : (t.rmu.slots.get n).qualifyCount = (s.rmu.slots.get n).qualifyCount := by
    rw [slot, closed]
    exact if_neg fun h => away.2.2 (closed ▸ h.1)
  have fields : t.rmu.slots.get n =
      { s.rmu.slots.get n with
        state := (t.rmu.slots.get n).state, settings := (s.tru.config.slots.get n).settings
        lastValue := (t.rmu.slots.get n).lastValue, queue := (t.rmu.slots.get n).queue
        tallies := (t.rmu.slots.get n).tallies, qualifyCount := (t.rmu.slots.get n).qualifyCount } := by
    have here := slot
    rw [closed] at here
    generalize t.rmu.slots.get n = y at here
    rw [here]
  rw [state, closed, count] at fields
  exact fields

/-- The third fault disqualifies a slot that counts (R38). -/
theorem State.ClosesInto.of_third (into : s.ClosesInto t) {taken : Slot}
    (isTaken : (s.rmu.slots.get n).taken (s.tsg.seconds - 1) = taken) (counts : (s.rmu.slots.get n).state.counts)
    (third : 3 ≤ taken.faultCount) :
    let sl' := t.rmu.slots.get n
    sl'.state = .disqualified ∧ sl'.holdOff = 60 * 2 ^ taken.streak ∧ sl'.streak = min (taken.streak + 1) 4 ∧
      sl'.usableRun = 0 ∧ sl'.lastValue = none ∧ sl'.queue = [] ∧ sl'.tallies = [] ∧
      (s.closing.get n).disqualified = true := by
  dsimp only
  obtain ⟨step, shift, slot, -⟩ := into.slot n
  obtain ⟨closed, disq⟩ := Slot.close_of_third (s.tru.config.slots.get n).enable counts (isTaken ▸ third)
  rw [isTaken, ← State.closedSlot_eq] at closed
  have state : (s.closedSlot n).state = .disqualified := by rw [closed]; rfl
  refine ⟨?_, by rw [slot, closed]; rfl, by rw [slot, closed]; rfl, by rw [slot, closed], ?_, by rw [slot, closed]; rfl, ?_,
    by rw [State.closing_get]; exact disq⟩
  · rw [into.rest n (by rw [state]; decide) (by rw [state]; decide), state]
  · rw [slot, closed]; exact ite_self _
  · rw [slot, closed]; cases shift <;> rfl

/-- A FAULTY epoch of a slot that counts (R35 to R37). -/
theorem State.ClosesInto.of_faulty (into : s.ClosesInto t) {kinds : FaultSet} {run : Nat}
    (outcome : (s.rmu.slots.get n).outcomeOf (s.tsg.seconds - 1) = (.faulty kinds, run))
    (counts : (s.rmu.slots.get n).state.counts) :
    let sl := s.rmu.slots.get n
    let sl' := t.rmu.slots.get n
    sl'.faultCount = min 3 (sl.faultCount + 1) ∧ sl'.qualifyCount = 0 ∧ sl'.lastLabel = sl.lastLabel ∧
      sl'.emptyRun = run ∧ sl'.lastFaults = kinds := by
  dsimp only
  obtain ⟨step, shift, slot, -⟩ := into.slot n
  have taken := Slot.taken_of_faulty outcome
  have fields : (s.closedSlot n).faultCount = min 3 ((s.rmu.slots.get n).faultCount + 1) ∧
      (s.closedSlot n).qualifyCount = 0 ∧ (s.closedSlot n).lastLabel = (s.rmu.slots.get n).lastLabel ∧
      (s.closedSlot n).emptyRun = run ∧ (s.closedSlot n).lastFaults = kinds := by
    by_cases third : 3 ≤ ((s.rmu.slots.get n).taken (s.tsg.seconds - 1)).faultCount
    · rw [State.closedSlot_eq, (Slot.close_of_third _ counts third).1, taken]
      exact ⟨rfl, rfl, rfl, rfl, rfl⟩
    · rw [State.closedSlot_eq, (Slot.close_of_few _ counts (Nat.not_le.mp third)).1, taken]
      unfold Slot.runOn
      split <;> exact ⟨rfl, rfl, rfl, rfl, rfl⟩
  obtain ⟨faultCount, qualifyCount, lastLabel, emptyRun, lastFaults⟩ := fields
  rw [slot]
  dsimp only
  rw [qualifyCount]
  exact ⟨faultCount, adopted_zero _ _, lastLabel, emptyRun, lastFaults⟩

/-- The streak of a slot whose halt ends: risen where the epoch is its third fault (R38, R41). -/
theorem State.ClosesInto.of_halting (into : s.ClosesInto t) (halting : (s.rmu.slots.get n).state = .halting)
    {taken : Slot} (isTaken : (s.rmu.slots.get n).taken (s.tsg.seconds - 1) = taken)
    (state : taken.state = (s.rmu.slots.get n).state) (streak : taken.streak = (s.rmu.slots.get n).streak) :
    (3 ≤ taken.faultCount →
      (t.rmu.slots.get n).streak = min ((s.rmu.slots.get n).streak + 1) 4 ∧ (s.closing.get n).disqualified = true) ∧
      (taken.faultCount < 3 → (t.rmu.slots.get n).streak = (s.rmu.slots.get n).streak) := by
  obtain ⟨step, shift, slot, -⟩ := into.slot n
  obtain ⟨closed, -, -, disq⟩ := Slot.close_of_halting (s.tru.config.slots.get n).enable (s.tsg.seconds - 1) halting
  rw [isTaken] at disq
  rw [Slot.ran, isTaken, ← State.closedSlot_eq] at closed
  have isStreak : (t.rmu.slots.get n).streak = (s.closedSlot n).streak := by rw [slot]
  rw [isStreak, closed]
  refine ⟨fun third => ⟨?_, by rw [State.closing_get, disq]; exact decide_eq_true third⟩, fun few => ?_⟩
  · rw [if_pos third, Slot.runOn_of_not_running (by rintro (h | h) <;> cases h)]
    exact congrArg (fun d => min (d + 1) 4) streak
  · rw [if_neg (Nat.not_le.mpr few), Slot.runOn_of_not_running (by rw [state, halting]; decide)]
    exact streak

/-- Counting an outcome leaves a HALTING slot HALTING, and the streak as it is. -/
theorem Slot.taken_of_halting {sl : Slot} (k : Seconds) (halting : sl.state = .halting) :
    (sl.taken k).state = sl.state ∧ (sl.taken k).streak = sl.streak := by
  have streak : (sl.taken k).streak = (sl.count (sl.outcomeOf k).1 (sl.outcomeOf k).2).streak := rfl
  refine ⟨?_, ?_⟩
  · rcases sl.taken_state k with h | h
    · exact h
    · rw [halting] at h; cases h.1
  · rw [streak]
    unfold Slot.count
    split <;> rfl

end

/-- Settles O25: the outcome by the tally and the queue, its count by whether the third fault is reached, and the slot through
the stages of the close. -/
theorem emptyAndFaultyEpochsCount : Obligations.EmptyAndFaultyEpochsCount := by
  intro s n due
  obtain ⟨t, into⟩ := epochClose_closesInto due
  refine ⟨t, into.next, ?_⟩
  dsimp only
  refine ⟨into.of_idle, fun counts empty few => ?_, fun counts faulty => ?_, fun halting => ?_⟩
  · have taken := Slot.taken_of_empty (State.outcome_of_empty empty)
    obtain ⟨step, shift, slot, -⟩ := into.slot n
    have closed := (Slot.close_of_few (s.tru.config.slots.get n).enable counts (by rw [taken]; exact few)).1
    rw [taken, ← State.closedSlot_eq] at closed
    have state : (s.closedSlot n).state = (s.rmu.slots.get n).state := by rw [closed, Slot.runOn_state]
    have stands : (s.closedSlot n).emptyRun = s.runAfterSilence n ∧
        (s.closedSlot n).faultCount = (s.rmu.slots.get n).faultCount ∧
        (s.closedSlot n).qualifyCount = (s.rmu.slots.get n).qualifyCount ∧
        (s.closedSlot n).lastFaults = (s.rmu.slots.get n).lastFaults ∧
        (s.closedSlot n).lastLabel = (s.rmu.slots.get n).lastLabel := by
      rw [closed]
      unfold Slot.runOn
      split <;> exact ⟨rfl, rfl, rfl, rfl, rfl⟩
    obtain ⟨emptyRun, faultCount, qualifyCount, lastFaults, lastLabel⟩ := stands
    refine ⟨by rw [slot]; exact emptyRun, by rw [slot]; exact faultCount, ?_, by rw [slot]; exact lastFaults,
      by rw [slot]; exact lastLabel, into.goesOn taken counts few rfl rfl rfl rfl rfl⟩
    rw [slot]
    dsimp only
    rw [state, qualifyCount]
  · obtain ⟨kinds, run, outcome, isMarked, isStale⟩ := State.outcome_of_faulty faulty
    have taken := Slot.taken_of_faulty outcome
    obtain ⟨faultCount, qualifyCount, lastLabel, emptyRun, lastFaults⟩ := into.of_faulty outcome counts
    refine ⟨faultCount, qualifyCount, lastLabel, fun marked => ?_, fun unmarked => ?_, fun few => ?_, fun two => ?_⟩
    · obtain ⟨hr, hk⟩ := isMarked marked
      exact ⟨emptyRun.trans hr, lastFaults.trans hk⟩
    · obtain ⟨hr, hk⟩ := isStale (Bool.eq_false_iff.mp unmarked)
      exact ⟨emptyRun.trans hr, lastFaults.trans hk⟩
    · exact into.goesOn taken counts (by show min 3 _ < 3; omega) rfl rfl rfl rfl rfl
    · obtain ⟨state, holdOff, streak, usableRun, lastValue, queue, tallies, disq⟩ :=
        into.of_third taken counts (by show 3 ≤ min 3 _; omega)
      obtain ⟨targetA, targetB⟩ := into.targets n disq
      exact ⟨state, holdOff, streak, usableRun, lastValue, queue, tallies, targetA, targetB, into.told n disq⟩
  · obtain ⟨state, streak⟩ := Slot.taken_of_halting (s.tsg.seconds - 1) halting
    obtain ⟨third, few⟩ := into.of_halting halting rfl state streak
    refine ⟨fun faulty two => ?_, fun h => few ?_⟩
    · obtain ⟨kinds, run, outcome, -⟩ := State.outcome_of_faulty faulty
      obtain ⟨risen, disq⟩ := third (by rw [Slot.taken_of_faulty outcome]; show 3 ≤ min 3 _; omega)
      exact ⟨risen, into.told n disq⟩
    · rcases h with good | ⟨empty, below⟩ | below
      · rw [Slot.taken_of_good (State.outcome_of_good good)]; exact Nat.zero_lt_succ _
      · rw [Slot.taken_of_empty (State.outcome_of_empty empty)]; exact below
      · exact State.taken_few below

/-- Settles O26: the GOOD outcome's count, by whether it qualifies the slot, and the slot through the stages of the close. -/
theorem goodEpochCounts : Obligations.GoodEpochCounts := by
  intro s n sl adopted due counts good
  obtain ⟨t, into⟩ := epochClose_closesInto due
  refine ⟨t, into.next, ?_⟩
  dsimp only
  have taken := Slot.taken_of_good (State.outcome_of_good good)
  have few : (sl.taken (s.tsg.seconds - 1)).faultCount < 3 := by rw [taken]; exact Nat.zero_lt_succ _
  obtain ⟨step, shift, slot, undriven⟩ := into.slot n
  have closed := (Slot.close_of_few (s.tru.config.slots.get n).enable counts few).1
  rw [← State.closedSlot_eq] at closed
  have fields : (s.closedSlot n).faultCount = 0 ∧ (s.closedSlot n).emptyRun = 0 ∧
      (s.closedSlot n).lastFaults = sl.lastFaults ∧
      (s.closedSlot n).lastLabel = (s.closingLabel n).or sl.lastLabel ∧
      (s.closedSlot n).qualifyCount = (if sl.state = .qualifying then sl.qualifyCount + 1 else sl.qualifyCount) ∧
      (s.closedSlot n).lastValue = some (median (s.closingValues n)) ∧
      (s.closedSlot n).queue = dropStamped (s.tsg.seconds - 1) sl.queue := by
    rw [closed, Slot.runOn_rest, taken]
    exact ⟨rfl, rfl, rfl, rfl, rfl, rfl, rfl⟩
  obtain ⟨faultCount, emptyRun, lastFaults, lastLabel, qualifyCount, lastValue, queue⟩ := fields
  have isState : (sl.taken (s.tsg.seconds - 1)).state =
      if sl.state = .qualifying ∧
          sl.settings.qualify ≤ (if sl.state = .qualifying then sl.qualifyCount + 1 else sl.qualifyCount) then .usable
      else sl.state := by rw [taken]
  have runs : (sl.taken (s.tsg.seconds - 1)).usableRun = sl.usableRun ∧
      (sl.taken (s.tsg.seconds - 1)).streak = sl.streak := by rw [taken]; exact ⟨rfl, rfl⟩
  have state : (s.closedSlot n).state = (sl.taken (s.tsg.seconds - 1)).state := by rw [closed, Slot.runOn_state]
  refine ⟨by rw [slot]; exact faultCount, by rw [slot]; exact emptyRun, by rw [slot]; exact lastFaults, by rw [slot],
    by rw [slot]; exact lastLabel, fun reaches => ?_, fun away => ?_, fun qualifying reaches => ?_,
    fun qualifying below => ?_, fun none => ⟨fun phase => ?_, fun lf => ?_⟩⟩
  · have running : (sl.taken (s.tsg.seconds - 1)).state = .usable ∨ (sl.taken (s.tsg.seconds - 1)).state = .selected := by
      rw [isState]
      by_cases qualifying : sl.state = .qualifying
      · rw [if_pos qualifying, if_pos ⟨qualifying, reaches.resolve_left fun away => away qualifying⟩]; exact .inl rfl
      · rw [if_neg fun h => qualifying h.1]; exact counts.resolve_left qualifying
    rw [Slot.runOn_of_running running, runs.1, runs.2] at closed
    rw [slot, closed]
    exact ⟨rfl, rfl⟩
  · have notQ : (s.closedSlot n).state ≠ .qualifying := by
      rw [state, isState, if_neg fun h => away h.1]; exact away
    rw [slot]
    dsimp only
    rw [if_neg fun h => notQ h.1, qualifyCount, if_neg away]
  · have usable : (s.closedSlot n).state = .usable := by
      rw [state, isState, if_pos qualifying, if_pos ⟨qualifying, reaches⟩]
    refine ⟨into.usable n usable, ?_⟩
    rw [slot]
    dsimp only
    rw [if_neg (fun h => absurd (usable.symm.trans h.1) (by decide)), qualifyCount, if_pos qualifying]
  · have still : (sl.taken (s.tsg.seconds - 1)).state = .qualifying := by
      rw [isState, if_pos qualifying, if_neg fun h => absurd h.2 (Nat.not_le.mpr below), qualifying]
    have stillClosed : (s.closedSlot n).state = .qualifying := state.trans still
    rw [Slot.runOn_of_not_running (by rw [still]; decide)] at closed
    refine ⟨?_, ?_, ?_, ?_⟩
    · rw [into.rest n (by rw [stillClosed]; decide) (by rw [stillClosed]; decide), stillClosed]
    · rw [slot, closed]
    · rw [slot, closed]; exact runs.2
    · rw [slot]
      dsimp only
      rw [qualifyCount, if_pos qualifying, if_congr (and_iff_right stillClosed) rfl rfl]
  · obtain ⟨rfl, rfl⟩ := undriven none
    have move : s.valueMove n Option.none = adopted.comp - sl.settings.comp := by
      rw [State.valueMove, if_neg phase]; exact Int.sub_zero _
    rw [slot]
    dsimp only
    rw [move, lastValue, queue, if_neg fun h => phase h.1]
    refine ⟨rfl, congrArg (fun f => mapEntries f _) (funext fun x => ?_)⟩
    simp [Entry.moved]
  · obtain ⟨rfl, rfl⟩ := undriven none
    have move : s.valueMove n Option.none = 0 := by rw [State.valueMove, if_pos lf]
    rw [slot]
    dsimp only
    rw [move, lastValue, queue, Option.getD_none, mapEntries_of_id Entry.moved_zero]
    refine ⟨?_, rfl⟩
    by_cases same : s.tru.config.lfNominal = s.rmu.lfNominal
    · rw [if_pos same, if_neg fun h => h.2 same]; exact Option.map_add_zero _
    · rw [if_neg same, if_pos ⟨lf, same⟩]

end Sys2Proof.Machine
end

section
/-!
PROOFS. The select and follow stages: what they leave of the SDE's record, of F_app, and of the tolerance that the drive stage
has judged (R48 to R60, R121, R124).
-/

namespace Sys2Proof.Machine

section
variable {s : State}

/-! ## E set again where it stands -/

/-- Every attached tenant has its flag by the judgement of E and the time-valid flag as they stand (R124). -/
def State.Judged (s : State) : Prop := ∀ p : Port, s.attached p = true → s.sde.tol.get p = s.toleranceOf p

/-- E set to the value it has, with every tenant judged by it, changes nothing. -/
theorem State.setE_of_judged (h : s.Judged) {x : Int} (e : s.sde.e = min x eCap) : s.setE x = s := by
  have keeps (p : Port) : ¬s.flagChanges p := fun changes => changes.2 (h p changes.1).symm
  have same : s.setE x = State.judgeAll { s with sde := { s.sde with e := s.sde.e } } := by rw [e]; rfl
  refine same.trans ?_
  show s.judgeAll = s
  rw [State.judgeAll, State.judgeTenant_of_keeps (keeps 0), State.judgeTenant_of_keeps (keeps 1),
    State.judgeTenant_of_keeps (keeps 2)]

theorem State.setE_judged (x : Int) (s : State) : (s.setE x).Judged := by
  obtain ⟨tsg, -, -, tru, -⟩ := State.setE_frame x s
  intro p inn
  have attached : s.attached p = true := by rw [← inn]; exact State.attached_congr (congrArg Tru.tenants tru.symm) p
  have e := congrArg (fun t : State => t.sde.e) (State.setE_shape x s)
  rw [State.toleranceOf_of_attached inn, State.setE_tol, if_pos attached, tsg, tru, e]

theorem State.Judged.congr {t : State} (h : s.Judged) (tru : t.tru = s.tru) (valid : t.tsg.timeValid = s.tsg.timeValid)
    (e : t.sde.e = s.sde.e) (tol : t.sde.tol = s.sde.tol) : t.Judged := by
  intro p inn
  have attached : s.attached p = true := by rw [← inn]; exact State.attached_congr (congrArg Tru.tenants tru.symm) p
  have flag := h p attached
  rw [State.toleranceOf_of_attached attached] at flag
  rw [State.toleranceOf_of_attached inn, tol, valid, e, tru, flag]

/-- From c to t, E and the tolerance flags stand, and only the clock and the selection are told of. -/
structure State.KeepsJudgement (c t : State) : Prop where
  e : t.sde.e = c.sde.e
  tol : t.sde.tol = c.sde.tol
  files : c.Files [2, 3] t

theorem State.KeepsJudgement.trans {a b c : State} (h : a.KeepsJudgement b) (h' : b.KeepsJudgement c) : a.KeepsJudgement c :=
  ⟨h'.e.trans h.e, h'.tol.trans h.tol, h.files.trans h'.files⟩

theorem State.KeepsJudgement.refl (s : State) : s.KeepsJudgement s := ⟨rfl, rfl, .refl _ _⟩

theorem State.KeepsJudgement.withSde {d : Sde} (e : d.e = s.sde.e) (tol : d.tol = s.sde.tol) :
    s.KeepsJudgement (s.withSde d) := ⟨e, tol, State.withSde_files _ _ s⟩

theorem State.enterClock_keepsJudgement (c : ClockState) (s : State) : s.KeepsJudgement (s.enterClock c) := by
  refine ⟨?_, ?_, (State.enterClock_files c s).mono (by decide)⟩
  all_goals unfold State.enterClock; split <;> rfl

theorem State.takeAnchor_keepsJudgement (f : Int) (s : State) : s.KeepsJudgement (s.takeAnchor f) :=
  ⟨rfl, rfl, State.takeAnchor_files _ _ _⟩

theorem State.orderFApp_keepsJudgement (f : Int) (s : State) : s.KeepsJudgement (s.orderFApp f) :=
  ⟨rfl, rfl, State.orderFApp_files _ _ _⟩

/-! ## The losses of the selection -/

/-- Into HOLDOVER with E where the entry sets it: E and the flags stand (R121). -/
theorem State.enterHoldover_keepsJudgement (judged : s.Judged) (e : s.sde.e = min s.entryE eCap) :
    s.KeepsJudgement s.enterHoldover := by
  rw [State.enterHoldover_eq]
  dsimp only
  obtain ⟨b, hb⟩ : ∃ b : State,
    b = (s.withSde { s.sde with decisionPending := false, bridgeRemaining := 0 }).enterClock .holdover := ⟨_, rfl⟩
  obtain ⟨tsg, -, -, tru, -⟩ := State.enterClock_frame .holdover
    (s.withSde { s.sde with decisionPending := false, bridgeRemaining := 0 })
  rw [← hb] at tsg tru ⊢
  have cleared : s.KeepsJudgement (s.withSde { s.sde with decisionPending := false, bridgeRemaining := 0 }) :=
    .withSde rfl rfl
  have entered : s.KeepsJudgement b := by
    rw [hb]; exact cleared.trans (State.enterClock_keepsJudgement .holdover _)
  have anchored := entered.trans (State.takeAnchor_keepsJudgement b.sde.fAvg b)
  have stands : (b.takeAnchor b.sde.fAvg).Judged :=
    judged.congr tru (congrArg Tsg.timeValid tsg) anchored.e anchored.tol
  split
  · exact anchored
  · rw [State.setE_of_judged stands (anchored.e.trans e)]
    exact anchored

theorem State.enterBridge_keepsJudgement (judged : s.Judged) (e : s.sde.e = min s.entryE eCap) :
    s.KeepsJudgement s.enterBridge := by
  rw [State.enterBridge_eq]
  dsimp only
  obtain ⟨b, hb⟩ : ∃ b : State,
    b = (s.withSde { s.sde with decisionPending := false, bridgeRemaining := s.tru.config.bridgeTime }).enterClock .bridge :=
    ⟨_, rfl⟩
  obtain ⟨tsg, -, -, tru, -⟩ := State.enterClock_frame .bridge
    (s.withSde { s.sde with decisionPending := false, bridgeRemaining := s.tru.config.bridgeTime })
  rw [← hb] at tsg tru ⊢
  have cleared : s.KeepsJudgement (s.withSde { s.sde with decisionPending := false, bridgeRemaining := s.tru.config.bridgeTime }) :=
    .withSde rfl rfl
  have entered : s.KeepsJudgement b := by
    rw [hb]; exact cleared.trans (State.enterClock_keepsJudgement .bridge _)
  have anchored := entered.trans
    ((State.orderFApp_keepsJudgement b.sde.fInt b).trans (State.takeAnchor_keepsJudgement b.sde.fInt _))
  have stands : ((b.orderFApp b.sde.fInt).takeAnchor b.sde.fInt).Judged :=
    judged.congr tru (congrArg Tsg.timeValid tsg :) anchored.e anchored.tol
  rw [State.setE_of_judged stands (anchored.e.trans e)]
  exact anchored

theorem State.enterBridge_sde (away : s.sde.clock ≠ .bridge) :
    s.enterBridge.sde =
      { s.sde with
        clock := .bridge, decisionPending := false, bridgeRemaining := s.tru.config.bridgeTime, assisted := false
        stepNow := s.sde.stepNow && s.sde.clock != .acquire
        stepDecisionPending := s.sde.stepDecisionPending && s.sde.clock != .acquire
        anchorCorr := s.sde.fInt, anchorBin := s.currentBin, anchorSeconds := s.tsg.seconds, hours := 0
        e := min s.entryE eCap, tol := s.enterBridge.sde.tol } := by
  have shape := State.enterBridge_eq s
  dsimp only at shape
  obtain ⟨a, ha⟩ : ∃ a : State,
    a = s.withSde { s.sde with decisionPending := false, bridgeRemaining := s.tru.config.bridgeTime } := ⟨_, rfl⟩
  have clock : a.sde.clock = s.sde.clock := by rw [ha]; rfl
  have entered := State.enterClock_of_ne (c := .bridge) (s := a) (by rw [clock]; exact away.symm)
  obtain ⟨tsg, -, ols, -⟩ := State.enterClock_frame .bridge a
  have bin : (a.enterClock .bridge).currentBin = s.currentBin := by
    rw [State.currentBin_congr (show (a.enterClock .bridge).ols = s.ols by rw [ols, ha]; rfl)]
  have seconds : (a.enterClock .bridge).tsg.seconds = s.tsg.seconds := by rw [tsg, ha]; rfl
  have sde : (a.enterClock .bridge).sde = _ := entered
  rw [← ha] at shape
  generalize a.enterClock .bridge = b at *
  have set := congrArg State.sde (State.setE_shape s.entryE ((b.orderFApp b.sde.fInt).takeAnchor b.sde.fInt))
  rw [← shape] at set
  refine set.trans ?_
  rw [State.takeAnchor_sde]
  have bin' : (b.orderFApp b.sde.fInt).currentBin = s.currentBin := bin
  have seconds' : (b.orderFApp b.sde.fInt).tsg.seconds = s.tsg.seconds := seconds
  rw [bin', seconds']
  have sde' : (b.orderFApp b.sde.fInt).sde = b.sde := rfl
  rw [sde', sde, ha]
  rfl

theorem State.enterBridge_fApp (s : State) : s.enterBridge.tsg.fApp = clampCorr s.sde.fInt := by
  rw [State.enterBridge_eq]
  dsimp only
  rw [(State.setE_frame _ _).1, (State.takeAnchor_frame _ _).1, State.orderFApp_tsg]
  dsimp only
  have fInt (x : State) : (x.enterClock .bridge).sde.fInt = x.sde.fInt := by unfold State.enterClock; split <;> rfl
  rw [fInt]
  rfl

/-! ## The follow stage -/

theorem State.enterAcquireFollowing_sde (away : s.sde.clock ≠ .acquire) :
    s.enterAcquireFollowing.sde =
      { s.sde with clock := .acquire, assisted := false, lockCount := 0, stepDecisionPending := true } := by
  have stays : (s.sde.clock != .acquire) = true := bne_iff_ne.mpr away
  have entered := State.enterClock_of_ne (c := .acquire) (s := s) away.symm
  have eq : s.enterAcquireFollowing.sde =
      { (s.enterClock .acquire).sde with lockCount := 0, stepDecisionPending := true } := rfl
  rw [eq, entered, stays, Bool.and_true, Bool.and_true]

variable {old : Option SlotId}

/-- Where the selection stands, the follow stage does nothing outside HOLDOVER. -/
theorem State.followStage_of_same (away : s.sde.clock ≠ .holdover) (same : s.sde.selected = old) : s.followStage old = s := by
  rw [State.followStage_eq]
  dsimp only
  split
  · rw [same]; cases old <;> rfl
  · exact if_pos same
  · exact if_pos same
  · exact if_pos same
  next holdover => exact absurd holdover away

/-- Where the selection moves to a slot, ACQUIRE begins again and LOCKED awaits a decision (R52, R57). -/
theorem State.followStage_of_switch (loops : s.sde.clock = .acquire ∨ s.sde.clock = .locked)
    (moved : s.sde.selected ≠ old) (selected : s.sde.selected.isSome = true) :
    s.followStage old =
      s.withSde
        { s.sde with
          lockCount := if s.sde.clock = .acquire then 0 else s.sde.lockCount
          stepDecisionPending := if s.sde.clock = .acquire then true else s.sde.stepDecisionPending
          decisionPending := if s.sde.clock = .acquire then s.sde.decisionPending else true } := by
  rw [State.followStage_eq]
  dsimp only
  rcases loops with clock | clock
  · rw [clock]; dsimp only; rw [if_neg moved, if_pos selected, if_pos rfl, if_pos rfl, if_pos rfl]
  · have ne : ¬ClockState.locked = .acquire := by decide
    rw [clock]; dsimp only; rw [if_neg moved, if_pos selected, if_neg ne, if_neg ne, if_neg ne]

/-- Where the selection is lost in ACQUIRE: HOLDOVER or FREERUN (R54, R60). -/
theorem State.followStage_of_lost_acquire (clock : s.sde.clock = .acquire) (moved : s.sde.selected ≠ old)
    (lost : s.sde.selected = none) :
    s.followStage old = if s.tsg.timeValid then s.enterHoldover else s.enterFreerun := by
  rw [State.followStage_eq]
  dsimp only
  rw [clock]
  dsimp only
  rw [if_neg moved, lost]
  rfl

/-- Where the selection is lost in LOCKED: BRIDGE, or HOLDOVER with bridge time 0 (R56). -/
theorem State.followStage_of_lost_locked (clock : s.sde.clock = .locked) (moved : s.sde.selected ≠ old)
    (lost : s.sde.selected = none) :
    s.followStage old =
      let b := s.withSde { s.sde with lockLoss := 0 }
      if 0 < s.tru.config.bridgeTime then b.enterBridge else b.enterHoldover := by
  rw [State.followStage_eq]
  dsimp only
  rw [clock]
  dsimp only
  rw [if_neg moved, lost]
  rfl

/-- Where the selection is lost with E where an entry sets it, E and the flags stand, unless time is lost too. -/
theorem State.followStage_keepsJudgement (loops : s.sde.clock = .acquire ∨ s.sde.clock = .locked)
    (h : s.sde.selected = old ∨ s.sde.selected.isSome = true ∨
      s.Judged ∧ s.sde.e = min s.entryE eCap ∧ (s.followStage old).sde.clock ≠ .freerun) :
    s.KeepsJudgement (s.followStage old) := by
  have away : s.sde.clock ≠ .holdover := by rcases loops with h | h <;> rw [h] <;> decide
  by_cases same : s.sde.selected = old
  · rw [State.followStage_of_same away same]; exact .refl s
  · by_cases selected : s.sde.selected.isSome = true
    · rw [State.followStage_of_switch loops same selected]; exact .withSde rfl rfl
    · obtain ⟨judged, e, fit⟩ := (h.resolve_left same).resolve_left selected
      have lost : s.sde.selected = none := Option.not_isSome_iff_eq_none.mp selected
      rcases loops with clock | clock
      · rw [State.followStage_of_lost_acquire clock same lost] at fit ⊢
        split
        · exact State.enterHoldover_keepsJudgement judged e
        next invalid =>
          rw [if_neg invalid] at fit
          refine absurd ?_ fit
          unfold State.enterFreerun
          rw [State.setE_shape]
          exact State.enterClock_clock .freerun s
      · rw [State.followStage_of_lost_locked clock same lost]
        dsimp only
        have zeroed : s.KeepsJudgement (s.withSde { s.sde with lockLoss := 0 }) := .withSde rfl rfl
        have judged' : (s.withSde { s.sde with lockLoss := 0 }).Judged := judged.congr rfl rfl rfl rfl
        split
        · exact zeroed.trans (State.enterBridge_keepsJudgement judged' e)
        · exact zeroed.trans (State.enterHoldover_keepsJudgement judged' e)

/-- What the follow stage writes of the SDE's record, outside HOLDOVER. -/
theorem State.followStage_sde (away : s.sde.clock ≠ .holdover) (old : Option SlotId) :
    (s.followStage old).sde =
      { s.sde with
        clock := (s.followStage old).sde.clock, lockCount := (s.followStage old).sde.lockCount
        lockLoss := (s.followStage old).sde.lockLoss, decisionPending := (s.followStage old).sde.decisionPending
        stepDecisionPending := (s.followStage old).sde.stepDecisionPending
        stepNow := (s.followStage old).sde.stepNow, bridgeRemaining := (s.followStage old).sde.bridgeRemaining
        anchorCorr := (s.followStage old).sde.anchorCorr, anchorBin := (s.followStage old).sde.anchorBin
        anchorSeconds := (s.followStage old).sde.anchorSeconds, hours := (s.followStage old).sde.hours
        assisted := (s.followStage old).sde.assisted, e := (s.followStage old).sde.e
        tol := (s.followStage old).sde.tol } := by
  rw [State.followStage_eq]
  dsimp only
  split
  next clock =>
    split
    · rw [State.enterAcquireFollowing_sde (by rw [clock]; decide)]
    · rfl
  next clock =>
    split
    · rfl
    · split
      · rfl
      · split
        · rw [State.enterHoldover_sde (by rw [clock]; decide)]
        · rw [State.enterFreerun_sde (by rw [clock]; decide)]
  next clock =>
    have clock' : (s.withSde { s.sde with lockLoss := 0 }).sde.clock = .locked := clock
    split
    · rfl
    · split
      · rfl
      · split
        · rw [State.enterBridge_sde (by rw [clock']; decide)]; rfl
        · rw [State.enterHoldover_sde (by rw [clock']; decide)]; rfl
  · split <;> rfl
  next clock => exact absurd clock away

/-- The follow stage orders F_app at most to F_int (R56, R117). -/
theorem State.followStage_fApp (old : Option SlotId) (s : State) :
    (s.followStage old).tsg.fApp = if s.sde.clock = .locked ∧ (s.followStage old).sde.clock = .bridge then
      clampCorr s.sde.fInt else s.tsg.fApp := by
  rw [State.followStage_eq]
  dsimp only
  have entering {t : State} (clock : ¬s.sde.clock = .locked) (h : t.tsg = s.tsg) :
      t.tsg.fApp = if s.sde.clock = .locked ∧ t.sde.clock = .bridge then clampCorr s.sde.fInt else s.tsg.fApp := by
    rw [if_neg fun c => clock c.1, h]
  split
  next clock =>
    refine entering (by rw [clock]; decide) ?_
    split
    · exact (State.enterAcquireFollowing_frame s).1
    · rfl
  next clock =>
    refine entering (by rw [clock]; decide) ?_
    split
    · rfl
    · split
      · rfl
      · split
        · exact (State.enterHoldover_frame s).1
        · exact (State.enterFreerun_frame s).1
  next clock =>
    have clock' : (s.withSde { s.sde with lockLoss := 0 }).sde.clock = .locked := clock
    split
    · rw [if_neg fun c => by rw [clock] at c; cases c.2]
    · split
      · exact (if_neg fun c => by rw [State.withSde_sde, clock] at c; cases c.2).symm
      · split
        · rw [State.enterBridge_fApp, if_pos ⟨clock, by rw [State.enterBridge_sde (by rw [clock']; decide)]⟩]; rfl
        · rw [(State.enterHoldover_frame _).1, if_neg fun c => by
            rw [State.enterHoldover_sde (by rw [clock']; decide)] at c; cases c.2]
          rfl
  next clock =>
    refine entering (by rw [clock]; decide) ?_
    split <;> rfl
  next clock =>
    refine entering (by rw [clock]; decide) ?_
    split
    · exact (State.enterAcquireFollowing_frame _).1
    · rfl

end

end Sys2Proof.Machine
end

section
/-!
PROOFS. The end of an epoch close: what the selection, the follow stage and the adoption leave of what the drive stage made.
-/

namespace Sys2Proof.Machine

section
variable {items : Six SlotItem} {c s : State}

/-! ## The selection -/

theorem State.reselected_of_same (h : chooseSlot items s.tru.config s.sde.selected = s.sde.selected) :
    s.reselected items = s := if_pos h

theorem State.reselected_sde (h : chooseSlot items s.tru.config s.sde.selected ≠ s.sde.selected) :
    (s.reselected items).sde =
      { s.sde with
        selected := chooseSlot items s.tru.config s.sde.selected
        lastSelected := (chooseSlot items s.tru.config s.sde.selected).or s.sde.lastSelected
        labelMismatch := 0, stepNow := false, lockCount := 0 } := by
  rw [State.reselected, if_neg h]; rfl

theorem State.reselected_clock (items : Six SlotItem) (s : State) : (s.reselected items).sde.clock = s.sde.clock := by
  unfold State.reselected; split <;> rfl

theorem State.reselected_keepsJudgement (items : Six SlotItem) (s : State) : s.KeepsJudgement (s.reselected items) := by
  refine ⟨?_, ?_, ?_⟩
  · unfold State.reselected; split <;> rfl
  · unfold State.reselected; split <;> rfl
  · unfold State.reselected
    split
    · exact .refl _ _
    · exact (State.changeSelection_files _ s).mono (by decide)

/-- The marks leave the last epoch values. -/
theorem State.reselected_lastValue (items : Six SlotItem) (s : State) (n : SlotId) :
    ((s.reselected items).rmu.slots.get n).lastValue = (s.rmu.slots.get n).lastValue := by
  unfold State.reselected
  split
  · rfl
  · rw [State.changeSelection_rmu]
    dsimp only
    rw [Six.get_mapIdx]
    unfold markSelection
    split
    · rfl
    · split <;> rfl

theorem State.reselected_rest (items : Six SlotItem) (s : State) :
    (s.reselected items).sde =
      { s.sde with
        selected := (s.reselected items).sde.selected, lastSelected := (s.reselected items).sde.lastSelected
        labelMismatch := (s.reselected items).sde.labelMismatch, stepNow := (s.reselected items).sde.stepNow
        lockCount := (s.reselected items).sde.lockCount } := by
  unfold State.reselected; split <;> rfl

/-- E at an entry, after a selection that finds no slot, is read as before it (R121). -/
theorem State.reselected_entryE (lost : chooseSlot items s.tru.config s.sde.selected = none) :
    (s.reselected items).entryE = s.entryE := by
  have last : (s.reselected items).sde.lastSelected = s.sde.lastSelected := by
    by_cases same : chooseSlot items s.tru.config s.sde.selected = s.sde.selected
    · rw [State.reselected_of_same same]
    · rw [State.reselected_sde same, lost]; rfl
  unfold State.entryE
  rw [last, (State.reselected_frame items s).2.2]
  simp only [State.reselected_lastValue]

/-! ## The whole end of the close -/

/-- The slot that the close of the summary selects. -/
abbrev State.choice (items : Six SlotItem) (c : State) : Option SlotId := chooseSlot items c.tru.config c.sde.selected

/-- The part with the LF restart noted and the selection made, before the clock follows. -/
def State.chosen (items : Six SlotItem) (c : State) : State := (c.noteLfHalt (items.get lfSlot)).reselected items

theorem State.noteLfHalt_choice (items : Six SlotItem) (c : State) :
    chooseSlot items (c.noteLfHalt (items.get lfSlot)).tru.config (c.noteLfHalt (items.get lfSlot)).sde.selected =
      c.choice items := by
  rw [(State.noteLfHalt_frame _ c).2.2.2.1, State.noteLfHalt_selected]

theorem State.closedOn_eq (items : Six SlotItem) (c : State) :
    (c.closedOn items).sde = ((c.chosen items).followStage c.sde.selected).sde ∧
      (c.closedOn items).tsg = ((c.chosen items).followStage c.sde.selected).tsg ∧
      (c.closedOn items).nu = ((c.chosen items).followStage c.sde.selected).nu := by
  unfold State.closedOn
  rw [State.selectAndFollow_reselected, State.noteLfHalt_selected]
  exact ⟨rfl, rfl, rfl⟩

theorem State.chosen_selected (items : Six SlotItem) (c : State) : (c.chosen items).sde.selected = c.choice items := by
  unfold State.chosen
  rw [State.reselected_selected, State.noteLfHalt_choice]

theorem State.chosen_clock (items : Six SlotItem) (c : State) : (c.chosen items).sde.clock = c.sde.clock := by
  unfold State.chosen
  rw [State.reselected_clock, State.noteLfHalt_eq]
  rfl

theorem State.chosen_frame (items : Six SlotItem) (c : State) :
    (c.chosen items).tsg = c.tsg ∧ (c.chosen items).ols = c.ols ∧ (c.chosen items).tru = c.tru := by
  obtain ⟨tsg, ols, tru⟩ := State.reselected_frame items (c.noteLfHalt (items.get lfSlot))
  obtain ⟨tsg', -, ols', tru', -⟩ := State.noteLfHalt_frame (items.get lfSlot) c
  exact ⟨tsg.trans tsg', ols.trans ols', tru.trans tru'⟩

/-- The LF restart after a summary (R84). -/
def restartAfter (lf : SlotItem) (b : Bool) : Bool := b || decide (lf.state = .off ∨ lf.haltEnded = true)

theorem State.chosen_sde (items : Six SlotItem) (c : State) :
    (c.chosen items).sde =
      { c.sde with
        selected := (c.chosen items).sde.selected, lastSelected := (c.chosen items).sde.lastSelected
        labelMismatch := (c.chosen items).sde.labelMismatch, stepNow := (c.chosen items).sde.stepNow
        lockCount := (c.chosen items).sde.lockCount
        lfRestart := restartAfter (items.get lfSlot) c.sde.lfRestart } := by
  have rest := State.reselected_rest items (c.noteLfHalt (items.get lfSlot))
  unfold State.chosen
  refine rest.trans ?_
  rw [State.noteLfHalt_eq]
  rfl

theorem State.chosen_of_same (h : c.choice items = c.sde.selected) :
    c.chosen items = c.noteLfHalt (items.get lfSlot) := by
  refine State.reselected_of_same ?_
  rw [State.noteLfHalt_choice, State.noteLfHalt_selected, h]

/-- Where the selection moves (R51). -/
theorem State.chosen_of_moved (h : c.choice items ≠ c.sde.selected) :
    (c.chosen items).sde =
      { c.sde with
        selected := c.choice items, lastSelected := (c.choice items).or c.sde.lastSelected
        labelMismatch := 0, stepNow := false, lockCount := 0
        lfRestart := restartAfter (items.get lfSlot) c.sde.lfRestart } := by
  have moved := State.reselected_sde (items := items) (s := c.noteLfHalt (items.get lfSlot))
    (by rw [State.noteLfHalt_choice, State.noteLfHalt_selected]; exact h)
  rw [State.noteLfHalt_choice] at moved
  unfold State.chosen
  refine moved.trans ?_
  rw [State.noteLfHalt_eq]
  rfl

theorem State.chosen_keepsJudgement (items : Six SlotItem) (c : State) : c.KeepsJudgement (c.chosen items) := by
  refine State.KeepsJudgement.trans ?_ (State.reselected_keepsJudgement items (c.noteLfHalt (items.get lfSlot)))
  rw [State.noteLfHalt_eq]
  exact .withSde rfl rfl

theorem State.chosen_entryE (lost : c.choice items = none) : (c.chosen items).entryE = c.entryE := by
  unfold State.chosen
  rw [State.reselected_entryE ((State.noteLfHalt_choice items c).trans lost), State.noteLfHalt_eq]
  rfl

/-- What the end of the close leaves of the SDE's record, where the clock is not HOLDOVER. -/
theorem State.closedOn_sde (away : c.sde.clock ≠ .holdover) (items : Six SlotItem) :
    (c.closedOn items).sde.fInt = c.sde.fInt ∧ (c.closedOn items).sde.residual = c.sde.residual ∧
      (c.closedOn items).sde.fAvg = c.sde.fAvg ∧ (c.closedOn items).sde.fAvgBin = c.sde.fAvgBin ∧
      (c.closedOn items).sde.bias = c.sde.bias ∧ (c.closedOn items).sde.wander = c.sde.wander ∧
      (c.closedOn items).sde.lfCount = c.sde.lfCount ∧ (c.closedOn items).sde.lfBasis = c.sde.lfBasis ∧
      (c.closedOn items).sde.lfRestart = restartAfter (items.get lfSlot) c.sde.lfRestart ∧
      (c.closedOn items).sde.lockedSinceStart = c.sde.lockedSinceStart ∧
      (c.closedOn items).sde.labelMismatch = (c.chosen items).sde.labelMismatch ∧
      (c.closedOn items).sde.lastSelected = (c.chosen items).sde.lastSelected := by
  have followed := State.followStage_sde (s := c.chosen items) (by rw [State.chosen_clock]; exact away) c.sde.selected
  have chosen := State.chosen_sde items c
  rw [(State.closedOn_eq items c).1]
  generalize (c.chosen items).followStage c.sde.selected = t at followed
  generalize c.chosen items = r at followed chosen
  rw [followed]
  dsimp only
  rw [chosen]
  exact ⟨rfl, rfl, rfl, rfl, rfl, rfl, rfl, rfl, rfl, rfl, rfl, rfl⟩

/-- Where the selection stands, the end of the close notes the LF restart alone, outside HOLDOVER. -/
theorem State.closedOn_of_same (away : c.sde.clock ≠ .holdover) (same : c.choice items = c.sde.selected) :
    (c.closedOn items).sde = { c.sde with lfRestart := restartAfter (items.get lfSlot) c.sde.lfRestart } ∧
      (c.closedOn items).tsg = c.tsg ∧ (c.closedOn items).nu = c.nu := by
  obtain ⟨sde, tsg, nu⟩ := State.closedOn_eq items c
  have clock : (c.chosen items).sde.clock ≠ .holdover := by rw [State.chosen_clock]; exact away
  rw [State.followStage_of_same clock ((State.chosen_selected items c).trans same), State.chosen_of_same same,
    State.noteLfHalt_eq] at sde tsg nu
  exact ⟨sde, tsg, nu⟩

/-- The end of the close keeps E and the flags where the selection is not lost, or is lost where E stands as the entry sets it. -/
theorem State.closedOn_keepsJudgement (loops : c.sde.clock = .acquire ∨ c.sde.clock = .locked)
    (h : (c.closedOn items).sde.selected ≠ none ∨
      c.Judged ∧ c.sde.e = min c.entryE eCap ∧ (c.closedOn items).sde.clock ≠ .freerun) :
    c.KeepsJudgement (c.closedOn items) := by
  obtain ⟨sde, tsg, nu⟩ := State.closedOn_eq items c
  have first := State.chosen_keepsJudgement items c
  have followed : (c.chosen items).KeepsJudgement ((c.chosen items).followStage c.sde.selected) := by
    refine State.followStage_keepsJudgement (by rw [State.chosen_clock]; exact loops) ?_
    rw [State.closedOn_selected] at h
    rw [State.chosen_selected]
    rcases h with kept | ⟨judged, e, fit⟩
    · exact .inr (.inl (Option.isSome_iff_ne_none.mpr kept))
    · by_cases lost : c.choice items = none
      · refine .inr (.inr ⟨judged.congr (State.chosen_frame items c).2.2 ?_ first.e first.tol, ?_, ?_⟩)
        · rw [(State.chosen_frame items c).1]
        · rw [first.e, State.chosen_entryE lost, e]
        · rw [← sde]; exact fit
      · exact .inr (.inl (Option.isSome_iff_ne_none.mpr lost))
  have both := first.trans followed
  exact ⟨by rw [sde]; exact both.e, by rw [sde]; exact both.tol, fun p => by rw [nu]; exact both.files p⟩

/-- Where the selection is not lost, a clock that runs the loop stands, and its lock-loss count (R52, R57). -/
theorem State.closedOn_of_kept (loops : c.sde.clock = .acquire ∨ c.sde.clock = .locked)
    (kept : (c.closedOn items).sde.selected ≠ none) :
    (c.closedOn items).sde.clock = c.sde.clock ∧ (c.closedOn items).sde.lockLoss = c.sde.lockLoss ∧
      (c.closedOn items).tsg = c.tsg := by
  have away : c.sde.clock ≠ .holdover := by rcases loops with h | h <;> rw [h] <;> decide
  by_cases same : c.choice items = c.sde.selected
  · obtain ⟨sde, tsg, -⟩ := State.closedOn_of_same away same
    exact ⟨by rw [sde], by rw [sde], tsg⟩
  · obtain ⟨sde, tsg, -⟩ := State.closedOn_eq items c
    rw [State.closedOn_selected] at kept
    have switched := State.followStage_of_switch (s := c.chosen items) (old := c.sde.selected)
      (by rw [State.chosen_clock]; exact loops) (by rw [State.chosen_selected]; exact same)
      (by rw [State.chosen_selected]; exact Option.isSome_iff_ne_none.mpr kept)
    rw [sde, tsg, switched]
    refine ⟨State.chosen_clock items c, ?_, (State.chosen_frame items c).1⟩
    show (c.chosen items).sde.lockLoss = _
    rw [State.chosen_sde]

theorem State.closedOn_fApp (items : Six SlotItem) (c : State) :
    (c.closedOn items).tsg.fApp =
      if c.sde.clock = .locked ∧ (c.closedOn items).sde.clock = .bridge then clampCorr c.sde.fInt else c.tsg.fApp := by
  obtain ⟨sde, tsg, -⟩ := State.closedOn_eq items c
  have fInt : (c.chosen items).sde.fInt = c.sde.fInt := by rw [State.chosen_sde]
  rw [sde, tsg, State.followStage_fApp, State.chosen_clock, (State.chosen_frame items c).1, fInt]

end

end Sys2Proof.Machine
end

section
/-!
PROOFS. The hold update of a driving slot whose epoch is EMPTY or FAULTY (O27).
-/

namespace Sys2Proof.Machine

section
variable {s b : State} {n : SlotId}

/-! ## What the driving slot's close shows -/

theorem State.drivenBy_due (h : s.drivenBy n) : s.closeDue = true := h.1

theorem State.drivenBy_selected (h : s.drivenBy n) : s.sde.selected = some n := h.2.1

theorem State.drivenBy_open (h : s.drivenBy n) :
    ¬((s.rmu.slots.get n).state = .off ∨ (s.rmu.slots.get n).state = .disqualified) := by
  rcases h.2.2 with h | h <;> rw [h] <;> decide

theorem State.summary_outcome (opened : ¬((s.rmu.slots.get n).state = .off ∨ (s.rmu.slots.get n).state = .disqualified)) :
    (s.summary.get n).outcome = ((s.rmu.slots.get n).outcomeOf (s.tsg.seconds - 1)).1 := by
  rw [State.summary_get, State.closing_get, Slot.close_of_open _ _ opened]

theorem State.not_faulty_of_empty (h : s.closesEmpty n) : ¬s.closesFaulty n := by
  rintro (marked | ⟨-, stale⟩)
  · exact h.1 marked
  · exact absurd h.2.2 (Nat.not_le.mpr stale)

/-- The last epoch value of a driving slot whose epoch is EMPTY or FAULTY, as its close leaves it: gone where it loses the
selection (R38, R41). -/
theorem State.closedSlot_lastValue (driven : s.drivenBy n) (h : s.closesEmpty n ∨ s.closesFaulty n)
    (range : (s.rmu.slots.get n).faultCount < 3) :
    (s.closedSlot n).lastValue = if s.losesAt n then none else (s.rmu.slots.get n).lastValue := by
  rw [State.closedSlot_eq]
  rcases driven.2.2 with selected | halting
  · have counts : (s.rmu.slots.get n).state.counts := .inr (.inr selected)
    have notHalting : (s.rmu.slots.get n).state ≠ .halting := by rw [selected]; decide
    rcases h with empty | faulty
    · have taken := Slot.taken_of_empty (State.outcome_of_empty empty)
      have stays : ¬s.losesAt n := fun l => (l.resolve_left notHalting).1.elim
        (fun marked => empty.1 marked) fun stale => absurd empty.2.2 (Nat.not_le.mpr stale.2)
      rw [(Slot.close_of_few _ counts (by rw [taken]; exact range)).1, if_neg stays, Slot.runOn_rest, taken]
    · obtain ⟨kinds, run, outcome, -⟩ := State.outcome_of_faulty faulty
      have taken := Slot.taken_of_faulty outcome
      by_cases two : (s.rmu.slots.get n).faultCount = 2
      · rw [(Slot.close_of_third _ counts (by rw [taken]; show 3 ≤ min 3 _; omega)).1, if_pos (.inr ⟨faulty, two⟩)]
        rfl
      · have stays : ¬s.losesAt n := fun l => two (l.resolve_left notHalting).2
        rw [(Slot.close_of_few _ counts (by rw [taken]; show min 3 _ < 3; omega)).1, if_neg stays, Slot.runOn_rest, taken]
  · rw [(Slot.close_of_halting _ _ halting).1, if_pos (.inl halting)]
    rfl

/-- A slot that loses the selection is neither USABLE nor SELECTED after its close. -/
theorem State.closedSlot_of_loses (driven : s.drivenBy n) (h : s.losesAt n) :
    (s.closedSlot n).state ≠ .usable ∧ (s.closedSlot n).state ≠ .selected := by
  rw [State.closedSlot_eq]
  by_cases halting : (s.rmu.slots.get n).state = .halting
  · rw [(Slot.close_of_halting _ _ halting).1]
    show (if _ then SlotState.qualifying else .off) ≠ _ ∧ (if _ then SlotState.qualifying else .off) ≠ _
    split <;> decide
  · obtain ⟨faulty, two⟩ := h.resolve_left halting
    have counts : (s.rmu.slots.get n).state.counts := .inr (.inr (driven.2.2.resolve_right halting))
    obtain ⟨kinds, run, outcome, -⟩ := State.outcome_of_faulty faulty
    rw [(Slot.close_of_third _ counts (by rw [Slot.taken_of_faulty outcome]; show 3 ≤ min 3 _; omega)).1]
    exact ⟨(by cases ·), (by cases ·)⟩

/-! ## The LF item -/

/-- LF shows OFF, or its halt ends, where it was OFF or HALTING (R41, R84). -/
theorem restartAfter_summary (s : State) (on : Bool) :
    restartAfter (s.summary.get lfSlot) on =
      (on || decide ((s.rmu.slots.get 2).state = .off ∨ (s.rmu.slots.get 2).state = .halting)) := by
  have lf : s.summary.get lfSlot = (s.closing.get 2).item := State.summary_get s 2
  unfold restartAfter
  rw [lf, State.closing_get]
  refine congrArg (on || ·) (decide_eq_decide.mpr ?_)
  rw [Slot.close_item_state]
  by_cases halting : (s.rmu.slots.get 2).state = .halting
  · have ended : ((s.rmu.slots.get 2).close (s.tru.config.slots.get 2).enable (s.tsg.seconds - 1)).item.haltEnded = true := by
      rw [Slot.close_of_open _ _ (by rw [halting]; decide)]; exact decide_eq_true halting
    exact iff_of_true (.inr ended) (.inr halting)
  · have running : ((s.rmu.slots.get 2).close (s.tru.config.slots.get 2).enable (s.tsg.seconds - 1)).item.haltEnded = false := by
      by_cases idle : (s.rmu.slots.get 2).state = .off ∨ (s.rmu.slots.get 2).state = .disqualified
      · rw [Slot.close_of_idle _ _ idle]
      · rw [Slot.close_of_open _ _ idle]; exact decide_eq_false halting
    rw [running, Slot.close_state]
    by_cases off : (s.rmu.slots.get 2).state = .off
    · exact iff_of_true (.inl (by rw [if_pos (.inl off), off])) (.inl off)
    · refine iff_of_false (fun h => ?_) fun h => h.elim off halting
      have closedOff := h.resolve_right (by decide)
      split_ifs at closedOff with idle third
      · exact off closedOff
      · rcases (s.rmu.slots.get 2).taken_state (s.tsg.seconds - 1) with same | ⟨-, usable⟩
        · exact off (same.symm.trans closedOff)
        · rw [usable] at closedOff; cases closedOff

/-! ## The hold update -/

/-- An EMPTY or FAULTY epoch of the driving slot drives a hold update, on the lock count that it leaves (R53, R77). -/
theorem State.driveStage_of_hold (closed : s.SlotsClosed b) (driven : s.drivenBy n)
    (loops : s.sde.clock = .acquire ∨ s.sde.clock = .locked) (h : s.closesEmpty n ∨ s.closesFaulty n) :
    ∃ a : State,
      a = b.withSde { s.sde with lockCount := if s.sde.clock = .acquire ∧ s.closesFaulty n then 0 else s.sde.lockCount } ∧
      b.driveStage (s.tsg.seconds - 1) s.summary = a.holdUpdate n := by
  have loopsB : b.sde.clock = .acquire ∨ b.sde.clock = .locked := by rw [closed.sde]; exact loops
  have selected : b.sde.selected = some n := by rw [closed.sde]; exact State.drivenBy_selected driven
  have outcome := State.summary_outcome (State.drivenBy_open driven)
  refine ⟨_, rfl, ?_⟩
  rcases h with empty | faulty
  · rw [State.outcome_of_empty empty] at outcome
    rw [State.driveStage_of_empty loopsB selected outcome, if_neg fun both => State.not_faulty_of_empty empty both.2]
    exact congrArg (State.holdUpdate n) (show b = b.withSde s.sde by rw [← closed.sde]; rfl)
  · obtain ⟨kinds, run, isFaulty, -⟩ := State.outcome_of_faulty faulty
    rw [isFaulty] at outcome
    rw [State.driveStage_of_faulty loopsB selected outcome, State.faultyEpoch_eq, closed.sde]
    by_cases acquire : s.sde.clock = .acquire
    · rw [if_pos acquire, if_pos ⟨acquire, faulty⟩]
    · rw [if_neg acquire, if_neg fun both => acquire both.1]
      exact congrArg (State.holdUpdate n) (show b = b.withSde s.sde by rw [← closed.sde]; rfl)

theorem State.holdUpdate_eq (n : SlotId) (a : State) :
    a.holdUpdate n =
      (a.orderFApp a.sde.fInt).setE (a.tru.config.eFloor + ((a.rmu.slots.get n).lastValue.map mag).getD 0) := rfl

theorem State.holdUpdate_sde (n : SlotId) (a : State) :
    (a.holdUpdate n).sde =
      { a.sde with
        e := min (a.tru.config.eFloor + ((a.rmu.slots.get n).lastValue.map mag).getD 0) eCap
        tol := (a.holdUpdate n).sde.tol } := by
  have shape := congrArg State.sde (State.setE_shape
    (a.tru.config.eFloor + ((a.rmu.slots.get n).lastValue.map mag).getD 0) (a.orderFApp a.sde.fInt))
  rw [← State.holdUpdate_eq] at shape
  exact shape

end

/-- Settles O27: the hold update on the closed slots, and its E and its judgement kept through the end of the close. -/
theorem emptyAndFaultyEpochsHold : Obligations.EmptyAndFaultyEpochsHold := by
  intro s n driven loops outcome range
  obtain ⟨b, closed, next⟩ := epochClose_stages (State.drivenBy_due driven)
  obtain ⟨a, ha, held⟩ := State.driveStage_of_hold closed driven loops outcome
  obtain ⟨c, hc⟩ : ∃ c : State, c = a.holdUpdate n := ⟨_, rfl⟩
  rw [held, ← hc] at next
  have asde : a.sde =
      { s.sde with lockCount := if s.sde.clock = .acquire ∧ s.closesFaulty n then 0 else s.sde.lockCount } := by
    rw [ha]; rfl
  have atru : a.tru = s.tru := by rw [ha]; exact closed.tru
  have armu : a.rmu = b.rmu := by rw [ha]; rfl
  have atsg : a.tsg = b.tsg := by rw [ha]; rfl
  have anu : a.nu = b.nu := by rw [ha]; rfl
  have last : ((a.rmu.slots.get n).lastValue.map mag).getD 0 =
      if s.losesAt n then 0 else ((s.rmu.slots.get n).lastValue.map mag).getD 0 := by
    rw [armu, closed.slot, State.closedSlot_lastValue driven outcome range]
    split <;> rfl
  have ctsg := State.holdUpdate_tsg n a
  have csde := State.holdUpdate_sde n a
  have judged : c.Judged := by rw [hc, State.holdUpdate_eq]; exact State.setE_judged _ _
  obtain ⟨crmu, cols, ctru, -⟩ := State.holdUpdate_frame n a
  rw [← hc] at ctsg csde crmu cols ctru
  rw [atru, last] at csde
  rw [atsg] at ctsg
  have fInt : a.sde.fInt = s.sde.fInt := by rw [asde]
  rw [fInt] at ctsg
  have clock : c.sde.clock = s.sde.clock := by rw [csde, asde]
  have loopsC : c.sde.clock = .acquire ∨ c.sde.clock = .locked := by rw [clock]; exact loops
  have away : c.sde.clock ≠ .holdover := by rcases loopsC with h | h <;> rw [h] <;> decide
  have tru : c.tru = s.tru := ctru.trans atru
  have moves : b.Moves none none c := State.Moves.still (by rw [ctsg]) (crmu.trans armu)
  have selected : c.sde.selected = some n := by rw [csde, asde]; exact State.drivenBy_selected driven
  have moved := State.heldMoved_of_moves closed moves tru
  obtain ⟨lastClosed, -, -, lfVoid, -⟩ := State.closedOn_rest closed moves tru
  obtain ⟨f1, f2, f3, f4, f5, f6, f7, f8, f9, -⟩ := State.closedOn_sde away s.summary
  obtain ⟨tsg, ols, tru', -⟩ := State.closedOn_frame s.summary c
  have fApp := State.closedOn_fApp s.summary c
  have keeps := State.closedOn_keepsJudgement (items := s.summary) loopsC
  have kept := State.closedOn_of_kept (items := s.summary) loopsC
  have same := State.closedOn_of_same (items := s.summary) away
  have chosen := State.closedOn_selected s.summary c
  obtain ⟨t, ht⟩ : ∃ t : State, t = c.closedOn s.summary := ⟨_, rfl⟩
  have isNext : exec .epochClose s = .next t := by rw [ht]; exact next
  rw [← ht] at moved lastClosed lfVoid f1 f2 f3 f4 f5 f6 f7 f8 f9 tsg ols tru' fApp keeps kept same chosen
  have tsg' : t.tsg = { s.tsg with phase := b.tsg.phase, frac := b.tsg.frac, fApp := t.tsg.fApp } := by
    rw [tsg, ctsg, closed.tsg]
  have whole : c.sde =
      { s.sde with
        lockCount := if s.sde.clock = .acquire ∧ s.closesFaulty n then 0 else s.sde.lockCount
        e := c.sde.e, tol := c.sde.tol } := by rw [csde, asde]
  have isE : c.sde.e =
      min (s.tru.config.eFloor + if s.losesAt n then 0 else ((s.rmu.slots.get n).lastValue.map mag).getD 0) eCap := by
    rw [csde]
  refine ⟨t, isNext, ?_⟩
  dsimp only
  refine ⟨?_, by rw [f1, whole], by rw [f2, whole], by rw [f3, whole], by rw [f4, whole], by rw [f5, whole],
    by rw [f6, whole], by rw [f7, whole], by rw [f8, whole], ?_, by rw [tsg'], by rw [tsg'], by rw [tsg'], ?_, ?_, moved,
    fun stands => ?_, fun loses is => ?_, fun on => ?_, fun is => ?_, ?_⟩
  · rw [fApp, ctsg]
    have cfInt : c.sde.fInt = s.sde.fInt := by rw [whole]
    rw [cfInt]
    exact ite_self _
  · rw [ols, cols, ha]; exact closed.ols
  · rw [lastClosed]; exact add_zero _
  · rw [lfVoid]; simp
  · have judgement : c.KeepsJudgement t := by
      refine keeps (stands.imp_right fun ⟨lastSelected, fit⟩ => ⟨judged, ?_, fit⟩)
      have lastC : c.sde.lastSelected = some n := by rw [whole]; exact lastSelected
      have entry : c.entryE = a.tru.config.eFloor + ((a.rmu.slots.get n).lastValue.map mag).getD 0 := by
        unfold State.entryE
        rw [lastC, ctru, crmu]
        rfl
      rw [entry, last, atru, isE]
    refine ⟨judgement.e.trans isE, ?_⟩
    have isHeld : c = (a.orderFApp a.sde.fInt).setE
        (a.tru.config.eFloor + ((a.rmu.slots.get n).lastValue.map mag).getD 0) := by rw [hc]; rfl
    refine State.judgedIn_of_setE (fits₀ := fun _ => False) (b := a.orderFApp a.sde.fInt)
      (x := a.tru.config.eFloor + ((a.rmu.slots.get n).lastValue.map mag).getD 0)
      (congrArg Tru.tenants atru) (congrArg Tru.tenants (tru'.trans tru)) ?_ ?_ ?_ (fun p => ?_) (fun p => ?_)
      fun p r kind => ?_
    · rw [tsg, ctsg]
      exact (congrArg Tsg.timeValid atsg).symm
    · rw [judgement.e, isE, atru, last]
    · rw [judgement.tol, ← isHeld]
    · show a.sde.tol.get p = _
      rw [asde]
    · show TenantNotices.Retains _ _ (a.nu.get p)
      rw [anu]
      exact (closed.files p).before
    · rw [← isHeld]
      exact (judgement.files p).keeps (by simp; omega)
  · rw [chosen] at is
    obtain ⟨notUsable, notSelected⟩ := State.closedSlot_of_loses driven loses
    rcases chooseSlot_eq_some is with candidate | ⟨-, isSelected⟩
    · exact notUsable (((s.summary_state n).symm.trans ((isCandidate_iff _ _).mp candidate).2.1))
    · exact notSelected ((s.summary_state n).symm.trans isSelected)
  · obtain ⟨isClock, isLoss, -⟩ := kept on
    exact ⟨isClock.trans clock, by rw [isLoss, whole]⟩
  · have sameChoice : c.choice s.summary = c.sde.selected := by rw [selected, ← is, chosen]
    obtain ⟨sde, -⟩ := same sameChoice
    rw [sde]
    dsimp only
    rw [whole]
  · rw [f9, restartAfter_summary, whole]

end Sys2Proof.Machine
end

section
/-!
PROOFS. What a GOOD epoch tells and judges, and the values of its full update (R53 to R67, R71 to R84, R92).
-/

namespace Sys2Proof.Machine

section
variable {s b : State} {p : Port}

/-! ## Tolerance and notices over a GOOD epoch -/

/-- From s to t the tolerance flags and E stand, and only the clock and a phase step are told of. -/
structure State.Quiet (s t : State) : Prop where
  e : t.sde.e = s.sde.e
  tol : t.sde.tol = s.sde.tol
  tru : t.tru = s.tru
  files : s.Files [2, 6] t

theorem State.Quiet.trans {a b c : State} (h : a.Quiet b) (h' : b.Quiet c) : a.Quiet c :=
  ⟨h'.e.trans h.e, h'.tol.trans h.tol, h'.tru.trans h.tru, h.files.trans h'.files⟩

theorem State.withSde_quiet {d : Sde} (e : d.e = s.sde.e) (tol : d.tol = s.sde.tol) : s.Quiet (s.withSde d) :=
  ⟨e, tol, rfl, State.withSde_files _ _ s⟩

theorem State.stepDecision_quiet (e : Int) (s : State) : s.Quiet (s.stepDecision e).1 :=
  ⟨by rw [State.stepDecision_sde], by rw [State.stepDecision_sde], (State.stepDecision_frame e s).2.2.2.1,
    (State.stepDecision_files e s).mono (by decide)⟩

theorem State.enterClock_quiet (c : ClockState) (s : State) : s.Quiet (s.enterClock c) :=
  ⟨(State.enterClock_keepsJudgement c s).e, (State.enterClock_keepsJudgement c s).tol, (State.enterClock_frame c s).2.2.2.1,
    (State.enterClock_files c s).mono (by decide)⟩

theorem State.acquiring_quiet (s : State) : s.Quiet s.acquiring := by
  have cleared : s.Quiet (s.withSde { s.sde with decisionPending := false, bridgeRemaining := 0 }) :=
    State.withSde_quiet rfl rfl
  unfold State.acquiring
  dsimp only
  exact (cleared.trans (State.enterClock_quiet .acquire _)).trans (State.withSde_quiet rfl rfl)

theorem State.enterAcquireDeciding_quiet (e : Int) (s : State) : s.Quiet (s.enterAcquireDeciding e).1 := by
  rw [State.enterAcquireDeciding_eq]
  exact s.acquiring_quiet.trans (State.stepDecision_quiet e _)

/-- Into LOCKED: quiet to m, with time valid, and there every tenant is judged (R14, R53, R59). -/
theorem State.enterLocked_judges (s : State) :
    ∃ m : State, s.enterLocked = m.judgeAll ∧ s.Quiet m ∧ m.tsg.timeValid = true := by
  refine ⟨s.validated.enterClock .locked, rfl, ?_, by rw [(State.enterClock_frame _ _).1]; rfl⟩
  have valid : s.Quiet s.validated := ⟨rfl, rfl, rfl, .of_nu rfl⟩
  exact valid.trans (State.enterClock_quiet .locked _)

/-- A GOOD epoch is quiet where it does not take the clock to LOCKED, and there it judges. -/
theorem State.goodEpoch_judges (drives : s.drives) (e : Int) :
    (¬s.locksAt e → s.Quiet (s.goodEpoch e).1) ∧
      (s.locksAt e → ∃ m : State, (s.goodEpoch e).1 = m.judgeAll ∧ s.Quiet m ∧ m.tsg.timeValid = true) := by
  have either : (s.Quiet (s.goodEpoch e).1 ∧ ¬s.locksAt e) ∨
      ∃ m : State, (s.goodEpoch e).1 = m.judgeAll ∧ s.Quiet m ∧ m.tsg.timeValid = true ∧ s.locksAt e := by
    unfold State.goodEpoch
    rcases drives with clock | clock | clock
    · have orders := State.ordersStep_of_acquire clock e
      have flag := State.stepDecision_snd e s
      have decided := State.stepDecision_sde e s
      have quiet := State.stepDecision_quiet e s
      rw [clock]
      dsimp only
      rw [State.goodAcquire_eq]
      dsimp only
      rw [orders] at flag decided
      have noLock : (s.sde.clock = .acquire ∧ 15 ≤ s.sde.lockCount ∧ ¬s.stepsAt e ∨ s.sde.clock = .bridge) ↔
          15 ≤ s.sde.lockCount ∧ ¬s.ordersStep e := by
        have steps : s.stepsAt e ↔ s.ordersStep e := by rw [State.stepsAt_iff]; exact and_iff_right (.inl clock)
        simp [clock, steps]
      by_cases ordered : s.ordersStep e
      · rw [flag, decide_eq_true ordered, if_pos rfl]
        exact .inl ⟨quiet, fun locks => (noLock.mp locks.2).2 ordered⟩
      · rw [flag, decide_eq_false ordered, if_neg (by decide), State.withinLock_eq]
        have count : (s.stepDecision e).1.sde.lockCount = s.sde.lockCount := by
          rw [decided, decide_eq_false ordered]; rfl
        by_cases within : s.within e
        · rw [decide_eq_true within, if_pos rfl, count]
          have counted : s.Quiet ((s.stepDecision e).1.withSde
              { (s.stepDecision e).1.sde with lockCount := satAdd 16 s.sde.lockCount 1 }) :=
            quiet.trans (State.withSde_quiet rfl rfl)
          generalize (s.stepDecision e).1.withSde
            { (s.stepDecision e).1.sde with lockCount := satAdd 16 s.sde.lockCount 1 } = x at counted
          dsimp only
          split
          next full =>
            obtain ⟨m, judged, quiet', valid⟩ := x.enterLocked_judges
            refine .inr ⟨m, judged, counted.trans quiet', valid, within, noLock.mpr ⟨?_, ordered⟩⟩
            unfold satAdd at full
            omega
          next few =>
            refine .inl ⟨counted, fun locks => few ?_⟩
            have := (noLock.mp locks.2).1
            unfold satAdd
            omega
        · rw [decide_eq_false within, if_neg (by decide)]
          exact .inl ⟨quiet.trans (State.withSde_quiet rfl rfl), fun locks => within locks.1⟩
    · have noLock : ¬s.locksAt e := fun locks => by
        rcases locks.2 with ⟨acquire, -⟩ | bridge
        · rw [clock] at acquire; cases acquire
        · rw [clock] at bridge; cases bridge
      rw [clock]
      dsimp only
      rw [State.goodLocked_eq]
      split
      · exact .inl ⟨State.withSde_quiet rfl rfl, noLock⟩
      · split
        · exact .inl ⟨State.enterAcquireDeciding_quiet e s, noLock⟩
        · dsimp only
          have counted : s.Quiet (s.withSde { s.sde with lockLoss := satAdd 4 s.sde.lockLoss 1 }) :=
            State.withSde_quiet rfl rfl
          split
          · exact .inl ⟨counted.trans (State.enterAcquireDeciding_quiet e _), noLock⟩
          · exact .inl ⟨counted, noLock⟩
    · rw [clock]
      dsimp only
      unfold State.goodBridge
      rw [State.withinLock_eq]
      by_cases within : s.within e
      · rw [decide_eq_true within, if_pos rfl]
        obtain ⟨m, judged, quiet, valid⟩ := s.enterLocked_judges
        exact .inr ⟨m, judged, quiet, valid, within, .inr clock⟩
      · rw [decide_eq_false within, if_neg (by decide)]
        exact .inl ⟨State.enterAcquireDeciding_quiet e s, fun locks => within locks.1⟩
  refine ⟨fun noLock => ?_, fun locks => ?_⟩
  · rcases either with ⟨quiet, -⟩ | ⟨m, -, -, -, locks⟩
    · exact quiet
    · exact absurd locks noLock
  · rcases either with ⟨-, noLock⟩ | ⟨m, judged, quiet, valid, -⟩
    · exact absurd locks noLock
    · exact ⟨m, judged, quiet, valid⟩

/-- A step ordered is told to every attached tenant, and latched (R64). -/
theorem State.stepDecision_tells {e : Int} (ordered : (s.stepDecision e).2 = true) (inn : s.attached p = true) :
    (s.nu.get p).Tells (.phaseStep (limitStep e)) (fun x => x = .phaseStep (limitStep e)) ((s.stepDecision e).1.nu.get p) ∧
      ((s.stepDecision e).1.nu.get p).latches.stepped = true := by
  rw [State.stepDecision_snd] at ordered
  rw [State.stepDecision_eq]
  dsimp only
  rw [if_pos ordered, State.orderStep_eq]
  generalize ha : (s.withSde { s.sde with stepDecisionPending := false, stepNow := false }).withSde
    { (s.withSde { s.sde with stepDecisionPending := false, stepNow := false }).sde with lockCount := 0, lockLoss := 0 } = a
  have attached : a.attached p = true := by rw [← ha]; exact inn
  have posted : (a.postAll (.phaseStep (limitStep e))).attached p = true := attached
  have nu : a.nu = s.nu := by rw [← ha]; rfl
  dsimp only
  refine ⟨?_, by rw [State.latchStepped_get, if_pos posted]⟩
  rw [← nu]
  exact (State.postAll_tells _ _ a attached).later ((State.latchStepped_files [] _ p).keeps (by simp))

theorem State.goodEpoch_tells {e : Int} (ordered : (s.goodEpoch e).2 = true) (inn : s.attached p = true) :
    (s.nu.get p).Tells (.phaseStep (limitStep e)) (fun x => x = .phaseStep (limitStep e)) ((s.goodEpoch e).1.nu.get p) ∧
      ((s.goodEpoch e).1.nu.get p).latches.stepped = true := by
  have deciding (x : State) (before : s.Quiet x) (h : (x.enterAcquireDeciding e).2 = true) :
      (s.nu.get p).Tells (.phaseStep (limitStep e)) (fun y => y = .phaseStep (limitStep e))
          ((x.enterAcquireDeciding e).1.nu.get p) ∧
        ((x.enterAcquireDeciding e).1.nu.get p).latches.stepped = true := by
    have quiet := before.trans x.acquiring_quiet
    rw [State.enterAcquireDeciding_eq] at h ⊢
    have attached : x.acquiring.attached p = true := by
      rw [← inn]; exact State.attached_congr (congrArg Tru.tenants quiet.tru) p
    obtain ⟨told, latched⟩ := State.stepDecision_tells h attached
    exact ⟨.earlier (quiet.files p).before told, latched⟩
  unfold State.goodEpoch at ordered ⊢
  split at ordered
  · rw [State.goodAcquire_eq] at ordered ⊢
    dsimp only at ordered ⊢
    split at ordered
    next h => rw [if_pos h]; exact State.stepDecision_tells h inn
    · split at ordered <;> cases ordered
  · rw [State.goodLocked_eq] at ordered ⊢
    split at ordered
    · cases ordered
    next beyond =>
      rw [if_neg beyond]
      split at ordered
      next pending =>
        rw [if_pos pending]
        exact deciding s ⟨rfl, rfl, rfl, .refl _ _⟩ ordered
      next none =>
        rw [if_neg none]
        dsimp only at ordered ⊢
        split at ordered
        next fourth =>
          rw [if_pos fourth]
          exact deciding _ (State.withSde_quiet rfl rfl) ordered
        · cases ordered
  · unfold State.goodBridge at ordered ⊢
    split at ordered
    · cases ordered
    next beyond =>
      rw [if_neg beyond]
      exact deciding s ⟨rfl, rfl, rfl, .refl _ _⟩ ordered
  · cases ordered
  · cases ordered

end

end Sys2Proof.Machine
end

section
/-!
PROOFS. The values of a full update, and the drive of a GOOD epoch as the statements about the close read it (R53 to R67, R71 to
R84, R92).
-/

namespace Sys2Proof.Machine

section
variable {s b c : State} {e used : Int} {first : Bool} {lf : SlotItem} {k : Seconds} {label : Option Seconds}

/-! ## The averages -/

theorem State.averaged_of_acquire (h : s.sde.clock ≠ .locked) :
    s.averaged used first lf = s.withSde { s.sde with fInt := s.integral used } := if_neg h

theorem State.averaged_of_locked (h : s.sde.clock = .locked) :
    s.averaged used first lf =
      (((s.withSde { s.sde with fInt := s.integral used }).lockedAverages used first).takeResult).trackItem lf := if_pos h

/-- The LF item feeds the tracking with f: GOOD, of a slot that does not show OFF (R83). -/
def SlotItem.feeds (lf : SlotItem) (f : Int) : Prop := lf.state ≠ .off ∧ ∃ l, lf.outcome = .good f l

theorem State.trackItem_of_feeds {f : Int} (h : lf.feeds f) (s : State) : s.trackItem lf = s.trackLf f := by
  obtain ⟨on, l, good⟩ := h
  rw [State.trackItem, good]
  exact if_neg on

theorem State.trackItem_of_not_feeds (h : ¬∃ f, lf.feeds f) (s : State) : s.trackItem lf = s := by
  unfold State.trackItem
  split
  next f l good =>
    split
    · rfl
    next on => exact absurd ⟨f, on, l, good⟩ h
  all_goals rfl

/-- LF tracking starts afresh: LF restart is set, or the nominal frequency is not that of the basis (R84). -/
abbrev State.tracksAfresh (s : State) : Prop := s.sde.lfRestart = true ∨ s.sde.lfBasis ≠ s.rmu.lfNominal

theorem State.tracksAfresh_iff (s : State) :
    (s.sde.lfRestart || s.sde.lfBasis != s.rmu.lfNominal) = true ↔ s.tracksAfresh := by
  rw [Bool.or_eq_true, bne_iff_ne]

theorem State.trackLf_of_afresh (h : s.tracksAfresh) (f : Int) :
    (s.trackLf f).sde =
      { s.sde with bias := f, wander := 0, lfCount := 1, lfBasis := s.rmu.lfNominal, lfRestart := false } := by
  rw [State.trackLf, if_pos ((State.tracksAfresh_iff s).mpr h)]

theorem State.trackLf_of_going (h : ¬s.tracksAfresh) (f : Int) :
    (s.trackLf f).sde =
      { s.sde with
        bias := s.sde.bias + roundDiv (f - s.sde.bias) 64
        wander := s.sde.wander +
          roundDiv (mag (f - (s.sde.bias + roundDiv (f - s.sde.bias) 64)) - s.sde.wander) 64
        lfCount := min 600 (s.sde.lfCount + 1) } := by
  rw [State.trackLf, if_neg fun on => h ((State.tracksAfresh_iff s).mp on)]
  rfl

/-- What the learning store holds after a locked result (R92 to R94). -/
def State.filed (s : State) (f : Int) : Ols :=
  match s.ols.theta with
  | some θ => if s.learningEnabled then s.ols.fileResult f θ else s.ols
  | none => s.ols

theorem State.takeResult_ols (s : State) : s.takeResult.ols = s.filed s.sde.fInt := by
  unfold State.takeResult State.filed
  cases s.ols.theta with
  | none => rfl
  | some θ => dsimp only; split <;> rfl

theorem State.filed_congr {a b : State} (ols : a.ols = b.ols) (spm : a.spm = b.spm) (f : Int) : a.filed f = b.filed f := by
  have learning : a.learningEnabled = b.learningEnabled := by unfold State.learningEnabled; rw [ols, spm]
  unfold State.filed
  rw [ols, learning]

/-- The averages of a LOCKED clock (R80, R81, R92). -/
theorem State.averaged_locked_values (h : s.sde.clock = .locked) (used : Int) (first : Bool) (lf : SlotItem) :
    let a := s.averaged used first lf
    a.sde.residual = s.sde.residual + roundDiv (mag used - s.sde.residual) 16 ∧
      a.sde.fAvg = (if first then s.integral used else s.sde.fAvg + roundDiv (s.integral used - s.sde.fAvg) 64) ∧
      a.sde.fAvgBin = s.currentBin ∧ a.ols = s.filed (s.integral used) := by
  dsimp only
  rw [State.averaged_of_locked h]
  obtain ⟨x, hx⟩ : ∃ x : State, x = (s.withSde { s.sde with fInt := s.integral used }).lockedAverages used first := ⟨_, rfl⟩
  have sde : x.sde =
      { s.sde with
        fInt := s.integral used
        residual := s.sde.residual + roundDiv (mag used - s.sde.residual) 16
        fAvg := if first then s.integral used else s.sde.fAvg + roundDiv (s.integral used - s.sde.fAvg) 64
        fAvgBin := s.currentBin } := by rw [hx]; rfl
  have fInt : x.sde.fInt = s.integral used := by rw [sde]
  have ols : x.ols = s.ols := by rw [hx]; rfl
  have spm : x.spm = s.spm := by rw [hx]; rfl
  rw [← hx]
  have taken := (State.takeResult_frame x).2.2.1
  have isFiled : x.takeResult.ols = s.filed (s.integral used) := by
    rw [State.takeResult_ols, State.filed_congr ols spm, fInt]
  have tracked := State.trackItem_sde lf x.takeResult
  have residual := congrArg Sde.residual tracked
  have fAvg := congrArg Sde.fAvg tracked
  have fAvgBin := congrArg Sde.fAvgBin tracked
  rw [taken, sde] at residual fAvg fAvgBin
  exact ⟨residual, fAvg, fAvgBin, ((State.trackItem_frame lf _).2.2.1).trans isFiled⟩

/-- LF tracking in the averages of a LOCKED clock (R83, R84). -/
theorem State.averaged_locked_tracking (h : s.sde.clock = .locked) (used : Int) (first : Bool) (lf : SlotItem) :
    let a := s.averaged used first lf
    (∀ f, lf.feeds f → s.tracksAfresh →
      a.sde.bias = f ∧ a.sde.wander = 0 ∧ a.sde.lfCount = 1 ∧ a.sde.lfBasis = s.rmu.lfNominal ∧
        a.sde.lfRestart = false) ∧
      (∀ f, lf.feeds f → ¬s.tracksAfresh →
        a.sde.bias = s.sde.bias + roundDiv (f - s.sde.bias) 64 ∧
          a.sde.wander = s.sde.wander +
            roundDiv (mag (f - (s.sde.bias + roundDiv (f - s.sde.bias) 64)) - s.sde.wander) 64 ∧
          a.sde.lfCount = min 600 (s.sde.lfCount + 1) ∧ a.sde.lfBasis = s.sde.lfBasis ∧
          a.sde.lfRestart = s.sde.lfRestart) ∧
      ((¬∃ f, lf.feeds f) →
        a.sde.bias = s.sde.bias ∧ a.sde.wander = s.sde.wander ∧ a.sde.lfCount = s.sde.lfCount ∧
          a.sde.lfBasis = s.sde.lfBasis ∧ a.sde.lfRestart = s.sde.lfRestart) := by
  dsimp only
  rw [State.averaged_of_locked h]
  obtain ⟨x, hx⟩ : ∃ x : State, x = (s.withSde { s.sde with fInt := s.integral used }).lockedAverages used first := ⟨_, rfl⟩
  rw [← hx]
  have same : x.takeResult.sde.bias = s.sde.bias ∧ x.takeResult.sde.wander = s.sde.wander ∧
      x.takeResult.sde.lfCount = s.sde.lfCount ∧ x.takeResult.sde.lfBasis = s.sde.lfBasis ∧
      x.takeResult.sde.lfRestart = s.sde.lfRestart := by
    rw [(State.takeResult_frame x).2.2.1, hx]
    exact ⟨rfl, rfl, rfl, rfl, rfl⟩
  have rmu : x.takeResult.rmu = s.rmu := by rw [(State.takeResult_frame x).2.1, hx]; rfl
  obtain ⟨bias, wander, lfCount, lfBasis, lfRestart⟩ := same
  have afresh : x.takeResult.tracksAfresh ↔ s.tracksAfresh := by
    unfold State.tracksAfresh
    rw [lfRestart, lfBasis, rmu]
  refine ⟨fun f feeds new => ?_, fun f feeds going => ?_, fun idle => ?_⟩
  · rw [State.trackItem_of_feeds feeds, State.trackLf_of_afresh (afresh.mpr new), rmu]
    exact ⟨rfl, rfl, rfl, rfl, rfl⟩
  · rw [State.trackItem_of_feeds feeds, State.trackLf_of_going (fun new => going (afresh.mp new)), bias, wander, lfCount]
    exact ⟨rfl, rfl, rfl, lfBasis, lfRestart⟩
  · rw [State.trackItem_of_not_feeds idle]
    exact ⟨bias, wander, lfCount, lfBasis, lfRestart⟩

/-! ## The rule of the label, by its records -/

theorem State.labelled_sde (k : Seconds) (label : Option Seconds) (s : State) :
    (s.labelled k label).sde =
      { s.sde with labelMismatch := ruledMismatch k label s.tsg.timeValid s.sde.labelMismatch } := by
  cases h : setFrom k label s.tsg.timeValid s.sde.labelMismatch with
  | none => rw [State.labelled_of_keeps h]; rfl
  | some l => rw [State.labelled_of_sets h, (State.setFromLabel_frame _ _ _).1]; rfl

theorem State.labelled_tsg (k : Seconds) (label : Option Seconds) (s : State) :
    (s.labelled k label).tsg =
      { s.tsg with
        seconds := ((setFrom k label s.tsg.timeValid s.sde.labelMismatch).map
          fun l => l + (s.tsg.seconds - k)).getD s.tsg.seconds } := by
  cases h : setFrom k label s.tsg.timeValid s.sde.labelMismatch with
  | none => rw [State.labelled_of_keeps h]; rfl
  | some l => rw [State.labelled_of_sets h, State.setFromLabel_tsg]; rfl

theorem State.labelled_ols_of_keeps (h : setFrom k label s.tsg.timeValid s.sde.labelMismatch = none) :
    (s.labelled k label).ols = s.ols := by
  rw [State.labelled_of_keeps h]; rfl

theorem State.labelled_ols_of_sets {l : Seconds} (h : setFrom k label s.tsg.timeValid s.sde.labelMismatch = some l) :
    (s.labelled k label).ols = s.ols.daySet s.tsg.seconds (l + (s.tsg.seconds - k)) := by
  rw [State.labelled_of_sets h, State.setFromLabel_ols]; rfl

theorem State.labelled_tru (k : Seconds) (label : Option Seconds) (s : State) : (s.labelled k label).tru = s.tru := by
  cases h : setFrom k label s.tsg.timeValid s.sde.labelMismatch with
  | none => rw [State.labelled_of_keeps h]; rfl
  | some l => rw [State.labelled_of_sets h]; rfl

/-- A seconds set is told to every attached tenant, and latched (R64, R67). -/
theorem State.labelled_tells {l : Seconds} (h : setFrom k label s.tsg.timeValid s.sde.labelMismatch = some l) {p : Port}
    (inn : s.attached p = true) :
    (s.nu.get p).Tells (.secondsSet (l + (s.tsg.seconds - k))) (fun x => x = .secondsSet (l + (s.tsg.seconds - k)))
        ((s.labelled k label).nu.get p) ∧
      ((s.labelled k label).nu.get p).latches.stepped = true := by
  have inn' : (s.ruled k label).attached p = true := inn
  rw [State.labelled_of_sets h, State.setFromLabel_nu_get k l p _ inn']
  exact ⟨⟨s.nu.get p, .refl _ _, TenantNotices.retains_latches _ _ _⟩, rfl⟩

/-! ## The label of the statements -/

theorem State.settingLabel_eq (s : State) (n : SlotId) (valid : Bool) :
    s.settingLabel n valid = setFrom (s.tsg.seconds - 1) (s.closingLabel n) valid s.sde.labelMismatch := rfl

/-! ## The drive of a GOOD epoch -/

theorem State.SlotsClosed.decidesAt (closed : s.SlotsClosed b) (e : Int) : b.decidesAt e ↔ s.decidesAt e := by
  unfold State.decidesAt; rw [closed.sde, closed.tru]

theorem State.SlotsClosed.ordersStep (closed : s.SlotsClosed b) (e : Int) : b.ordersStep e ↔ s.ordersStep e := by
  unfold State.ordersStep; rw [closed.sde, closed.tru, closed.timeValid]

theorem State.SlotsClosed.stepsAt (closed : s.SlotsClosed b) (e : Int) : b.stepsAt e ↔ s.stepsAt e := by
  rw [State.stepsAt_iff, State.stepsAt_iff, closed.decidesAt, closed.ordersStep]

theorem State.SlotsClosed.locksAt (closed : s.SlotsClosed b) (e : Int) : b.locksAt e ↔ s.locksAt e := by
  have steps := closed.stepsAt e
  unfold State.locksAt
  rw [steps, closed.sde, closed.tru]

theorem State.SlotsClosed.within (closed : s.SlotsClosed b) (e : Int) : b.within e ↔ s.within e := by
  unfold State.within; rw [closed.tru]

theorem State.SlotsClosed.attached (closed : s.SlotsClosed b) (p : Port) : b.attached p = s.attached p :=
  State.attached_congr (congrArg Tru.tenants closed.tru) p

/-- The part g after the counting of a GOOD epoch of value e on the closed slots b of s, before its full update. -/
structure State.GoodCounted (s b : State) (e : Int) (g : State) : Prop where
  sde : g.sde =
    { s.sde.afterGood (decide (s.stepsAt e)) (decide (s.decidesAt e)) (decide (s.locksAt e)) (decide (s.within e)) with
      tol := g.sde.tol }
  tsg : g.tsg = { b.tsg with timeValid := s.tsg.timeValid || decide (s.locksAt e) }
  rmu : g.rmu = b.rmu
  ols : g.ols = s.ols
  tru : g.tru = s.tru
  spm : g.spm = s.spm
  quiet : ¬s.locksAt e → b.Quiet g
  judged : s.locksAt e → ∃ m : State, g = m.judgeAll ∧ b.Quiet m ∧ m.tsg.timeValid = true
  told : s.stepsAt e → ∀ p : Port, s.attached p = true →
    (b.nu.get p).Tells (.phaseStep (limitStep e)) (fun x => x = .phaseStep (limitStep e)) (g.nu.get p) ∧
      (g.nu.get p).latches.stepped = true
  files : b.Files [0, 1, 2, 6] g

/-- The drive of a GOOD epoch: its counting, then its full update. -/
theorem State.driveStage_good (closed : s.SlotsClosed b) (drives : s.drives) {n : SlotId}
    (selected : s.sde.selected = some n) (good : (s.summary.get n).outcome = .good e label) :
    ∃ g : State, s.GoodCounted b e g ∧
      b.driveStage (s.tsg.seconds - 1) s.summary =
        g.fullUpdate (s.tsg.seconds - 1) e label (decide (s.stepsAt e))
          (!s.sde.lockedSinceStart && decide (s.locksAt e)) (s.summary.get lfSlot) := by
  have drivesB := closed.drives.mpr drives
  have leaves := State.goodEpoch_leaves drivesB e
  have judges := State.goodEpoch_judges drivesB e
  have tells (p : Port) := State.goodEpoch_tells (s := b) (p := p) (e := e)
  have files := State.goodEpoch_files e b
  obtain ⟨rmu, ols, tru, -, spm, -⟩ := State.goodEpoch_frame e b
  have driven := State.driveStage_of_good (k := s.tsg.seconds - 1) drivesB (closed.sde ▸ selected) good
  have first : b.firstLocked e = (!s.sde.lockedSinceStart && decide (s.locksAt e)) := by
    have since := congrArg Sde.lockedSinceStart leaves.sde
    dsimp only [Sde.afterGood] at since
    unfold State.firstLocked
    rw [since, decide_eq_decide.mpr (closed.locksAt e), closed.sde]
    cases s.sde.lockedSinceStart <;> rfl
  obtain ⟨sde, tsg, stepped⟩ := leaves
  rw [decide_eq_decide.mpr (closed.stepsAt e), decide_eq_decide.mpr (closed.decidesAt e),
    decide_eq_decide.mpr (closed.locksAt e), decide_eq_decide.mpr (closed.within e), closed.sde] at sde
  rw [decide_eq_decide.mpr (closed.locksAt e), closed.timeValid] at tsg
  rw [decide_eq_decide.mpr (closed.stepsAt e)] at stepped
  rw [first, decide_eq_decide.mpr (closed.stepsAt e)] at driven
  refine ⟨(b.goodEpoch e).1, ⟨sde, tsg, rmu, ols.trans closed.ols, tru.trans closed.tru, spm.trans closed.spm,
    fun noLock => judges.1 fun l => noLock ((closed.locksAt e).mp l), fun locks => judges.2 ((closed.locksAt e).mpr locks),
    fun steps p inn => ?_, files⟩, driven⟩
  exact tells p (by rw [stepped]; exact decide_eq_true steps) (by rw [closed.attached]; exact inn)

end

end Sys2Proof.Machine
end

section
/-!
PROOFS. The records that a full update writes, whether it steps or not (R13, R71 to R76, R120).
-/

namespace Sys2Proof.Machine

section
variable {s b c : State} {n : SlotId} {e : Int} {k : Seconds} {label : Option Seconds} {stepped first : Bool} {lf : SlotItem}

/-- The value that a full update forms its terms from (R76). -/
def usedValue (e : Int) (stepped : Bool) : Int := if stepped then 0 else e

/-- The part once the loop is updated and the step applied, before the rule of the label (R13). -/
def State.afterStep (e : Int) (stepped first : Bool) (lf : SlotItem) (s : State) : State :=
  let u := s.updated e (usedValue e stepped) first lf
  if stepped then u.applyStep e else u

theorem State.fullUpdate_afterStep (k : Seconds) (e : Int) (label : Option Seconds) (stepped first : Bool) (lf : SlotItem)
    (s : State) : s.fullUpdate k e label stepped first lf = (s.afterStep e stepped first lf).labelled k label := rfl

/-- A step moves site time and the RMU alone. -/
theorem State.afterStep_frame (e : Int) (stepped first : Bool) (lf : SlotItem) (s : State) :
    let u := s.updated e (usedValue e stepped) first lf
    (s.afterStep e stepped first lf).sde = u.sde ∧ (s.afterStep e stepped first lf).ols = u.ols ∧
      (s.afterStep e stepped first lf).tru = s.tru ∧ (s.afterStep e stepped first lf).nu = u.nu ∧
      (s.afterStep e stepped first lf).tsg.fApp = u.tsg.fApp ∧
      (s.afterStep e stepped first lf).tsg.timeValid = u.tsg.timeValid ∧
      (s.afterStep e stepped first lf).tsg.seconds =
        (u.tsg.afterStep (if stepped then some (limitStep e) else none)).seconds := by
  dsimp only
  obtain ⟨u, hu⟩ : ∃ u : State, u = s.updated e (usedValue e stepped) first lf := ⟨_, rfl⟩
  have tru := (State.updated_frame e (usedValue e stepped) first lf s).2.1
  have eq : s.afterStep e stepped first lf = if stepped then u.applyStep e else u := by rw [hu]; rfl
  rw [eq, ← hu]
  rw [← hu] at tru
  cases stepped with
  | false => exact ⟨rfl, rfl, tru, rfl, rfl, rfl, rfl⟩
  | true =>
    have fApp : (u.tsg.step (limitStep e)).fApp = u.tsg.fApp :=
      (congrArg Tsg.fApp (u.tsg.step_flags u.tsg.fApp u.tsg.timeValid (limitStep e)) :)
    exact ⟨rfl, rfl, tru, rfl, fApp, Tsg.step_timeValid _ _, rfl⟩

/-- The rule of the label finds the flag and the count as the update found them. -/
theorem State.afterStep_rule (e : Int) (stepped first : Bool) (lf : SlotItem) (s : State) :
    (s.afterStep e stepped first lf).tsg.timeValid = s.tsg.timeValid ∧
      (s.afterStep e stepped first lf).sde.labelMismatch = s.sde.labelMismatch ∧
      (s.afterStep e stepped first lf).tsg.seconds =
        (s.tsg.afterStep (if stepped then some (limitStep e) else none)).seconds := by
  obtain ⟨sde, -, -, -, -, valid, seconds⟩ := State.afterStep_frame e stepped first lf s
  have tsg := State.updated_tsg e (usedValue e stepped) first lf s
  refine ⟨by rw [valid, tsg], by rw [sde, State.updated_labelMismatch], ?_⟩
  rw [seconds, tsg]
  exact (congrArg Tsg.seconds (Tsg.afterStep_flags s.tsg _ s.tsg.timeValid _) :)

theorem State.fullUpdate_sde (k : Seconds) (e : Int) (label : Option Seconds) (stepped first : Bool) (lf : SlotItem)
    (s : State) :
    (s.fullUpdate k e label stepped first lf).sde =
      { (s.averaged (usedValue e stepped) first lf).sde with
        labelMismatch := ruledMismatch k label s.tsg.timeValid s.sde.labelMismatch
        e := min (s.tru.config.eFloor + mag e) eCap
        tol := (s.fullUpdate k e label stepped first lf).sde.tol } := by
  obtain ⟨valid, mismatch, -⟩ := State.afterStep_rule e stepped first lf s
  obtain ⟨sde, -⟩ := State.afterStep_frame e stepped first lf s
  have ruled := State.labelled_sde k label (s.afterStep e stepped first lf)
  rw [valid, mismatch, sde, State.updated_sde] at ruled
  rw [State.fullUpdate_afterStep, ruled]

theorem State.fullUpdate_flags (k : Seconds) (e : Int) (label : Option Seconds) (stepped first : Bool) (lf : SlotItem)
    (s : State) :
    (s.fullUpdate k e label stepped first lf).tsg.fApp =
        clampCorr (s.integral (usedValue e stepped) + s.proportional (usedValue e stepped)) ∧
      (s.fullUpdate k e label stepped first lf).tsg.timeValid = s.tsg.timeValid := by
  obtain ⟨-, -, -, -, fApp, valid, -⟩ := State.afterStep_frame e stepped first lf s
  rw [State.updated_tsg] at fApp valid
  rw [State.fullUpdate_afterStep, State.labelled_tsg]
  exact ⟨fApp, valid⟩

/-- E is set by the full update, and what it judges stands but for a seconds set told of (R120, R124). -/
theorem State.fullUpdate_judges (k : Seconds) (e : Int) (label : Option Seconds) (stepped first : Bool) (lf : SlotItem)
    (s : State) :
    let y := s.averaged (usedValue e stepped) first lf
    let c := s.fullUpdate k e label stepped first lf
    c.sde.tol = (y.setE (s.tru.config.eFloor + mag e)).sde.tol ∧ (y.setE (s.tru.config.eFloor + mag e)).Files [7] c ∧
      c.Judged := by
  dsimp only
  have floor : (s.averaged (usedValue e stepped) first lf).tru = s.tru := (State.averaged_frame _ _ _ s).2.2.1
  obtain ⟨z, hz⟩ : ∃ z : State, z = (s.averaged (usedValue e stepped) first lf).setE (s.tru.config.eFloor + mag e) := ⟨_, rfl⟩
  have updated : s.updated e (usedValue e stepped) first lf =
      z.orderFApp (z.sde.fInt + s.proportional (usedValue e stepped)) := by rw [hz, ← floor]; rfl
  obtain ⟨sde, -, tru, nu, -, valid, -⟩ := State.afterStep_frame e stepped first lf s
  rw [updated] at sde nu valid
  have ruled := State.labelled_sde k label (s.afterStep e stepped first lf)
  have files := State.labelled_files k label (s.afterStep e stepped first lf)
  have tru' := State.labelled_tru k label (s.afterStep e stepped first lf)
  have tsg := State.labelled_tsg k label (s.afterStep e stepped first lf)
  rw [← State.fullUpdate_afterStep] at ruled files tru' tsg
  have ztru : z.tru = s.tru := by rw [hz, (State.setE_frame _ _).2.2.2.1, floor]
  have tol : (s.fullUpdate k e label stepped first lf).sde.tol = z.sde.tol := by rw [ruled, sde]; rfl
  have isE : (s.fullUpdate k e label stepped first lf).sde.e = z.sde.e := by rw [ruled, sde]; rfl
  rw [← hz]
  refine ⟨tol, (State.Files.of_nu (by rw [nu]; rfl)).trans files, ?_⟩
  have judged : z.Judged := by rw [hz]; exact State.setE_judged _ _
  exact judged.congr (by rw [tru', tru, ztru]) (by rw [tsg]; exact valid) isE tol

theorem State.fullUpdate_tru (k : Seconds) (e : Int) (label : Option Seconds) (stepped first : Bool) (lf : SlotItem)
    (s : State) : (s.fullUpdate k e label stepped first lf).tru = s.tru := (State.fullUpdate_frame _ _ _ _ _ _ _).1

/-- The learning store after the update, where no seconds set is ordered. -/
theorem State.fullUpdate_ols_of_keeps (h : setFrom k label s.tsg.timeValid s.sde.labelMismatch = none) :
    (s.fullUpdate k e label stepped first lf).ols = (s.averaged (usedValue e stepped) first lf).ols := by
  obtain ⟨valid, mismatch, -⟩ := State.afterStep_rule e stepped first lf s
  rw [State.fullUpdate_afterStep, State.labelled_ols_of_keeps (by rw [valid, mismatch]; exact h),
    (State.afterStep_frame e stepped first lf s).2.1, (State.updated_frame _ _ _ _ s).2.2]

/-- The learning store after the update, where a seconds set is ordered (R96). -/
theorem State.fullUpdate_ols_of_sets {l : Seconds} (h : setFrom k label s.tsg.timeValid s.sde.labelMismatch = some l) :
    let left := (s.tsg.afterStep (if stepped then some (limitStep e) else none)).seconds
    (s.fullUpdate k e label stepped first lf).ols =
      (s.averaged (usedValue e stepped) first lf).ols.daySet left (l + (left - k)) := by
  obtain ⟨valid, mismatch, seconds⟩ := State.afterStep_rule e stepped first lf s
  dsimp only
  rw [State.fullUpdate_afterStep, State.labelled_ols_of_sets (by rw [valid, mismatch]; exact h),
    (State.afterStep_frame e stepped first lf s).2.1, (State.updated_frame _ _ _ _ s).2.2, seconds]

/-- A seconds set that the update orders is told to every attached tenant, and latched (R64, R67). -/
theorem State.fullUpdate_tells_set {l : Seconds} (h : setFrom k label s.tsg.timeValid s.sde.labelMismatch = some l)
    {p : Port} (inn : s.attached p = true) :
    let v := l + ((s.tsg.afterStep (if stepped then some (limitStep e) else none)).seconds - k)
    (s.nu.get p).Tells (.secondsSet v) (fun x => x = .secondsSet v)
        ((s.fullUpdate k e label stepped first lf).nu.get p) ∧
      ((s.fullUpdate k e label stepped first lf).nu.get p).latches.stepped = true := by
  obtain ⟨valid, mismatch, seconds⟩ := State.afterStep_rule e stepped first lf s
  obtain ⟨-, -, tru, nu, -⟩ := State.afterStep_frame e stepped first lf s
  have attached : (s.afterStep e stepped first lf).attached p = true := by
    rw [← inn]; exact State.attached_congr (congrArg Tru.tenants tru) p
  have tells := State.labelled_tells (k := k) (label := label) (s := s.afterStep e stepped first lf)
    (by rw [valid, mismatch]; exact h) attached
  rw [← State.fullUpdate_afterStep, seconds] at tells
  have before := State.updated_files e (usedValue e stepped) first lf s p
  rw [← nu] at before
  exact ⟨.earlier before.before tells.1, tells.2⟩

end

end Sys2Proof.Machine
end

section
/-!
PROOFS. The close of a GOOD epoch of the driving slot, and the phase step that it orders (O29).
-/

namespace Sys2Proof.Machine

section
variable {s b c g : State} {n : SlotId} {e : Int} {items : Six SlotItem} {label : Option Seconds}

/-! ## Counts and pendings at 0 stay so -/

/-- The lock counts at 0 and step-now cleared stay so through the follow stage, outside HOLDOVER. -/
theorem State.followStage_zeros (away : s.sde.clock ≠ .holdover) (old : Option SlotId) :
    (s.sde.lockCount = 0 → (s.followStage old).sde.lockCount = 0) ∧
      (s.sde.lockLoss = 0 → (s.followStage old).sde.lockLoss = 0) ∧
      (s.sde.stepNow = false → (s.followStage old).sde.stepNow = false) := by
  have cleared (b : Bool) (h : s.sde.stepNow = false) : (s.sde.stepNow && b) = false := by rw [h]; rfl
  rw [State.followStage_eq]
  dsimp only
  split
  next clock =>
    split
    · rw [State.enterAcquireFollowing_sde (by rw [clock]; decide)]; exact ⟨fun _ => rfl, id, id⟩
    · exact ⟨id, id, id⟩
  next clock =>
    split
    · exact ⟨id, id, id⟩
    · split
      · exact ⟨fun _ => rfl, id, id⟩
      · split
        · rw [State.enterHoldover_sde (by rw [clock]; decide)]; exact ⟨id, id, cleared _⟩
        · rw [State.enterFreerun_sde (by rw [clock]; decide)]; exact ⟨id, id, cleared _⟩
  next clock =>
    have clock' : (s.withSde { s.sde with lockLoss := 0 }).sde.clock = .locked := clock
    split
    · exact ⟨id, id, id⟩
    · split
      · exact ⟨id, id, id⟩
      · split
        · rw [State.enterBridge_sde (by rw [clock']; decide)]; exact ⟨id, fun _ => rfl, cleared _⟩
        · rw [State.enterHoldover_sde (by rw [clock']; decide)]; exact ⟨id, fun _ => rfl, cleared _⟩
  · split <;> exact ⟨id, id, id⟩
  next clock => exact absurd clock away

theorem State.closedOn_zeros (away : c.sde.clock ≠ .holdover) (items : Six SlotItem) :
    (c.sde.lockCount = 0 → (c.closedOn items).sde.lockCount = 0) ∧
      (c.sde.lockLoss = 0 → (c.closedOn items).sde.lockLoss = 0) ∧
      (c.sde.stepNow = false → (c.closedOn items).sde.stepNow = false) := by
  obtain ⟨count, loss, now⟩ := State.followStage_zeros (s := c.chosen items) (by rw [State.chosen_clock]; exact away)
    c.sde.selected
  rw [(State.closedOn_eq items c).1]
  have chosen : (c.sde.lockCount = 0 → (c.chosen items).sde.lockCount = 0) ∧
      (c.chosen items).sde.lockLoss = c.sde.lockLoss ∧
      (c.sde.stepNow = false → (c.chosen items).sde.stepNow = false) := by
    by_cases same : c.choice items = c.sde.selected
    · rw [State.chosen_of_same same, State.noteLfHalt_eq]; exact ⟨id, rfl, id⟩
    · rw [State.chosen_of_moved same]; exact ⟨fun _ => rfl, rfl, fun _ => rfl⟩
  exact ⟨fun h => count (chosen.1 h), fun h => loss (chosen.2.1.trans h), fun h => now (chosen.2.2 h)⟩

/-! ## The close of a GOOD epoch -/

/-- A due close whose driving slot's epoch is GOOD with the value e: the slots closed in b, the epoch counted in g, the full update
made in c, and the end of the close on c. -/
structure State.GoodDriven (s : State) (n : SlotId) (e : Int) (label : Option Seconds) (b g c : State) : Prop where
  closed : s.SlotsClosed b
  drives : s.drives
  selected : s.sde.selected = some n
  counted : s.GoodCounted b e g
  update : c = g.fullUpdate (s.tsg.seconds - 1) e label (decide (s.stepsAt e))
    (!s.sde.lockedSinceStart && decide (s.locksAt e)) (s.summary.get lfSlot)
  moves :
    let step := if s.stepsAt e then some (limitStep e) else none
    b.Moves step
      ((setFrom (s.tsg.seconds - 1) label (s.tsg.timeValid || decide (s.locksAt e)) s.sde.labelMismatch).map
        fun l => l + ((b.tsg.afterStep step).seconds - (s.tsg.seconds - 1))) c
  next : exec .epochClose s = .next (c.closedOn s.summary)

theorem State.goodDriven_of_closed (closed : s.SlotsClosed b)
    (next : exec .epochClose s = .next ((b.driveStage (s.tsg.seconds - 1) s.summary).closedOn s.summary))
    (drives : s.drives) (selected : s.sde.selected = some n) (good : (s.summary.get n).outcome = .good e label) :
    ∃ g : State, s.GoodDriven n e label b g (b.driveStage (s.tsg.seconds - 1) s.summary) := by
  obtain ⟨g, counted, update⟩ := State.driveStage_good closed drives selected good
  have moves := State.driveStage_moves_of_good (k := s.tsg.seconds - 1) (closed.drives.mpr drives)
    (closed.sde ▸ selected) good
  have mismatch : b.sde.labelMismatch = s.sde.labelMismatch := congrArg Sde.labelMismatch closed.sde
  dsimp only at moves
  rw [if_congr (closed.stepsAt e) rfl rfl, decide_eq_decide.mpr (closed.locksAt e), closed.timeValid, mismatch] at moves
  exact ⟨g, closed, drives, selected, counted, update, moves, next⟩

theorem epochClose_of_good (due : s.closeDue = true) (drives : s.drives) (selected : s.sde.selected = some n)
    (good : (s.summary.get n).outcome = .good e label) : ∃ b g c : State, s.GoodDriven n e label b g c := by
  obtain ⟨b, closed, next⟩ := epochClose_stages due
  obtain ⟨g, driven⟩ := State.goodDriven_of_closed closed next drives selected good
  exact ⟨b, g, _, driven⟩

/-- The driving slot's GOOD epoch, in the summary. -/
theorem State.summary_of_driven (driven : s.drivenBy n) (good : s.closesGood n) :
    (s.summary.get n).outcome = .good (median (s.closingValues n)) (s.closingLabel n) :=
  (State.summary_good_iff s n _ _).mpr ⟨State.drivenBy_open driven, good, rfl, rfl⟩

section
variable (d : s.GoodDriven n e label b g c)
include d

theorem State.GoodDriven.tru : c.tru = s.tru := by
  rw [d.update, State.fullUpdate_tru, d.counted.tru]

theorem State.GoodDriven.valid : g.tsg.timeValid = (s.tsg.timeValid || decide (s.locksAt e)) := by rw [d.counted.tsg]

theorem State.GoodDriven.timeValid : c.tsg.timeValid = (s.tsg.timeValid || decide (s.locksAt e)) := by
  rw [d.update, (State.fullUpdate_flags _ _ _ _ _ _ _).2, d.valid]

theorem State.GoodDriven.mismatch : g.sde.labelMismatch = s.sde.labelMismatch := by rw [d.counted.sde]; rfl

/-- The clock that updates: LOCKED where the update is that of a LOCKED clock (R71). -/
theorem State.GoodDriven.counted_clock : g.sde.clock = if s.updatesLockedAt e then .locked else .acquire := by
  rw [d.counted.sde]
  show (if decide (s.locksAt e) || s.sde.clock == .locked && !decide (s.decidesAt e) then _ else _) = _
  refine if_congr ?_ rfl rfl
  rw [Bool.or_eq_true, Bool.and_eq_true, Bool.not_eq_true', decide_eq_true_iff, decide_eq_false_iff_not, beq_iff_eq]

theorem State.GoodDriven.counted_locked : g.sde.clock = .locked ↔ s.updatesLockedAt e := by
  rw [d.counted_clock]
  split
  next h => exact iff_of_true rfl h
  next h => exact iff_of_false (by decide) h

/-- The SDE's record after the full update. -/
theorem State.GoodDriven.sde :
    c.sde =
      { (g.averaged (usedValue e (decide (s.stepsAt e))) (!s.sde.lockedSinceStart && decide (s.locksAt e))
          (s.summary.get lfSlot)).sde with
        labelMismatch :=
          ruledMismatch (s.tsg.seconds - 1) label (s.tsg.timeValid || decide (s.locksAt e)) s.sde.labelMismatch
        e := min (s.tru.config.eFloor + mag e) eCap, tol := c.sde.tol } := by
  have isSde := State.fullUpdate_sde (s.tsg.seconds - 1) e label (decide (s.stepsAt e))
    (!s.sde.lockedSinceStart && decide (s.locksAt e)) (s.summary.get lfSlot) g
  rw [← d.update, d.valid, d.mismatch, d.counted.tru] at isSde
  exact isSde

theorem State.GoodDriven.clock : c.sde.clock = if s.updatesLockedAt e then .locked else .acquire := by
  rw [d.sde]
  dsimp only
  rw [State.averaged_sde]
  exact d.counted_clock

theorem State.GoodDriven.loops : c.sde.clock = .acquire ∨ c.sde.clock = .locked := by
  rw [d.clock]
  split
  · exact .inr rfl
  · exact .inl rfl

theorem State.GoodDriven.away : c.sde.clock ≠ .holdover := by
  rcases d.loops with h | h <;> rw [h] <;> decide

theorem State.GoodDriven.update_selected : c.sde.selected = some n := by
  rw [d.sde]
  dsimp only
  rw [State.averaged_sde]
  dsimp only
  rw [d.counted.sde]
  exact d.selected

theorem State.GoodDriven.judged : c.Judged := by rw [d.update]; exact (State.fullUpdate_judges _ _ _ _ _ _ _).2.2

/-- The clock and E after the close, where the selection is not lost (R71, R120). -/
theorem State.GoodDriven.kept (kept : (c.closedOn s.summary).sde.selected ≠ none) :
    (c.closedOn s.summary).sde.clock = (if s.updatesLockedAt e then .locked else .acquire) ∧
      (c.closedOn s.summary).sde.e = min (s.tru.config.eFloor + mag e) eCap := by
  refine ⟨(State.closedOn_of_kept d.loops kept).1.trans d.clock, ?_⟩
  rw [(State.closedOn_keepsJudgement d.loops (.inl kept)).e, d.sde]

/-- Every tenant is judged by the new E, from the flags that the counting leaves (R120, R124). -/
theorem State.GoodDriven.judgedFrom (kept : (c.closedOn s.summary).sde.selected ≠ none) :
    s.judgedFrom (c.closedOn s.summary) fun p => g.sde.tol.get p := by
  obtain ⟨tol, files, -⟩ := State.fullUpdate_judges (s.tsg.seconds - 1) e label (decide (s.stepsAt e))
    (!s.sde.lockedSinceStart && decide (s.locksAt e)) (s.summary.get lfSlot) g
  rw [← d.update, d.counted.tru] at tol files
  obtain ⟨ytsg, yrmu, ytru, ynu, -⟩ := State.averaged_frame (usedValue e (decide (s.stepsAt e)))
    (!s.sde.lockedSinceStart && decide (s.locksAt e)) (s.summary.get lfSlot) g
  have ysde := State.averaged_sde (usedValue e (decide (s.stepsAt e)))
    (!s.sde.lockedSinceStart && decide (s.locksAt e)) (s.summary.get lfSlot) g
  generalize g.averaged (usedValue e (decide (s.stepsAt e))) (!s.sde.lockedSinceStart && decide (s.locksAt e))
    (s.summary.get lfSlot) = y at tol files ytsg yrmu ytru ynu ysde
  have keeps := State.closedOn_keepsJudgement (items := s.summary) d.loops (.inl kept)
  obtain ⟨tsg, -, tru, -⟩ := State.closedOn_frame s.summary c
  refine State.judgedFrom_of_judgeAll (fits₀ := fun _ => False)
    (a := { y with sde := { y.sde with e := min (s.tru.config.eFloor + mag e) eCap } })
    (congrArg Tru.tenants (ytru.trans d.counted.tru)) (congrArg Tru.tenants (tru.trans d.tru)) ?_ (d.kept kept).2
    (keeps.tol.trans tol) (fun p _ => ?_) (fun p => ?_) fun p r kind => ?_
  · have valid : c.tsg.timeValid = g.tsg.timeValid := d.timeValid.trans d.valid.symm
    rw [tsg]
    show c.tsg.timeValid = y.tsg.timeValid
    rw [valid, ytsg]
  · show y.sde.tol.get p = _
    rw [ysde]
  · show TenantNotices.Retains _ _ (y.nu.get p)
    rw [ynu]
    exact (d.closed.files p).before.trans (d.counted.files p).before
  · exact ((files p).keeps (by simp; omega)).trans ((keeps.files p).keeps (by simp; omega))

/-- Judged once, where the clock does not enter LOCKED. -/
theorem State.GoodDriven.judgedIn (noLock : ¬s.locksAt e) (kept : (c.closedOn s.summary).sde.selected ≠ none) :
    s.judgedIn (c.closedOn s.summary) := by
  have judged := d.judgedFrom kept
  rw [(d.counted.quiet noLock).tol, d.closed.sde] at judged
  exact judged

/-- The seconds count before a set is read from the closed slots' site time: the counting leaves it. -/
theorem State.GoodDriven.left (step : Option Int) : (g.tsg.afterStep step).seconds = (b.tsg.afterStep step).seconds := by
  rw [d.counted.tsg]
  exact (congrArg Tsg.seconds (Tsg.afterStep_flags b.tsg b.tsg.fApp _ _) :)

/-- The learning store after the close, where no seconds set is ordered. -/
theorem State.GoodDriven.ols_of_keeps
    (keeps : setFrom (s.tsg.seconds - 1) label (s.tsg.timeValid || decide (s.locksAt e)) s.sde.labelMismatch = none) :
    (c.closedOn s.summary).ols =
      (g.averaged (usedValue e (decide (s.stepsAt e))) (!s.sde.lockedSinceStart && decide (s.locksAt e))
        (s.summary.get lfSlot)).ols := by
  rw [(State.closedOn_frame s.summary c).2.1, d.update,
    State.fullUpdate_ols_of_keeps (by rw [d.valid, d.mismatch]; exact keeps)]

/-- The learning store after the close, where a seconds set is ordered (R96). -/
theorem State.GoodDriven.ols_of_sets {l : Seconds}
    (sets : setFrom (s.tsg.seconds - 1) label (s.tsg.timeValid || decide (s.locksAt e)) s.sde.labelMismatch = some l) :
    let left := (b.tsg.afterStep (if decide (s.stepsAt e) then some (limitStep e) else none)).seconds
    (c.closedOn s.summary).ols =
      (g.averaged (usedValue e (decide (s.stepsAt e))) (!s.sde.lockedSinceStart && decide (s.locksAt e))
        (s.summary.get lfSlot)).ols.daySet left (l + (left - (s.tsg.seconds - 1))) := by
  have isOls := State.fullUpdate_ols_of_sets (s := g) (k := s.tsg.seconds - 1) (e := e) (label := label)
    (stepped := decide (s.stepsAt e)) (first := !s.sde.lockedSinceStart && decide (s.locksAt e))
    (lf := s.summary.get lfSlot) (by rw [d.valid, d.mismatch]; exact sets)
  rw [d.left, ← d.update, ← (State.closedOn_frame s.summary c).2.1] at isOls
  exact isOls

/-- A step that the epoch orders is told to every attached tenant, and latched (R64). -/
theorem State.GoodDriven.tells_step (steps : s.stepsAt e) {p : Port} (inn : s.attached p = true) :
    s.told (c.closedOn s.summary) p (.phaseStep (limitStep e)) ∧
      ((c.closedOn s.summary).nu.get p).latches.stepped = true := by
  obtain ⟨told, latched⟩ := d.counted.told steps p inn
  have updated := State.fullUpdate_files (s.tsg.seconds - 1) e label (decide (s.stepsAt e))
    (!s.sde.lockedSinceStart && decide (s.locksAt e)) (s.summary.get lfSlot) g
  rw [← d.update] at updated
  have after := ((updated.mono (by decide)).trans ((State.closedOn_files s.summary c).mono (by decide)) :
    g.Files [0, 1, 2, 3, 7] _) p
  exact ⟨State.told_of_tells (by simp [Report.kind]) ((TenantNotices.Tells.earlier (d.closed.files p).before told).later
    (after.keeps (by simp [Report.kind]))), after.stepped latched⟩

/-- A seconds set that the label orders is told to every attached tenant, and latched (R64, R67). -/
theorem State.GoodDriven.tells_set {l : Seconds}
    (sets : setFrom (s.tsg.seconds - 1) label (s.tsg.timeValid || decide (s.locksAt e)) s.sde.labelMismatch = some l)
    {p : Port} (inn : s.attached p = true) :
    let left := (b.tsg.afterStep (if decide (s.stepsAt e) then some (limitStep e) else none)).seconds
    s.told (c.closedOn s.summary) p (.secondsSet (l + (left - (s.tsg.seconds - 1)))) ∧
      ((c.closedOn s.summary).nu.get p).latches.stepped = true := by
  have inn' : g.attached p = true := by
    rw [← inn]; exact State.attached_congr (congrArg Tru.tenants d.counted.tru) p
  have tells := State.fullUpdate_tells_set (s := g) (k := s.tsg.seconds - 1) (e := e) (label := label)
    (stepped := decide (s.stepsAt e)) (first := !s.sde.lockedSinceStart && decide (s.locksAt e))
    (lf := s.summary.get lfSlot) (by rw [d.valid, d.mismatch]; exact sets) inn'
  rw [← d.update, d.left] at tells
  have before : s.Files [0, 1, 2, 4, 5, 6] g :=
    (d.closed.files.mono (by decide)).trans (d.counted.files.mono (by decide))
  have after := State.closedOn_files s.summary c p
  dsimp only at tells ⊢
  exact ⟨State.told_of_tells (by simp [Report.kind]) ((TenantNotices.Tells.earlier (before p).before tells.1).later
    (after.keeps (by simp [Report.kind]))), after.stepped tells.2⟩

end

/-! ## The update that a step leaves -/

/-- A stepped update forms nothing from e: the integral stands, and the proportional term is 0 (R76). -/
theorem State.integral_zero (low : -corrLimit ≤ s.sde.fInt) (high : s.sde.fInt ≤ corrLimit) : s.integral 0 = s.sde.fInt := by
  unfold State.integral
  rw [roundDiv_zero_left, Int.add_zero]
  unfold clampCorr clampAbs clampTo
  omega

theorem State.proportional_zero (h : 0 ≤ s.tru.policy.sRes) : s.proportional 0 = 0 := by
  unfold State.proportional
  rw [roundDiv_zero_left]
  unfold clampAbs clampTo
  omega

/-- A label that sets, after a step that leaves the seconds count at `left` (R67). -/
theorem lastClosed_after_set (k left : Seconds) (set : Option Seconds) :
    k + (set.map fun v => v - left).getD 0 = k + (set.getD left - left) := by
  cases set with
  | none => simp
  | some v => rfl

/-- A step ordered finds the clock not entering LOCKED. -/
theorem State.not_locksAt_of_steps (h : s.stepsAt e) : ¬s.locksAt e := by
  rintro ⟨within, ⟨-, -, noStep⟩ | bridge⟩
  · exact noStep h
  · rcases h.1 with acquire | ⟨beyond, -⟩
    · rw [bridge] at acquire; cases acquire
    · exact absurd within (Int.not_le.mpr beyond)

theorem State.drives_of_decides (h : s.decidesAt e) : s.drives := by
  rcases h with acquire | ⟨-, ⟨locked, -⟩ | bridge⟩
  · exact .inl acquire
  · exact .inr (.inl locked)
  · exact .inr (.inr bridge)

/-- Site time, as the close begins, after a limited step. -/
theorem State.afterStep_of_close (closed : s.SlotsClosed b) (range : s.timeInRange) (before : s.tsg.phase ≤ 250000000000)
    (e : Int) :
    let at250 := (s.advanceToPhase 250000000000).tsg.phase
    let a := b.tsg.afterStep (some (limitStep e))
    (a.phase : Int) = (at250 + limitStep e) % 1000000000000 ∧
      a.reRun = (s.tsg.reRun || decide ((at250 : Int) + limitStep e < 0)) ∧
      a.seconds = if (at250 : Int) + limitStep e < 0 then s.tsg.seconds - 1 else s.tsg.seconds := by
  dsimp only
  have phase : b.tsg.phase = (s.advanceToPhase 250000000000).tsg.phase := closed.phase
  have bound : b.tsg.phase < 250000100000 := by rw [closed.phase]; exact State.closePhase_bound range before
  obtain ⟨p, r, q⟩ := Tsg.step_of_close bound (limitStep_bounds e).1 (limitStep_bounds e).2
  have reRun : b.tsg.reRun = s.tsg.reRun := by rw [closed.tsg]
  have seconds : b.tsg.seconds = s.tsg.seconds := by rw [closed.tsg]
  rw [phase] at p r q
  rw [reRun] at r
  rw [seconds] at q
  exact ⟨p, r, q⟩

end

end Sys2Proof.Machine
end

section
/-!
PROOFS. The phase step that a GOOD epoch of the driving slot orders (O29).
-/

namespace Sys2Proof.Machine

/-- Settles O29: the update without e, the step applied to the closed slots and to site time, then the label's set. -/
theorem stepDecisionAndStepNowStep : Obligations.StepDecisionAndStepNowStep := by
  intro s n e driven good steps range before
  dsimp only
  obtain ⟨b, g, c, d⟩ := epochClose_of_good (State.drivenBy_due driven) (State.drives_of_decides steps.1)
    (State.drivenBy_selected driven) (State.summary_of_driven driven good)
  change s.GoodDriven n e (s.closingLabel n) b g c at d
  have noLock := State.not_locksAt_of_steps steps
  have notLocked : ¬s.updatesLockedAt e := fun h => h.elim noLock fun h => h.2 steps.1
  have moves := d.moves
  dsimp only at moves
  rw [if_pos steps, decide_eq_false noLock, Bool.or_false, ← State.settingLabel_eq] at moves
  have counted := d.counted.sde
  rw [decide_eq_true steps, decide_eq_true steps.1, decide_eq_false noLock] at counted
  have gclock : g.sde.clock ≠ .locked := fun h => notLocked (d.counted_locked.mp h)
  have csde := d.sde
  rw [decide_eq_true steps, decide_eq_false noLock, State.averaged_of_acquire gclock, Bool.or_false] at csde
  have gfInt : g.sde.fInt = s.sde.fInt := by rw [counted]; rfl
  obtain ⟨-, low, high, -⟩ := range.sde
  obtain ⟨-, -, -, -, sRes, -⟩ := range.tru
  have integral : g.integral 0 = s.sde.fInt := by
    rw [State.integral_zero (by rw [gfInt]; exact low) (by rw [gfInt]; exact high), gfInt]
  have proportional : g.proportional 0 = 0 := State.proportional_zero (by rw [d.counted.tru]; omega)
  have fixed : clampCorr s.sde.fInt = s.sde.fInt := by
    unfold clampCorr clampAbs clampTo; omega
  have whole : c.sde =
      { s.sde.afterGood true true false (decide (s.within e)) with
        labelMismatch := c.sde.labelMismatch, e := min (s.tru.config.eFloor + mag e) eCap, tol := c.sde.tol } := by
    rw [csde]
    dsimp only [State.withSde_sde, usedValue]
    rw [if_pos rfl, integral, counted]
    rfl
  have clock : c.sde.clock = .acquire := by rw [d.clock, if_neg notLocked]
  obtain ⟨phase, reRun, seconds⟩ := State.afterStep_of_close d.closed range.1 before e
  have fApp : c.tsg.fApp = s.sde.fInt := by
    rw [d.update, (State.fullUpdate_flags _ _ _ _ _ _ _).1, decide_eq_true steps, usedValue, if_pos rfl, integral,
      proportional, Int.add_zero, fixed]
  obtain ⟨lastClosed, -, -, lfVoid, -⟩ := State.closedOn_rest d.closed moves d.tru
  obtain ⟨f1, f2, f3, f4, f5, f6, f7, -⟩ := State.closedOn_sde d.away s.summary
  obtain ⟨count, loss, now⟩ := State.closedOn_zeros d.away s.summary
  obtain ⟨tsg, ols, -⟩ := State.closedOn_frame s.summary c
  have heldMoved := State.heldMoved_of_moves d.closed moves d.tru
  have ols (l : Option Seconds) (is : s.settingLabel n s.tsg.timeValid = l) :
      (c.closedOn s.summary).ols =
        l.elim s.ols fun l => s.ols.daySet (b.tsg.afterStep (some (limitStep e))).seconds
          (l + ((b.tsg.afterStep (some (limitStep e))).seconds - (s.tsg.seconds - 1))) := by
    rw [State.settingLabel_eq] at is
    have setting : setFrom (s.tsg.seconds - 1) (s.closingLabel n) (s.tsg.timeValid || decide (s.locksAt e))
        s.sde.labelMismatch = l := by rw [decide_eq_false noLock, Bool.or_false, is]
    cases l with
    | none => rw [d.ols_of_keeps setting, State.averaged_of_acquire gclock]; exact d.counted.ols
    | some l =>
      have isOls := d.ols_of_sets setting
      dsimp only at isOls
      rw [if_pos (decide_eq_true steps), State.averaged_of_acquire gclock] at isOls
      rw [isOls]
      exact congrArg (fun o : Ols => o.daySet _ _) d.counted.ols
  have limit : max (-499999999999) (min 499999999999 e) = limitStep e := rfl
  rw [limit]
  refine ⟨c.closedOn s.summary, d.next, ?_, ?_, by rw [f1, whole]; rfl, ?_, count (by rw [whole]; rfl),
    loss (by rw [whole]; rfl), now (by rw [whole]; rfl), fun is => ?_, fun kept => ⟨?_, (d.kept kept).2, d.judgedIn noLock kept⟩,
    by rw [f2, whole]; rfl, by rw [f3, whole]; rfl, by rw [f4, whole]; rfl, by rw [f5, whole]; rfl, by rw [f6, whole]; rfl,
    by rw [f7, whole]; rfl, by rw [lfVoid]; simp,
    fun p inn => ⟨(d.tells_step steps inn).2, (d.tells_step steps inn).1⟩, ?_, ?_, ?_, fun v is p inn => ?_, heldMoved⟩
  · rw [tsg]; exact (congrArg Nat.cast moves.phase).trans phase
  · rw [tsg]; exact moves.reRun.trans reRun
  · rw [State.closedOn_fApp, clock, if_neg (fun h => (by cases h.1)), fApp]
  · have same : c.choice s.summary = c.sde.selected := by
      rw [d.update_selected, ← is, State.closedOn_selected]
    rw [(State.closedOn_of_same d.away same).1]
    dsimp only
    rw [whole]
    rfl
  · rw [(d.kept kept).1, if_neg notLocked]
  · rw [tsg]
    show c.tsg.seconds = _
    rw [moves.seconds, seconds]
  · rw [lastClosed, renumbering, lastClosed_after_set, seconds]
  · cases is : s.settingLabel n s.tsg.timeValid with
    | none => rw [ols _ is, Option.map_none, Option.getD_none, if_pos rfl]; rfl
    | some l => rw [ols _ is, seconds]; rfl
  · obtain ⟨l, isLabel, rfl⟩ := Option.map_eq_some_iff.mp is
    have tells := (d.tells_set (l := l) (by
      rw [decide_eq_false noLock, Bool.or_false, ← State.settingLabel_eq]; exact isLabel) inn).1
    rw [if_pos (decide_eq_true steps), seconds] at tells
    exact tells

end Sys2Proof.Machine
end

section
/-!
PROOFS. The values that a GOOD epoch of the driving slot leaves where it orders no step: the averages, LF tracking, the judgements
and the mismatch count (R53 to R59, R65 to R67, R71 to R84, R92, R124).
-/

namespace Sys2Proof.Machine

section
variable {s b c g : State} {n : SlotId} {e : Int} {label : Option Seconds} {p : Port}

/-! ## Rounding, and the rule of the label -/

/-- The residual filter stays below half a second (R80). -/
theorem residual_bound {r m : Int} (lowM : 0 ≤ m) (highM : m ≤ 500000000000) (low : 0 ≤ r) (high : r ≤ 499999999999) :
    0 ≤ r + roundDiv (m - r) 16 ∧ r + roundDiv (m - r) 16 ≤ 499999999999 := by
  unfold roundDiv
  dsimp only
  split <;> omega

theorem ruledMismatch_eq (k : Seconds) (label : Option Seconds) (valid : Bool) (mismatch : Nat) :
    ruledMismatch k label valid mismatch =
      if label = none ∨ valid = false then mismatch
      else if label = some k ∨ 2 ≤ mismatch then 0
      else mismatch + 1 := by
  cases label with
  | none => rw [if_pos (.inl rfl)]; rfl
  | some l =>
    cases valid with
    | false => rw [if_pos (.inr rfl)]; rfl
    | true =>
      rw [if_neg (by rintro (h | h) <;> cases h), if_congr (or_congr_left (Option.some_inj (a := l) (b := k))) rfl rfl]
      rfl

/-! ## The LF item -/

/-- The LF slot shows OFF at the close: it is OFF, or its halt ends with the slot not enabled (R41, R84). -/
abbrev State.lfShowsOff (s : State) : Prop :=
  (s.rmu.slots.get 2).state = .off ∨
    (s.rmu.slots.get 2).state = .halting ∧ (s.tru.config.slots.get 2).enable = false

/-- An LF slot that takes an outcome shows OFF where its halt ends with the slot not enabled. -/
theorem State.summary_lf_off
    (opened : ¬((s.rmu.slots.get 2).state = .off ∨ (s.rmu.slots.get 2).state = .disqualified)) :
    (s.summary.get lfSlot).state = .off ↔ s.lfShowsOff := by
  have lf : s.summary.get lfSlot = (s.closing.get 2).item := State.summary_get s 2
  rw [lf, State.closing_get, Slot.close_item_state, Slot.close_state, if_neg opened]
  have notOff := fun h => opened (.inl h)
  by_cases halting : (s.rmu.slots.get 2).state = .halting
  · rw [if_pos halting]
    cases enable : (s.tru.config.slots.get 2).enable with
    | true => exact iff_of_false (by decide) fun h => h.elim notOff fun h => absurd (enable.symm.trans h.2) (by decide)
    | false => exact iff_of_true rfl (.inr ⟨halting, enable⟩)
  · rw [if_neg halting]
    refine iff_of_false (fun off => ?_) fun h => h.elim notOff fun h => halting h.1
    split at off
    · cases off
    · rcases (s.rmu.slots.get 2).taken_state (s.tsg.seconds - 1) with same | ⟨-, usable⟩
      · exact notOff (same.symm.trans off)
      · rw [usable] at off; cases off

/-- The LF item feeds the tracking: GOOD, of a slot that is neither DISQUALIFIED nor shows OFF (R83). -/
theorem State.summary_feeds_iff (s : State) (f : Int) :
    (s.summary.get lfSlot).feeds f ↔
      ((s.rmu.slots.get 2).state ≠ .disqualified ∧ ¬s.lfShowsOff ∧ s.closesGood 2) ∧ f = median (s.closingValues 2) := by
  unfold SlotItem.feeds
  refine ⟨fun ⟨on, l, good⟩ => ?_, fun ⟨⟨able, on, good⟩, value⟩ => ?_⟩
  · obtain ⟨opened, closes, value, -⟩ := (State.summary_good_iff s 2 f l).mp good
    exact ⟨⟨fun h => opened (.inr h), fun h => on ((State.summary_lf_off opened).mpr h), closes⟩, value⟩
  · have opened : ¬((s.rmu.slots.get 2).state = .off ∨ (s.rmu.slots.get 2).state = .disqualified) :=
      fun h => h.elim (fun off => on (.inl off)) able
    exact ⟨fun off => on ((State.summary_lf_off opened).mp off), s.closingLabel 2,
      (State.summary_good_iff s 2 f _).mpr ⟨opened, good, value, rfl⟩⟩

/-! ## The clock after the close -/

/-- The clock enters BRIDGE at a close from LOCKED alone (R56). -/
theorem State.closedOn_bridge {items : Six SlotItem} (loops : c.sde.clock = .acquire ∨ c.sde.clock = .locked)
    (bridge : (c.closedOn items).sde.clock = .bridge) : c.sde.clock = .locked := by
  refine loops.resolve_left fun acquire => ?_
  by_cases kept : (c.closedOn items).sde.selected = none
  · rw [(State.closedOn_eq items c).1] at bridge
    have clock : (c.chosen items).sde.clock = .acquire := (State.chosen_clock items c).trans acquire
    rw [State.closedOn_selected] at kept
    by_cases same : c.choice items = c.sde.selected
    · rw [State.followStage_of_same (by rw [clock]; decide) ((State.chosen_selected items c).trans same), clock] at bridge
      cases bridge
    · rw [State.followStage_of_lost_acquire clock (by rw [State.chosen_selected]; exact same)
        (by rw [State.chosen_selected]; exact kept)] at bridge
      split at bridge
      · rw [State.enterHoldover_sde (by rw [clock]; decide)] at bridge; cases bridge
      · rw [State.enterFreerun_sde (by rw [clock]; decide)] at bridge; cases bridge
  · rw [(State.closedOn_of_kept loops kept).1, acquire] at bridge
    cases bridge

/-! ## A judgement that a second one follows -/

/-- A judgement keeps a tolerance notice that says the flag as it finds it. -/
theorem State.judgedNotices_keeps_own {r : Report} (own : r.kind = if s.sde.tol.get p then 1 else 0) :
    (s.nu.get p).Retains (fun x => x = r) (s.judgedNotices p) := by
  unfold State.judgedNotices
  split
  next changes =>
    refine TenantNotices.file_retains (ignores_eq r (kinds := [(tolReport (s.toleranceOf p) s.sde.e).kind]) ?_ _ ?_) _
    · rw [List.mem_singleton, own, tolReport_kind]
      have differ := changes.2
      revert differ
      cases s.toleranceOf p <;> cases s.sde.tol.get p <;> decide
    · exact List.mem_singleton.mpr rfl
  · exact .refl _ _

theorem State.setE_keeps_own {r : Report} (own : r.kind = if s.sde.tol.get p then 1 else 0) (x : Int) :
    (s.nu.get p).Retains (fun x => x = r) ((s.setE x).nu.get p) :=
  (State.judgedNotices_keeps_own (s := { s with sde := { s.sde with e := min x eCap } }) own).trans
    ((State.judgeAll_nu p _).retains _)

/-! ## What the counting of a GOOD epoch leaves -/

section
variable (d : s.GoodDriven n e label b g c)
include d

theorem State.GoodDriven.integral (x : Int) : g.integral x = s.integral x := by
  have fInt : g.sde.fInt = s.sde.fInt := by rw [d.counted.sde]; rfl
  unfold State.integral
  rw [fInt, d.counted.tru]

theorem State.GoodDriven.proportional (x : Int) : g.proportional x = s.proportional x := by
  unfold State.proportional
  rw [d.counted.tru]

theorem State.GoodDriven.tracksAfresh : g.tracksAfresh ↔ s.tracksAfresh := by
  have nominal : g.rmu.lfNominal = s.rmu.lfNominal := by rw [d.counted.rmu, d.closed.rmu]; rfl
  unfold State.tracksAfresh
  rw [nominal, d.counted.sde]
  rfl

/-- A tolerance notice that says the flag as the counting leaves it stands to the end of the close. -/
theorem State.GoodDriven.keeps_own (kept : (c.closedOn s.summary).sde.selected ≠ none) {r : Report}
    (own : r.kind = if g.sde.tol.get p then 1 else 0) :
    (g.nu.get p).Retains (fun x => x = r) ((c.closedOn s.summary).nu.get p) := by
  have low : r.kind ≤ 1 := by rw [own]; split <;> decide
  obtain ⟨-, files, -⟩ := State.fullUpdate_judges (s.tsg.seconds - 1) e label (decide (s.stepsAt e))
    (!s.sde.lockedSinceStart && decide (s.locksAt e)) (s.summary.get lfSlot) g
  rw [← d.update] at files
  obtain ⟨-, -, -, ynu, -⟩ := State.averaged_frame (usedValue e (decide (s.stepsAt e)))
    (!s.sde.lockedSinceStart && decide (s.locksAt e)) (s.summary.get lfSlot) g
  have ysde := State.averaged_sde (usedValue e (decide (s.stepsAt e)))
    (!s.sde.lockedSinceStart && decide (s.locksAt e)) (s.summary.get lfSlot) g
  generalize g.averaged (usedValue e (decide (s.stepsAt e))) (!s.sde.lockedSinceStart && decide (s.locksAt e))
    (s.summary.get lfSlot) = y at files ynu ysde
  have again := State.setE_keeps_own (s := y) (p := p) (by rw [ysde]; exact own) (g.tru.config.eFloor + mag e)
  rw [ynu] at again
  have last := (State.closedOn_keepsJudgement (items := s.summary) d.loops (.inl kept)).files p
  exact (again.trans ((files p).keeps (by simp; omega))).trans (last.keeps (by simp; omega))

/-- The judgements where the clock enters LOCKED: at time valid with the E found, then at the new E (R14, R124). -/
theorem State.GoodDriven.judgedTwiceIn (locks : s.locksAt e) (kept : (c.closedOn s.summary).sde.selected ≠ none) :
    s.judgedTwiceIn (c.closedOn s.summary) := by
  obtain ⟨m, isG, quiet, valid⟩ := d.counted.judged locks
  have mtru : m.tru = s.tru := quiet.tru.trans d.closed.tru
  have attachedIn {q : Port} (inn : (c.closedOn s.summary).attached q = true) : m.attached q = true := by
    rw [← inn]
    exact State.attached_congr (congrArg Tru.tenants
      (mtru.trans (((State.closedOn_frame s.summary c).2.2.1.trans d.tru).symm))) q
  have me : m.sde.e = s.sde.e := quiet.e.trans (congrArg Sde.e d.closed.sde)
  have flag {q : Port} (inn : (c.closedOn s.summary).attached q = true) :
      m.toleranceOf q = decide (s.sde.e ≤ (s.tru.tenants.get q).adv.limit) := by
    rw [State.toleranceOf_of_attached (attachedIn inn), valid, Bool.true_and, me, mtru]
  have first {q : Port} (inn : (c.closedOn s.summary).attached q = true) :
      g.sde.tol.get q = decide (s.sde.e ≤ (s.tru.tenants.get q).adv.limit) := by
    rw [isG, State.judgeAll_tol, if_pos (attachedIn inn), flag inn]
  refine ⟨fun q inn => ?_, fun q inn changed => ?_⟩
  · obtain ⟨isFlag, told⟩ := d.judgedFrom kept q inn
    dsimp only at told ⊢
    rw [first inn] at told
    exact ⟨isFlag, told⟩
  · have changes : m.flagChanges q := ⟨attachedIn inn, by
      rw [flag inn, quiet.tol, d.closed.sde]; exact changed⟩
    have filed : m.judgedNotices q =
        (m.nu.get q).file (tolReport (decide (s.sde.e ≤ (s.tru.tenants.get q).adv.limit)) s.sde.e) := by
      rw [State.judgedNotices, if_pos changes, flag inn, me]
    show s.told _ q (tolReport (decide (s.sde.e ≤ (s.tru.tenants.get q).adv.limit)) s.sde.e)
    have kind := tolReport_kind (decide (s.sde.e ≤ (s.tru.tenants.get q).adv.limit)) s.sde.e
    generalize tolReport (decide (s.sde.e ≤ (s.tru.tenants.get q).adv.limit)) s.sde.e = r at filed kind
    have low : r.kind ≤ 1 := by rw [kind]; split <;> decide
    rw [← first inn] at kind
    have judged : ((m.nu.get q).file r).Retains (fun x => x = r) (g.nu.get q) := by
      rw [isG, ← filed]; exact (State.judgeAll_nu q m).retains _
    exact State.told_of_file (fits₀ := fun _ => False) (by simp; omega)
      ((d.closed.files q).before.trans (quiet.files q).before) (judged.trans (d.keeps_own kept kind))

/-- The mismatch count after the close: as the label's rule leaves it, or 0 where the selection moves (R51, R66). -/
theorem State.GoodDriven.labelMismatch :
    ((c.closedOn s.summary).sde.selected = s.sde.selected →
      (c.closedOn s.summary).sde.labelMismatch =
        ruledMismatch (s.tsg.seconds - 1) label (s.tsg.timeValid || decide (s.locksAt e)) s.sde.labelMismatch) ∧
      ((c.closedOn s.summary).sde.selected ≠ s.sde.selected → (c.closedOn s.summary).sde.labelMismatch = 0) := by
  have choice : (c.closedOn s.summary).sde.selected = c.choice s.summary := State.closedOn_selected s.summary c
  have before : c.sde.selected = s.sde.selected := d.update_selected.trans d.selected.symm
  rw [choice, ← before]
  refine ⟨fun same => ?_, fun moved => ?_⟩
  · rw [(State.closedOn_of_same d.away same).1]
    dsimp only
    rw [d.sde]
  · obtain ⟨-, -, -, -, -, -, -, -, -, -, mismatch, -⟩ := State.closedOn_sde d.away s.summary
    rw [mismatch, State.chosen_of_moved moved]

end

end

end Sys2Proof.Machine
end

section
/-!
PROOFS. The averages, LF tracking, F_app and the learning store after a GOOD epoch of the driving slot that orders no step (R56,
R71 to R84, R92).
-/

namespace Sys2Proof.Machine

section
variable {s b c g : State} {n : SlotId} {e : Int} {label : Option Seconds}

/-! ## The averages after the close -/

theorem usedValue_of_stays (e : Int) : usedValue e false = e := rfl

section
variable (d : s.GoodDriven n e label b g c)
include d

/-- What the averages and the tracking hold after the close, from the update of the SDE's record. -/
theorem State.GoodDriven.closed_averages (noStep : ¬s.stepsAt e) :
    let y := g.averaged e (!s.sde.lockedSinceStart && decide (s.locksAt e)) (s.summary.get lfSlot)
    let t := c.closedOn s.summary
    t.sde.fInt = s.integral e ∧ t.sde.residual = y.sde.residual ∧ t.sde.fAvg = y.sde.fAvg ∧
      t.sde.fAvgBin = y.sde.fAvgBin ∧ t.sde.bias = y.sde.bias ∧ t.sde.wander = y.sde.wander ∧
      t.sde.lfCount = y.sde.lfCount ∧ t.sde.lfBasis = y.sde.lfBasis ∧
      t.sde.lfRestart = (y.sde.lfRestart ||
        decide ((s.rmu.slots.get 2).state = .off ∨ (s.rmu.slots.get 2).state = .halting)) := by
  dsimp only
  have csde := d.sde
  rw [decide_eq_false noStep, usedValue_of_stays] at csde
  have fInt := congrArg Sde.fInt
    (State.averaged_sde e (!s.sde.lockedSinceStart && decide (s.locksAt e)) (s.summary.get lfSlot) g)
  dsimp only at fInt
  rw [d.integral] at fInt
  obtain ⟨f1, f2, f3, f4, f5, f6, f7, f8, f9, -⟩ := State.closedOn_sde d.away s.summary
  rw [restartAfter_summary] at f9
  rw [f1, f2, f3, f4, f5, f6, f7, f8, f9, csde]
  exact ⟨fInt, rfl, rfl, rfl, rfl, rfl, rfl, rfl, rfl⟩

/-- The averages of an update in LOCKED (R80, R81). -/
theorem State.GoodDriven.averages_of_locked (noStep : ¬s.stepsAt e) (locked : s.updatesLockedAt e) :
    let t := c.closedOn s.summary
    t.sde.residual = s.sde.residual + roundDiv (mag e - s.sde.residual) 16 ∧
      t.sde.fAvg =
        (if s.locksAt e ∧ s.sde.lockedSinceStart = false then s.integral e
        else s.sde.fAvg + roundDiv (s.integral e - s.sde.fAvg) 64) ∧
      t.sde.fAvgBin = s.currentBin := by
  obtain ⟨-, residual, fAvg, fAvgBin, -⟩ := d.closed_averages noStep
  obtain ⟨residual', fAvg', fAvgBin', -⟩ := State.averaged_locked_values (d.counted_locked.mpr locked) e
    (!s.sde.lockedSinceStart && decide (s.locksAt e)) (s.summary.get lfSlot)
  have found : g.sde.residual = s.sde.residual ∧ g.sde.fAvg = s.sde.fAvg := by rw [d.counted.sde]; exact ⟨rfl, rfl⟩
  have first : (!s.sde.lockedSinceStart && decide (s.locksAt e)) = true ↔
      s.locksAt e ∧ s.sde.lockedSinceStart = false := by
    rw [Bool.and_eq_true, Bool.not_eq_true', decide_eq_true_iff, and_comm]
  dsimp only
  rw [residual, fAvg, fAvgBin, residual', fAvg', fAvgBin', found.1, found.2, d.integral, if_congr first rfl rfl,
    State.currentBin_congr d.counted.ols]
  exact ⟨rfl, rfl, rfl⟩

/-- In ACQUIRE the averages and the tracking stay (R71). -/
theorem State.GoodDriven.averages_of_acquire (noStep : ¬s.stepsAt e) (away : ¬s.updatesLockedAt e) :
    let t := c.closedOn s.summary
    t.sde.residual = s.sde.residual ∧ t.sde.fAvg = s.sde.fAvg ∧ t.sde.fAvgBin = s.sde.fAvgBin ∧
      t.sde.bias = s.sde.bias ∧ t.sde.wander = s.sde.wander ∧ t.sde.lfCount = s.sde.lfCount ∧
      t.sde.lfBasis = s.sde.lfBasis ∧
      t.sde.lfRestart = (s.sde.lfRestart ||
        decide ((s.rmu.slots.get 2).state = .off ∨ (s.rmu.slots.get 2).state = .halting)) := by
  have closed := (d.closed_averages noStep).2
  dsimp only at closed ⊢
  rw [State.averaged_of_acquire fun h => away (d.counted_locked.mp h), d.counted.sde] at closed
  exact closed

/-- LF tracking in LOCKED (R83, R84). -/
theorem State.GoodDriven.tracking_of_locked (noStep : ¬s.stepsAt e) (locked : s.updatesLockedAt e) :
    let t := c.closedOn s.summary
    let ends := decide ((s.rmu.slots.get 2).state = .off ∨ (s.rmu.slots.get 2).state = .halting)
    (∀ f, (s.summary.get lfSlot).feeds f → s.tracksAfresh →
      t.sde.bias = f ∧ t.sde.wander = 0 ∧ t.sde.lfCount = 1 ∧ t.sde.lfBasis = s.rmu.lfNominal ∧
        t.sde.lfRestart = (false || ends)) ∧
      (∀ f, (s.summary.get lfSlot).feeds f → ¬s.tracksAfresh →
        t.sde.bias = s.sde.bias + roundDiv (f - s.sde.bias) 64 ∧
          t.sde.wander = s.sde.wander +
            roundDiv (mag (f - (s.sde.bias + roundDiv (f - s.sde.bias) 64)) - s.sde.wander) 64 ∧
          t.sde.lfCount = min 600 (s.sde.lfCount + 1) ∧ t.sde.lfBasis = s.sde.lfBasis ∧
          t.sde.lfRestart = (s.sde.lfRestart || ends)) ∧
      ((¬∃ f, (s.summary.get lfSlot).feeds f) →
        t.sde.bias = s.sde.bias ∧ t.sde.wander = s.sde.wander ∧ t.sde.lfCount = s.sde.lfCount ∧
          t.sde.lfBasis = s.sde.lfBasis ∧ t.sde.lfRestart = (s.sde.lfRestart || ends)) := by
  obtain ⟨-, -, -, -, bias, wander, lfCount, lfBasis, lfRestart⟩ := d.closed_averages noStep
  obtain ⟨new, going, idle⟩ := State.averaged_locked_tracking (d.counted_locked.mpr locked) e
    (!s.sde.lockedSinceStart && decide (s.locksAt e)) (s.summary.get lfSlot)
  have found : g.sde.bias = s.sde.bias ∧ g.sde.wander = s.sde.wander ∧ g.sde.lfCount = s.sde.lfCount ∧
      g.sde.lfBasis = s.sde.lfBasis ∧ g.sde.lfRestart = s.sde.lfRestart := by
    rw [d.counted.sde]; exact ⟨rfl, rfl, rfl, rfl, rfl⟩
  have nominal : g.rmu.lfNominal = s.rmu.lfNominal := by rw [d.counted.rmu, d.closed.rmu]; rfl
  obtain ⟨b', w', n', l', r'⟩ := found
  rw [b', w', n', l', r'] at going
  rw [b', w', n', l', r'] at idle
  rw [nominal] at new
  dsimp only
  rw [bias, wander, lfCount, lfBasis, lfRestart]
  refine ⟨fun f feeds afresh => ?_, fun f feeds stays => ?_, fun none => ?_⟩
  · obtain ⟨h1, h2, h3, h4, h5⟩ := new f feeds (d.tracksAfresh.mpr afresh)
    exact ⟨h1, h2, h3, h4, by rw [h5]⟩
  · obtain ⟨h1, h2, h3, h4, h5⟩ := going f feeds fun h => stays (d.tracksAfresh.mp h)
    exact ⟨h1, h2, h3, h4, by rw [h5]⟩
  · obtain ⟨h1, h2, h3, h4, h5⟩ := idle none
    exact ⟨h1, h2, h3, h4, by rw [h5]⟩

/-- Where LF is not tracked its averages stay (R83). -/
theorem State.GoodDriven.tracking_of_idle (noStep : ¬s.stepsAt e)
    (idle : s.updatesLockedAt e →
      ¬((s.rmu.slots.get 2).state ≠ .disqualified ∧ ¬s.lfShowsOff ∧ s.closesGood 2)) :
    let t := c.closedOn s.summary
    t.sde.bias = s.sde.bias ∧ t.sde.wander = s.sde.wander ∧ t.sde.lfCount = s.sde.lfCount ∧
      t.sde.lfBasis = s.sde.lfBasis ∧
      t.sde.lfRestart = (s.sde.lfRestart ||
        decide ((s.rmu.slots.get 2).state = .off ∨ (s.rmu.slots.get 2).state = .halting)) := by
  by_cases locked : s.updatesLockedAt e
  · exact (d.tracking_of_locked noStep locked).2.2 fun ⟨f, feeds⟩ =>
      idle locked ((State.summary_feeds_iff s f).mp feeds).1
  · exact (d.averages_of_acquire noStep locked).2.2.2

/-- F_app after the close: F_int in BRIDGE, else with the proportional term (R56, R72 to R75). -/
theorem State.GoodDriven.fApp (noStep : ¬s.stepsAt e) :
    (c.closedOn s.summary).tsg.fApp =
      clampCorr (if (c.closedOn s.summary).sde.clock = .bridge then s.integral e
        else s.integral e + s.proportional e) := by
  have updated : c.tsg.fApp = clampCorr (s.integral e + s.proportional e) := by
    rw [d.update, (State.fullUpdate_flags _ _ _ _ _ _ _).1, decide_eq_false noStep, usedValue_of_stays, d.integral,
      d.proportional]
  have fInt : c.sde.fInt = s.integral e := by
    rw [← (d.closed_averages noStep).1]
    exact (State.closedOn_sde d.away s.summary).1.symm
  rw [State.closedOn_fApp, fInt, updated, if_congr (and_iff_right_of_imp (State.closedOn_bridge d.loops)) rfl rfl,
    apply_ite clampCorr]

/-- A value within the lock threshold leaves the lock-loss count of LOCKED at 0 (R57). -/
theorem State.GoodDriven.lockLoss (locked : s.updatesLockedAt e) (within : s.within e) :
    (c.closedOn s.summary).sde.lockLoss = 0 := by
  refine (State.closedOn_zeros d.away s.summary).2.1 ?_
  rw [d.sde]
  dsimp only
  rw [State.averaged_sde]
  dsimp only
  rw [d.counted.sde]
  refine if_pos ?_
  rw [decide_eq_true within, Bool.and_true, Bool.or_eq_true, Bool.or_eq_true, decide_eq_true_iff, decide_eq_true_iff]
  rcases locked with locks | ⟨clock, -⟩
  · exact .inl (.inr locks)
  · exact .inr (beq_iff_eq.mpr clock)

/-- Where no step is ordered, a set counts on from the second that the close finds (R67). -/
theorem State.GoodDriven.left_of_stays : (b.tsg.afterStep none).seconds - (s.tsg.seconds - 1) = 1 := by
  show b.tsg.seconds - _ = _
  rw [d.closed.tsg]
  exact sub_sub_cancel _ _

/-- The learning store that the averages leave: the result filed in LOCKED (R92). -/
theorem State.GoodDriven.averaged_ols :
    (g.averaged e (!s.sde.lockedSinceStart && decide (s.locksAt e)) (s.summary.get lfSlot)).ols =
      if s.updatesLockedAt e then s.filed (s.integral e) else s.ols := by
  split
  next locked =>
    rw [(State.averaged_locked_values (d.counted_locked.mpr locked) e _ _).2.2.2, d.integral,
      State.filed_congr d.counted.ols d.counted.spm]
  next away =>
    rw [State.averaged_of_acquire fun h => away (d.counted_locked.mp h)]
    exact d.counted.ols

end

/-- The learning store of the statement (R92). -/
theorem State.filed_eq (s : State) (f : Int) (p : Prop) [Decidable p] :
    (match s.ols.theta with
      | some θ =>
        if p ∧ s.spm.oven = .settled ∧ s.spm.soak = 0 ∧ s.ols.sensorFault = false ∧ s.spm.power = .run then
          s.ols.fileResult f θ
        else s.ols
      | none => s.ols) = if p then s.filed f else s.ols := by
  unfold State.filed State.learningEnabled
  cases s.ols.theta with
  | none => exact (ite_self _).symm
  | some θ =>
    by_cases h : p
    · simp [h, and_assoc]
    · simp [h]

end

end Sys2Proof.Machine
end

section
/-!
PROOFS. A GOOD epoch of the driving slot that orders no step drives a full update (O28).
-/

namespace Sys2Proof.Machine

/-- Settles O28: the epoch counted, the update by the clock that the counting leaves, and the end of the close. -/
theorem goodEpochUpdates : Obligations.GoodEpochUpdates := by
  intro s n
  dsimp only
  intro driven good drives noStep
  obtain ⟨b, g, c, d⟩ := epochClose_of_good (State.drivenBy_due driven) drives (State.drivenBy_selected driven)
    (State.summary_of_driven driven good)
  generalize median (s.closingValues n) = e at noStep d
  change s.GoodDriven n e (s.closingLabel n) b g c at d
  have moves := d.moves
  dsimp only at moves
  rw [if_neg noStep, ← State.settingLabel_eq] at moves
  obtain ⟨lastClosed, -, -, lfVoid, -⟩ := State.closedOn_rest d.closed moves d.tru
  obtain ⟨tsg, -⟩ := State.closedOn_frame s.summary c
  have heldMoved := State.heldMoved_of_moves d.closed moves d.tru
  have fInt := (d.closed_averages noStep).1
  refine ⟨c.closedOn s.summary, d.next, fInt, ?_, ?_, heldMoved, fun kept => ⟨(d.kept kept).1, (d.kept kept).2,
    fun locks => d.judgedTwiceIn locks kept, fun noLock => d.judgedIn noLock kept⟩,
    fun locked => d.averages_of_locked noStep locked, fun high low most => ?_, fun away => ?_, fun locked within => ?_, ?_, ?_⟩
  · exact d.fApp noStep
  · rw [tsg]
    refine moves.reRun.trans ?_
    show b.tsg.reRun = _
    rw [d.closed.tsg]
  · by_cases locked : s.updatesLockedAt e
    · rw [(d.averages_of_locked noStep locked).1]
      exact residual_bound (by unfold mag; omega) high low most
    · rw [(d.averages_of_acquire noStep locked).1]
      exact ⟨low, most⟩
  · obtain ⟨residual, fAvg, fAvgBin, -⟩ := d.averages_of_acquire noStep away
    exact ⟨residual, fAvg, fAvgBin⟩
  · exact d.lockLoss locked within
  · have learned : _ = if s.updatesLockedAt e then s.filed (s.integral e) else s.ols :=
      State.filed_eq s (s.integral e) (s.updatesLockedAt e)
    obtain ⟨same, other⟩ := d.labelMismatch
    rw [ruledMismatch_eq] at same
    have left := d.left_of_stays
    have ordered := State.settingLabel_eq s n (s.tsg.timeValid || decide (s.locksAt e))
    have before : b.tsg.seconds = s.tsg.seconds := by rw [d.closed.tsg]
    refine ⟨same, other, fun keeps => ?_, fun l sets => ?_⟩
    · have kept := d.ols_of_keeps (ordered.symm.trans keeps)
      rw [decide_eq_false noStep, usedValue_of_stays, d.averaged_ols] at kept
      rw [keeps] at moves lastClosed lfVoid
      refine ⟨?_, kept.trans learned.symm, ?_, ?_⟩
      · rw [tsg]; exact moves.seconds.trans before
      · rw [lastClosed]; exact add_zero _
      · rw [lfVoid]; simp
    · have moved := d.ols_of_sets (ordered.symm.trans sets)
      have told (p : Port) (inn : s.attached p = true) := d.tells_set (ordered.symm.trans sets) inn
      have stays : (if decide (s.stepsAt e) = true then some (limitStep e) else none) = none := by
        rw [decide_eq_false noStep]; rfl
      dsimp only at moved told
      rw [stays, left, decide_eq_false noStep, usedValue_of_stays, d.averaged_ols] at moved
      rw [stays, left] at told
      rw [sets, Option.map_some, left] at moves lastClosed lfVoid
      refine ⟨?_, ?_, ?_, moved.trans ?_, fun p inn => ⟨(told p inn).2, (told p inn).1⟩⟩
      · rw [tsg]; exact moves.seconds
      · rw [lastClosed]
        show s.tsg.seconds - 1 + (l + 1 - b.tsg.seconds) = l
        rw [before]
        bv_omega
      · rw [lfVoid]; exact Bool.or_true _
      · have isLeft : (b.tsg.afterStep none).seconds = s.tsg.seconds := before
        rw [isLeft]
        exact congrArg (fun o : Ols => o.daySet _ _) learned.symm
  · have feeds : (s.rmu.slots.get 2).state ≠ .disqualified ∧ ¬s.lfShowsOff ∧ s.closesGood 2 →
        (s.summary.get lfSlot).feeds (median (s.closingValues 2)) := fun h => (State.summary_feeds_iff s _).mpr ⟨h, rfl⟩
    have untracked (idle : ¬(s.updatesLockedAt e ∧ (s.rmu.slots.get 2).state ≠ .disqualified ∧ ¬s.lfShowsOff ∧
        s.closesGood 2)) := d.tracking_of_idle noStep fun locked h => idle ⟨locked, h⟩
    have tracking (locked : s.updatesLockedAt e) := d.tracking_of_locked noStep locked
    refine ⟨fun tracked afresh => ?_, fun tracked stays => ?_, fun idle => ?_, fun ends => ?_,
      fun shows runs => ⟨fun tracked => ?_, fun idle => ?_⟩⟩
    · obtain ⟨bias, wander, lfCount, lfBasis, -⟩ := (tracking tracked.1).1 _ (feeds tracked.2) afresh
      exact ⟨bias, wander, lfCount, lfBasis⟩
    · obtain ⟨bias, wander, lfCount, lfBasis, -⟩ := (tracking tracked.1).2.1 _ (feeds tracked.2) stays
      exact ⟨bias, wander, lfCount, lfBasis⟩
    · obtain ⟨bias, wander, lfCount, lfBasis, -⟩ := untracked idle
      exact ⟨bias, wander, lfCount, lfBasis⟩
    · rw [(d.closed_averages noStep).2.2.2.2.2.2.2.2,
        decide_eq_true (ends.elim (fun h => h.imp_right And.left) .inr), Bool.or_true]
    · have stands : decide ((s.rmu.slots.get 2).state = .off ∨ (s.rmu.slots.get 2).state = .halting) = false :=
        decide_eq_false fun h => h.elim (fun off => shows (.inl off)) runs
      by_cases afresh : s.tracksAfresh
      · obtain ⟨-, -, -, -, lfRestart⟩ := (tracking tracked.1).1 _ (feeds tracked.2) afresh
        rw [lfRestart, stands]
        rfl
      · obtain ⟨-, -, -, -, lfRestart⟩ := (tracking tracked.1).2.1 _ (feeds tracked.2) afresh
        rw [lfRestart, stands, Bool.or_false]
        exact Bool.eq_false_iff.mpr fun on => afresh (.inl on)
    · obtain ⟨-, -, -, -, lfRestart⟩ := untracked idle
      rw [lfRestart, decide_eq_false fun h => h.elim (fun off => shows (.inl off)) runs, Bool.or_false]

end Sys2Proof.Machine
end

section
/-!
PROOFS. CLOCK_STATE through an epoch close: each change of the clock or of the assisted flag is told (R61).
-/

namespace Sys2Proof.Machine

/-! ## Notices that carry the clock -/

theorem TenantNotices.Retains.before {fits : Report → Prop} {n n' : TenantNotices} (h : n.Retains fits n') :
    n.Retains (fun _ => False) n' := ⟨h.frozen, h.mask, fun ⟨_, _, no⟩ => no.elim, fun ⟨_, _, no⟩ => no.elim⟩

theorem TenantNotices.Tells.before {r : Report} {fits : Report → Prop} {n n' : TenantNotices} (h : n.Tells r fits n') :
    n.Retains (fun _ => False) n' := by
  obtain ⟨m, first, last⟩ := h
  exact (first.trans (TenantNotices.file_retains (ignores_false [r.kind] r (List.mem_singleton.mpr rfl)) m)).trans last.before

/-- From s to t every attached tenant has been told the clock as t holds it, or the clock stands as it did and so does a notice of
it. -/
structure State.ReportsClock (s t : State) : Prop where
  tru : t.tru = s.tru
  each : ∀ p : Port, s.attached p = true →
    (s.nu.get p).Tells t.clockReport (fun x => x = t.clockReport) (t.nu.get p) ∨
      t.clockReport = s.clockReport ∧ (s.nu.get p).Retains (fun x => x = s.clockReport) (t.nu.get p)

section
variable {s t u : State}

theorem State.ReportsClock.trans (h : s.ReportsClock t) (h' : t.ReportsClock u) : s.ReportsClock u := by
  refine ⟨h'.tru.trans h.tru, fun p inn => ?_⟩
  have inn' : t.attached p = true := by rw [← inn]; exact State.attached_congr (congrArg Tru.tenants h.tru) p
  rcases h'.each p inn' with tells | ⟨same, keeps⟩
  · refine .inl (.earlier ?_ tells)
    rcases h.each p inn with first | ⟨-, first⟩
    · exact first.before
    · exact first.before
  · rcases h.each p inn with tells | ⟨same', keeps'⟩
    · exact .inl (same ▸ tells.later keeps)
    · exact .inr ⟨same.trans same', keeps'.trans (same' ▸ keeps)⟩

/-- Where the clock stands and CLOCK_STATE is not posted. -/
theorem State.ReportsClock.of_kept {kinds : List Nat} (tru : t.tru = s.tru) (same : t.clockReport = s.clockReport)
    (files : s.Files kinds t) (other : 2 ∉ kinds) : s.ReportsClock t :=
  ⟨tru, fun p _ => .inr ⟨same, (files p).keeps other⟩⟩

theorem State.ReportsClock.refl (s : State) : s.ReportsClock s := .of_kept rfl rfl (.refl [] s) (by simp)

theorem State.clockReport_congr (clock : t.sde.clock = s.sde.clock) (assisted : t.sde.assisted = s.sde.assisted)
    (valid : t.tsg.timeValid = s.tsg.timeValid) : t.clockReport = s.clockReport := by
  unfold State.clockReport; rw [clock, assisted, valid]

theorem State.ReportsClock.withSde {d : Sde} (clock : d.clock = s.sde.clock) (assisted : d.assisted = s.sde.assisted) :
    s.ReportsClock (s.withSde d) :=
  .of_kept rfl (State.clockReport_congr clock assisted rfl) (State.withSde_files [] d s) (by simp)

/-- A change of the clock is told, whatever changed before it unposted. -/
theorem State.enterClock_tells {c : ClockState} (ne : c ≠ t.sde.clock) (tru : t.tru = s.tru) (nu : t.nu = s.nu) :
    s.ReportsClock (t.enterClock c) := by
  rw [State.enterClock_eq ne]
  dsimp only
  obtain ⟨w, hw⟩ : ∃ w : State, w = t.withSde
      { t.sde with
        clock := c, assisted := false, stepNow := t.sde.stepNow && t.sde.clock != .acquire
        stepDecisionPending := t.sde.stepDecisionPending && t.sde.clock != .acquire } := ⟨_, rfl⟩
  have wtru : w.tru = s.tru := by rw [hw]; exact tru
  have wnu : w.nu = s.nu := by rw [hw]; exact nu
  rw [← hw]
  refine ⟨wtru, fun p inn => .inl ?_⟩
  have inn' : w.watchLatches.attached p = true := by
    rw [← inn]; exact State.attached_congr (congrArg Tru.tenants wtru) p
  rw [← wnu]
  exact .earlier ((State.watchLatches_lowsFall w p).retains _) (State.postAll_tells _ _ w.watchLatches inn')

theorem State.enterClock_reports (c : ClockState) (s : State) : s.ReportsClock (s.enterClock c) := by
  by_cases same : c = s.sde.clock
  · rw [same, State.enterClock_self]; exact .refl s
  · exact State.enterClock_tells same rfl rfl

theorem State.setE_reports (x : Int) (s : State) : s.ReportsClock (s.setE x) := by
  obtain ⟨tsg, -, -, tru, -⟩ := State.setE_frame x s
  refine .of_kept tru (State.clockReport_congr ?_ ?_ (congrArg Tsg.timeValid tsg)) (State.setE_files x s) (by simp)
  · rw [State.setE_shape]
  · rw [State.setE_shape]

theorem State.judgeAll_reports (s : State) : s.ReportsClock s.judgeAll := by
  obtain ⟨tsg, -, -, tru, -⟩ := State.judgeAll_frame s
  refine .of_kept tru (State.clockReport_congr ?_ ?_ (congrArg Tsg.timeValid tsg)) (State.judgeAll_files s) (by simp)
  · rw [State.judgeAll_shape]
  · rw [State.judgeAll_shape]

theorem State.takeAnchor_reports (f : Int) (s : State) : s.ReportsClock (s.takeAnchor f) :=
  .of_kept rfl rfl (State.takeAnchor_files [] f s) (by simp)

theorem State.orderFApp_reports (f : Int) (s : State) : s.ReportsClock (s.orderFApp f) :=
  .of_kept rfl rfl (State.orderFApp_files [] f s) (by simp)

/-! ## The clock's entries -/

theorem State.enterHoldover_reports (s : State) : s.ReportsClock s.enterHoldover := by
  rw [State.enterHoldover_eq]
  dsimp only
  have cleared : s.ReportsClock (s.withSde { s.sde with decisionPending := false, bridgeRemaining := 0 }) :=
    .withSde rfl rfl
  have entered := cleared.trans (State.enterClock_reports .holdover _)
  generalize (s.withSde { s.sde with decisionPending := false, bridgeRemaining := 0 }).enterClock .holdover = b at entered
  have anchored := entered.trans (State.takeAnchor_reports b.sde.fAvg b)
  split
  · exact anchored
  · exact anchored.trans (State.setE_reports _ _)

theorem State.enterBridge_reports (s : State) : s.ReportsClock s.enterBridge := by
  rw [State.enterBridge_eq]
  dsimp only
  have cleared : s.ReportsClock
      (s.withSde { s.sde with decisionPending := false, bridgeRemaining := s.tru.config.bridgeTime }) := .withSde rfl rfl
  have entered := cleared.trans (State.enterClock_reports .bridge _)
  exact ((entered.trans (State.orderFApp_reports _ _)).trans (State.takeAnchor_reports _ _)).trans (State.setE_reports _ _)

theorem State.enterFreerun_reports (s : State) : s.ReportsClock s.enterFreerun :=
  (State.enterClock_reports .freerun s).trans (State.setE_reports _ _)

theorem State.enterLocked_reports (away : s.sde.clock ≠ .locked) : s.ReportsClock s.enterLocked := by
  rw [State.enterLocked_eq]
  have entered : s.ReportsClock (s.validated.enterClock .locked) := State.enterClock_tells away.symm rfl rfl
  exact entered.trans (State.judgeAll_reports _)

theorem State.acquiring_reports (s : State) : s.ReportsClock s.acquiring := by
  have cleared : s.ReportsClock (s.withSde { s.sde with decisionPending := false, bridgeRemaining := 0 }) :=
    .withSde rfl rfl
  unfold State.acquiring
  dsimp only
  exact (cleared.trans (State.enterClock_reports .acquire _)).trans (.withSde rfl rfl)

theorem State.enterAcquireFollowing_reports (s : State) : s.ReportsClock s.enterAcquireFollowing := by
  have followed : s.enterAcquireFollowing =
      (s.enterClock .acquire).withSde { (s.enterClock .acquire).sde with lockCount := 0, stepDecisionPending := true } := rfl
  rw [followed]
  exact (State.enterClock_reports .acquire s).trans (.withSde rfl rfl)

theorem State.setAssisted_reports {a : State} (on : Bool) (tru : a.tru = s.tru) (nu : a.nu = s.nu) :
    s.ReportsClock (a.setAssisted on) := by
  refine ⟨tru, fun p inn => .inl ?_⟩
  have inn' : (a.withSde { a.sde with assisted := on }).attached p = true := by
    rw [← inn]; exact State.attached_congr (congrArg Tru.tenants tru) p
  rw [← nu]
  exact State.postAll_tells (p := p) _ _ (a.withSde { a.sde with assisted := on }) inn'

theorem State.judgeAssistance_reports (lf : SlotItem) (s : State) : s.ReportsClock (s.judgeAssistance lf) := by
  unfold State.judgeAssistance
  split
  · dsimp only
    split
    · exact State.orderFApp_reports _ s
    · exact State.setAssisted_reports true rfl rfl
  · split
    · exact State.setAssisted_reports false rfl rfl
    · exact .refl s

/-! ## The stages -/

theorem State.stepDecision_reports (e : Int) (s : State) : s.ReportsClock (s.stepDecision e).1 := by
  obtain ⟨tsg, -, -, tru, -⟩ := State.stepDecision_frame e s
  have sde := State.stepDecision_sde e s
  exact .of_kept tru (State.clockReport_congr (by rw [sde]) (by rw [sde]) (congrArg Tsg.timeValid tsg))
    (State.stepDecision_files e s) (by simp)

theorem State.enterAcquireDeciding_reports (e : Int) (s : State) : s.ReportsClock (s.enterAcquireDeciding e).1 := by
  rw [State.enterAcquireDeciding_eq]
  exact s.acquiring_reports.trans (State.stepDecision_reports e _)

theorem State.goodAcquire_reports (acquire : s.sde.clock = .acquire) (e : Int) :
    s.ReportsClock (s.goodAcquire e).1 := by
  have decided := State.stepDecision_reports e s
  have clock : (s.stepDecision e).1.sde.clock = .acquire := by rw [State.stepDecision_sde]; exact acquire
  rw [State.goodAcquire_eq]
  dsimp only
  split
  · exact decided
  · split
    · dsimp only
      have counted := decided.trans (State.ReportsClock.withSde (s := (s.stepDecision e).1)
        (d := { (s.stepDecision e).1.sde with lockCount := satAdd 16 (s.stepDecision e).1.sde.lockCount 1 }) rfl rfl)
      split
      · refine counted.trans (State.enterLocked_reports ?_)
        show (s.stepDecision e).1.sde.clock ≠ .locked
        rw [clock]
        decide
      · exact counted
    · exact decided.trans (.withSde rfl rfl)

theorem State.goodLocked_reports (e : Int) (s : State) : s.ReportsClock (s.goodLocked e).1 := by
  rw [State.goodLocked_eq]
  split
  · exact .withSde rfl rfl
  · split
    · exact State.enterAcquireDeciding_reports e s
    · dsimp only
      have counted : s.ReportsClock (s.withSde { s.sde with lockLoss := satAdd 4 s.sde.lockLoss 1 }) := .withSde rfl rfl
      split
      · exact counted.trans (State.enterAcquireDeciding_reports e _)
      · exact counted

theorem State.goodEpoch_reports (e : Int) (s : State) : s.ReportsClock (s.goodEpoch e).1 := by
  unfold State.goodEpoch
  split
  next acquire => exact State.goodAcquire_reports acquire e
  · exact State.goodLocked_reports e s
  next bridge =>
    unfold State.goodBridge
    split
    · exact State.enterLocked_reports (by rw [bridge]; decide)
    · exact State.enterAcquireDeciding_reports e s
  · exact .refl s
  · exact .refl s

theorem State.fullUpdate_reports (k : Seconds) (e : Int) (label : Option Seconds) (stepped first : Bool) (lf : SlotItem)
    (s : State) : s.ReportsClock (s.fullUpdate k e label stepped first lf) := by
  have sde := State.fullUpdate_sde k e label stepped first lf s
  rw [State.averaged_sde] at sde
  exact .of_kept (State.fullUpdate_tru _ _ _ _ _ _ _)
    (State.clockReport_congr (by rw [sde]) (by rw [sde]) (State.fullUpdate_flags _ _ _ _ _ _ _).2)
    (State.fullUpdate_files _ _ _ _ _ _ _) (by simp)

theorem State.holdUpdate_reports (n : SlotId) (s : State) : s.ReportsClock (s.holdUpdate n) :=
  (State.orderFApp_reports _ s).trans (State.setE_reports _ _)

theorem State.driveItem_reports (k : Seconds) (n : SlotId) (item lf : SlotItem) (s : State) :
    s.ReportsClock (s.driveItem k n item lf) := by
  unfold State.driveItem
  split
  · dsimp only
    split
    · exact (State.goodEpoch_reports _ s).trans (State.fullUpdate_reports _ _ _ _ _ _ _)
    · exact State.goodEpoch_reports _ s
  · split
    · refine State.ReportsClock.trans ?_ (State.holdUpdate_reports n _)
      rw [State.faultyEpoch_eq]
      split
      · exact .withSde rfl rfl
      · exact .refl s
    · exact .refl s
  · split
    · exact State.holdUpdate_reports n s
    · exact .refl s
  · exact .refl s

theorem State.driveStage_reports (k : Seconds) (items : Six SlotItem) (s : State) :
    s.ReportsClock (s.driveStage k items) := by
  unfold State.driveStage
  split
  · exact State.judgeAssistance_reports _ s
  · split
    · exact .refl s
    · exact State.driveItem_reports _ _ _ _ s

theorem State.followStage_reports (old : Option SlotId) (s : State) : s.ReportsClock (s.followStage old) := by
  rw [State.followStage_eq]
  dsimp only
  split
  · split
    · exact State.enterAcquireFollowing_reports s
    · exact .refl s
  · split
    · exact .refl s
    · split
      · exact .withSde rfl rfl
      · split
        · exact State.enterHoldover_reports s
        · exact State.enterFreerun_reports s
  · split
    · exact .refl s
    · split
      · exact .withSde rfl rfl
      · have zeroed : s.ReportsClock (s.withSde { s.sde with lockLoss := 0 }) := .withSde rfl rfl
        split
        · exact zeroed.trans (State.enterBridge_reports _)
        · exact zeroed.trans (State.enterHoldover_reports _)
  · split
    · exact .refl s
    · exact .withSde rfl rfl
  · split
    · have seeded : s.ReportsClock (s.withSde { s.sde with fInt := s.tsg.fApp }) := .withSde rfl rfl
      exact seeded.trans (State.enterAcquireFollowing_reports _)
    · exact .refl s

theorem State.changeSelection_reports (new : Option SlotId) (s : State) : s.ReportsClock (s.changeSelection new) :=
  .of_kept rfl rfl (State.changeSelection_files new s) (by simp)

theorem State.closedOn_reports (items : Six SlotItem) (c : State) : c.ReportsClock (c.closedOn items) := by
  have noted : c.ReportsClock (c.noteLfHalt (items.get lfSlot)) := by
    rw [State.noteLfHalt_eq]; exact .withSde rfl rfl
  have chosen : c.ReportsClock (c.chosen items) := by
    refine noted.trans ?_
    unfold State.chosen State.reselected
    split
    · exact .refl _
    · exact State.changeSelection_reports _ _
  have followed := chosen.trans (State.followStage_reports c.sde.selected _)
  have adopts : ((c.chosen items).followStage c.sde.selected).ReportsClock (c.closedOn items) := by
    obtain ⟨sde, tsg, nu⟩ := State.closedOn_eq items c
    refine .of_kept (kinds := []) ?_ ?_ (.of_nu nu) (by simp)
    · rw [(State.closedOn_frame items c).2.2.1, (State.followStage_frame _ _).2.2.1, (State.chosen_frame items c).2.2]
    · exact State.clockReport_congr (by rw [sde]) (by rw [sde]) (by rw [tsg])
  exact followed.trans adopts

theorem State.SlotsClosed.reports {b : State} (closed : s.SlotsClosed b) : s.ReportsClock b :=
  .of_kept closed.tru (State.clockReport_congr (by rw [closed.sde]) (by rw [closed.sde]) closed.timeValid) closed.files
    (by simp)

/-- A change that is reported is told. -/
theorem State.ReportsClock.told (h : s.ReportsClock t)
    (changed : t.sde.clock ≠ s.sde.clock ∨ t.sde.assisted ≠ s.sde.assisted) (p : Port) :
    s.told t p (.clockState t.sde.clock t.sde.assisted t.tsg.timeValid) := by
  intro inn
  have inn' : s.attached p = true := by rw [← inn]; exact State.attached_congr (congrArg Tru.tenants h.tru.symm) p
  rcases h.each p inn' with tells | ⟨same, -⟩
  · exact State.told_of_tells (by simp [Report.kind]) tells inn
  · unfold State.clockReport at same
    injection same with clock assisted valid
    exact changed.elim (fun ne => absurd clock ne) fun ne => absurd assisted ne

end

end Sys2Proof.Machine
end

section
/-!
PROOFS. How the clock follows the selection at the end of an epoch close, from each of its states (R49 to R60, R78, R121).
-/

namespace Sys2Proof.Machine

section
variable {s c : State} {items : Six SlotItem} {old : Option SlotId}

/-! ## The marks of a selection -/

/-- In HOLDOVER the follow stage goes to ACQUIRE where a slot is selected, and F_int is seeded (R60). -/
theorem State.followStage_of_holdover (clock : s.sde.clock = .holdover) :
    s.followStage old =
      if s.sde.selected.isSome then (s.withSde { s.sde with fInt := s.tsg.fApp }).enterAcquireFollowing else s := by
  rw [State.followStage_eq]
  dsimp only
  rw [clock]

/-- ACQUIRE from HOLDOVER: F_int from F_app, the count and the step decision begun (R60). -/
theorem State.acquireFromHoldover_sde (clock : s.sde.clock = .holdover) :
    (s.withSde { s.sde with fInt := s.tsg.fApp }).enterAcquireFollowing.sde =
      { s.sde with
        fInt := s.tsg.fApp, clock := .acquire, assisted := false, lockCount := 0, stepDecisionPending := true } :=
  State.enterAcquireFollowing_sde (s := s.withSde { s.sde with fInt := s.tsg.fApp })
    (by show s.sde.clock ≠ _; rw [clock]; decide)

/-- The follow stage keeps what a selection marks. -/
theorem State.followStage_marks (old : Option SlotId) (s : State) :
    (s.followStage old).sde.lastSelected = s.sde.lastSelected ∧
      (s.followStage old).sde.labelMismatch = s.sde.labelMismatch ∧
      (s.sde.lockCount = 0 → (s.followStage old).sde.lockCount = 0) ∧
      (s.sde.stepNow = false → (s.followStage old).sde.stepNow = false) := by
  by_cases clock : s.sde.clock = .holdover
  · rw [State.followStage_of_holdover clock]
    split
    · rw [State.acquireFromHoldover_sde clock]; exact ⟨rfl, rfl, fun _ => rfl, id⟩
    · exact ⟨rfl, rfl, id, id⟩
  · obtain ⟨count, -, now⟩ := State.followStage_zeros clock old
    have sde := State.followStage_sde clock old
    exact ⟨by rw [sde], by rw [sde], count, now⟩

theorem State.closedOn_marks (items : Six SlotItem) (c : State) :
    (c.choice items = c.sde.selected → (c.closedOn items).sde.lastSelected = c.sde.lastSelected) ∧
      (c.choice items ≠ c.sde.selected →
        (c.closedOn items).sde.lastSelected = (c.choice items).or c.sde.lastSelected ∧
          (c.closedOn items).sde.lockCount = 0 ∧ (c.closedOn items).sde.labelMismatch = 0 ∧
          (c.closedOn items).sde.stepNow = false) := by
  obtain ⟨last, mismatch, count, now⟩ := State.followStage_marks c.sde.selected (c.chosen items)
  rw [(State.closedOn_eq items c).1]
  refine ⟨fun same => ?_, fun moved => ?_⟩
  · rw [last, State.chosen_of_same same, State.noteLfHalt_eq]; rfl
  · have chosen := State.chosen_of_moved moved
    exact ⟨by rw [last, chosen], count (by rw [chosen]), by rw [mismatch, chosen], now (by rw [chosen])⟩

/-- A selection that moves is told to every attached tenant (R51). -/
theorem State.closedOn_tells {p : Port} (moved : c.choice items ≠ c.sde.selected) (inn : c.attached p = true) :
    (c.nu.get p).Tells (.selection (c.choice items)) (fun x => x = .selection (c.choice items))
      ((c.closedOn items).nu.get p) := by
  have noted : (c.noteLfHalt (items.get lfSlot)).nu = c.nu := by rw [State.noteLfHalt_eq]; rfl
  have chosen : c.chosen items = (c.noteLfHalt (items.get lfSlot)).changeSelection (c.choice items) := by
    unfold State.chosen State.reselected
    rw [State.noteLfHalt_choice, State.noteLfHalt_selected, if_neg moved]
  have inn' : (c.noteLfHalt (items.get lfSlot)).attached p = true := by
    rw [← inn]; exact State.attached_congr (congrArg Tru.tenants (State.noteLfHalt_frame _ c).2.2.2.1) p
  rw [(State.closedOn_eq items c).2.2]
  refine TenantNotices.Tells.later ?_
    ((State.followStage_files c.sde.selected (c.chosen items) p).keeps (by simp [Report.kind]))
  rw [chosen, ← noted]
  refine ⟨_, .refl _ _, ?_⟩
  unfold State.changeSelection
  rw [State.postAll_nu_get, if_pos (by exact inn')]
  exact .refl _ _

/-! ## By the clock that the close finds -/

/-- A switch in ACQUIRE begins it again, and one in LOCKED awaits a decision (R52, R57). -/
theorem State.closedOn_of_switch (loops : c.sde.clock = .acquire ∨ c.sde.clock = .locked)
    (moved : c.choice items ≠ c.sde.selected) (found : c.choice items ≠ none) :
    (c.closedOn items).sde.clock = c.sde.clock ∧ (c.closedOn items).tsg = c.tsg ∧
      (c.sde.clock = .acquire → (c.closedOn items).sde.stepDecisionPending = true) ∧
      (c.sde.clock = .locked → (c.closedOn items).sde.decisionPending = true) := by
  have clock := State.chosen_clock items c
  have followed := State.followStage_of_switch (s := c.chosen items) (old := c.sde.selected)
    (by rw [clock]; exact loops) (by rw [State.chosen_selected]; exact moved)
    (by rw [State.chosen_selected]; exact Option.isSome_iff_ne_none.mpr found)
  obtain ⟨sde, tsg, -⟩ := State.closedOn_eq items c
  rw [sde, tsg, followed]
  refine ⟨clock, (State.chosen_frame items c).1, fun acquire => ?_, fun locked => ?_⟩
  · exact if_pos (clock.trans acquire)
  · exact if_neg (by rw [clock, locked]; decide)

/-- A loss in ACQUIRE: HOLDOVER where time is valid, else FREERUN (R54, R60). -/
theorem State.closedOn_of_lost_acquire (acquire : c.sde.clock = .acquire) (moved : c.choice items ≠ c.sde.selected)
    (lost : c.choice items = none) :
    let t := c.closedOn items
    t.sde.stepDecisionPending = false ∧
      (c.tsg.timeValid = true →
        t.sde.clock = .holdover ∧ t.sde.anchorCorr = c.sde.fAvg ∧ t.sde.hours = 0 ∧ t.sde.e = min c.entryE eCap) ∧
      (c.tsg.timeValid = false → t.sde.clock = .freerun ∧ t.sde.e = eCap) := by
  have clock : (c.chosen items).sde.clock = .acquire := (State.chosen_clock items c).trans acquire
  have fAvg : (c.chosen items).sde.fAvg = c.sde.fAvg := by rw [State.chosen_sde]
  have followed := State.followStage_of_lost_acquire clock (old := c.sde.selected)
    (by rw [State.chosen_selected]; exact moved) ((State.chosen_selected items c).trans lost)
  rw [(State.chosen_frame items c).1] at followed
  dsimp only
  rw [(State.closedOn_eq items c).1, followed]
  cases c.tsg.timeValid with
  | true =>
    rw [if_pos rfl, State.enterHoldover_sde (by rw [clock]; decide), clock, fAvg, State.chosen_entryE lost]
    exact ⟨Bool.and_false _, fun _ => ⟨rfl, rfl, rfl, rfl⟩, (by cases ·)⟩
  | false =>
    rw [if_neg (by decide), State.enterFreerun_sde (by rw [clock]; decide), clock]
    exact ⟨Bool.and_false _, (by cases ·), fun _ => ⟨rfl, rfl⟩⟩

/-- A loss in LOCKED: BRIDGE, or HOLDOVER with bridge time 0 (R56, R117). -/
theorem State.closedOn_of_lost_locked (locked : c.sde.clock = .locked) (moved : c.choice items ≠ c.sde.selected)
    (lost : c.choice items = none) :
    let t := c.closedOn items
    t.sde.lockLoss = 0 ∧ t.sde.decisionPending = false ∧ t.sde.e = min c.entryE eCap ∧
      (0 < c.tru.config.bridgeTime →
        t.sde.clock = .bridge ∧ t.sde.bridgeRemaining = c.tru.config.bridgeTime ∧
          t.tsg.fApp = clampCorr c.sde.fInt ∧ t.sde.anchorCorr = c.sde.fInt) ∧
      (c.tru.config.bridgeTime = 0 →
        t.sde.clock = .holdover ∧ t.sde.anchorCorr = c.sde.fAvg ∧ t.sde.hours = 0) := by
  have clock : (c.chosen items).sde.clock = .locked := (State.chosen_clock items c).trans locked
  have sde := State.chosen_sde items c
  have fAvg : (c.chosen items).sde.fAvg = c.sde.fAvg := by rw [sde]
  have fInt : (c.chosen items).sde.fInt = c.sde.fInt := by rw [sde]
  have entry := State.chosen_entryE (items := items) (c := c) lost
  have followed := State.followStage_of_lost_locked clock (old := c.sde.selected)
    (by rw [State.chosen_selected]; exact moved) ((State.chosen_selected items c).trans lost)
  obtain ⟨x, hx⟩ : ∃ x : State, x = (c.chosen items).withSde { (c.chosen items).sde with lockLoss := 0 } := ⟨_, rfl⟩
  have xsde : x.sde = { (c.chosen items).sde with lockLoss := 0 } := by rw [hx]; rfl
  have xentry : x.entryE = c.entryE := by rw [← entry, hx]; rfl
  have xtru : x.tru = c.tru := by rw [hx]; exact (State.chosen_frame items c).2.2
  have xclock : x.sde.clock = .locked := by rw [xsde]; exact clock
  dsimp only at followed
  rw [← hx, (State.chosen_frame items c).2.2] at followed
  dsimp only
  rw [(State.closedOn_eq items c).1, (State.closedOn_eq items c).2.1, followed]
  by_cases bridges : 0 < c.tru.config.bridgeTime
  · rw [if_pos bridges, State.enterBridge_fApp, State.enterBridge_sde (by rw [xclock]; decide), xentry, xtru, xsde]
    exact ⟨rfl, rfl, rfl, fun _ => ⟨rfl, rfl, congrArg clampCorr fInt, fInt⟩, fun none => absurd none (by omega)⟩
  · have notBridge : ¬x.sde.clock = .bridge := by rw [xclock]; decide
    rw [if_neg bridges, State.enterHoldover_sde (by rw [xclock]; decide), if_neg notBridge, xentry, xsde]
    exact ⟨rfl, rfl, rfl, fun some => absurd some bridges, fun _ => ⟨rfl, fAvg, rfl⟩⟩

/-- FREERUN takes a gain to ACQUIRE (R52). -/
theorem State.closedOn_of_freerun (free : c.sde.clock = .freerun) :
    let t := c.closedOn items
    (c.sde.selected = none → c.choice items ≠ none →
      t.sde.clock = .acquire ∧ t.sde.lockCount = 0 ∧ t.sde.stepDecisionPending = true) ∧
      (c.sde.selected ≠ none ∨ c.choice items = none → t.sde.clock = .freerun) := by
  have clock : (c.chosen items).sde.clock = .freerun := (State.chosen_clock items c).trans free
  have followed : (c.chosen items).followStage c.sde.selected =
      if c.sde.selected.isNone && (c.choice items).isSome then (c.chosen items).enterAcquireFollowing
      else c.chosen items := by
    rw [State.followStage_eq]
    dsimp only
    rw [clock, State.chosen_selected]
  dsimp only
  rw [(State.closedOn_eq items c).1, followed]
  refine ⟨fun none found => ?_, fun stays => ?_⟩
  · have gains : (c.sde.selected.isNone && (c.choice items).isSome) = true := by
      rw [none, Option.isSome_iff_ne_none.mpr found]; rfl
    rw [if_pos gains, State.enterAcquireFollowing_sde (by rw [clock]; decide)]
    exact ⟨rfl, rfl, rfl⟩
  · rw [if_neg]
    · exact clock
    · rw [Bool.and_eq_true, Option.isNone_iff_eq_none, Option.isSome_iff_ne_none]
      exact fun both => stays.elim (fun h => h both.1) both.2

/-- BRIDGE stays, and notes a decision where the selection moves (R58). -/
theorem State.closedOn_of_bridge (bridge : c.sde.clock = .bridge) :
    let t := c.closedOn items
    t.sde.clock = .bridge ∧ t.tsg = c.tsg ∧
      (c.choice items ≠ c.sde.selected → t.sde.decisionPending = (c.choice items).isSome) ∧
      (c.choice items = c.sde.selected → t.sde.decisionPending = c.sde.decisionPending) := by
  have clock : (c.chosen items).sde.clock = .bridge := (State.chosen_clock items c).trans bridge
  have followed : (c.chosen items).followStage c.sde.selected =
      if c.choice items = c.sde.selected then c.chosen items
      else (c.chosen items).withSde { (c.chosen items).sde with decisionPending := (c.choice items).isSome } := by
    rw [State.followStage_eq]
    dsimp only
    rw [clock, State.chosen_selected]
  dsimp only
  rw [(State.closedOn_eq items c).1, (State.closedOn_eq items c).2.1, followed]
  split
  next same =>
    exact ⟨clock, (State.chosen_frame items c).1, fun moved => absurd same moved, fun _ => by rw [State.chosen_sde]⟩
  next moved => exact ⟨clock, (State.chosen_frame items c).1, fun _ => rfl, fun same => absurd same moved⟩

/-- HOLDOVER goes to ACQUIRE where a slot is selected, with F_int seeded from F_app (R60, R78). -/
theorem State.closedOn_of_holdover (holdover : c.sde.clock = .holdover) :
    let t := c.closedOn items
    t.tsg = c.tsg ∧
      (c.choice items ≠ none →
        t.sde.clock = .acquire ∧ t.sde.fInt = c.tsg.fApp ∧ t.sde.assisted = false ∧ t.sde.lockCount = 0 ∧
          t.sde.stepDecisionPending = true) ∧
      (c.choice items = none →
        t.sde.clock = .holdover ∧ t.sde.fInt = c.sde.fInt ∧ t.sde.assisted = c.sde.assisted ∧
          t.sde.anchorCorr = c.sde.anchorCorr ∧ t.sde.anchorBin = c.sde.anchorBin ∧
          t.sde.anchorSeconds = c.sde.anchorSeconds ∧ t.sde.hours = c.sde.hours) := by
  have clock : (c.chosen items).sde.clock = .holdover := (State.chosen_clock items c).trans holdover
  have tsg := (State.chosen_frame items c).1
  have followed := State.followStage_of_holdover clock (old := c.sde.selected)
  rw [State.chosen_selected] at followed
  dsimp only
  rw [(State.closedOn_eq items c).1, (State.closedOn_eq items c).2.1, followed]
  by_cases found : c.choice items = none
  · rw [found, if_neg (by decide)]
    refine ⟨tsg, fun some => absurd rfl some, fun _ => ?_⟩
    rw [clock, State.chosen_sde]
    exact ⟨rfl, rfl, rfl, rfl, rfl, rfl, rfl⟩
  · rw [if_pos (Option.isSome_iff_ne_none.mpr found), State.acquireFromHoldover_sde clock,
      (State.enterAcquireFollowing_frame _).1]
    exact ⟨tsg, fun _ => ⟨rfl, congrArg Tsg.fApp tsg, rfl, rfl, rfl⟩, fun none => absurd none found⟩

end

end Sys2Proof.Machine
end

section
/-!
PROOFS. The close where no GOOD epoch drives it, the slots that a moved selection marks, and E at an entry (R49, R51, R53, R77, R78,
R115, R121).
-/

namespace Sys2Proof.Machine

section
variable {s b c : State} {n : SlotId} {step : Option Int} {set : Option Seconds}

/-! ## The slots that a selection marks -/

theorem State.closedOn_slot_state (closed : s.SlotsClosed b) (moves : b.Moves step set c) (n : SlotId) :
    ((c.closedOn s.summary).rmu.slots.get n).state =
      ((c.noteLfHalt (s.summary.get lfSlot)).markOf s.summary n
        ((s.closedSlot n).moved (stepMove n step) (renumbering b step set))).state := by
  rw [← State.marked_slot closed moves n]
  obtain ⟨d, hd⟩ : ∃ d : State, d = (c.noteLfHalt (s.summary.get lfSlot)).selectAndFollow s.summary := ⟨_, rfl⟩
  have final : (c.closedOn s.summary).rmu = d.rmu.adopt d.tru.config := by rw [hd]; rfl
  rw [← hd, final, Rmu.adopt_slot]
  rfl

/-- A moved selection moves the SELECTED state (R49, R51). -/
theorem State.closedOn_selects (closed : s.SlotsClosed b) (moves : b.Moves step set c)
    (moved : c.choice s.summary ≠ c.sde.selected) :
    (c.choice s.summary = some n → ((c.closedOn s.summary).rmu.slots.get n).state = .selected) ∧
      (c.sde.selected = some n → (s.summary.get n).state = .selected →
        ((c.closedOn s.summary).rmu.slots.get n).state = .usable) := by
  rw [State.closedOn_slot_state closed moves, State.markOf, State.noteLfHalt_choice, State.noteLfHalt_selected,
    if_neg moved]
  unfold markSelection
  refine ⟨fun new => by rw [if_pos new], fun old selected => ?_⟩
  have isSelected : ((s.closedSlot n).moved (stepMove n step) (renumbering b step set)).state = .selected :=
    (s.summary_state n).symm.trans selected
  rw [if_neg (fun new => moved (new.trans old.symm)), if_pos ⟨old, isSelected⟩]

/-! ## E at an entry -/

/-- E at an entry of the clock during a close, from the last selected slot as the close leaves it (R121). -/
def State.closeEntryE (s : State) : Int :=
  s.tru.config.eFloor + ((s.sde.lastSelected.bind fun m => (s.closedSlot m).lastValue).map mag).getD 0

/-- Where no step is ordered, a seconds set leaves the last epoch values. -/
theorem State.entryE_of_moves (closed : s.SlotsClosed b) (moves : b.Moves none set c) (tru : c.tru = s.tru)
    (last : c.sde.lastSelected = s.sde.lastSelected) : c.entryE = s.closeEntryE := by
  have value (m : SlotId) : (c.rmu.slots.get m).lastValue = (s.closedSlot m).lastValue := by
    have still : stepMove m none = 0 := by unfold stepMove; exact ite_self _
    rw [moves.rmu, Rmu.movedBy_get, closed.slot, still]
    exact Option.map_add_zero _
  unfold State.entryE State.closeEntryE
  rw [last, tru]
  simp only [value]

/-! ## The drive stage without a GOOD epoch -/

/-- No GOOD epoch of the selected slot drives the close: the clock is FREERUN, or the slot's epoch is not GOOD. -/
abbrev State.undriven (s : State) : Prop :=
  s.sde.clock = .freerun ∨ ∀ n, s.sde.selected = some n → ∀ e l, (s.summary.get n).outcome ≠ .good e l

/-- The undriven SDE holds, but for a lock count, E and the tolerance flags of a hold update (R53, R77). -/
theorem State.driveStage_of_undriven (closed : s.SlotsClosed b) (away : s.sde.clock ≠ .holdover) (rest : s.undriven) :
    let c := b.driveStage (s.tsg.seconds - 1) s.summary
    c.sde = { s.sde with lockCount := c.sde.lockCount, e := c.sde.e, tol := c.sde.tol } ∧
      (¬(s.sde.clock = .acquire ∨ s.sde.clock = .locked) → c = b) := by
  dsimp only
  rw [← closed.sde] at away ⊢
  have rest' : b.sde.clock = .freerun ∨
      ∀ n, b.sde.selected = some n → ∀ e l, (s.summary.get n).outcome ≠ .good e l := by rw [closed.sde]; exact rest
  by_cases loops : b.sde.clock = .acquire ∨ b.sde.clock = .locked
  · refine ⟨?_, fun h => absurd loops h⟩
    rcases Option.eq_none_or_eq_some b.sde.selected with selected | ⟨n, selected⟩
    · rw [State.driveStage_of_none away selected]
    · cases outcome : (s.summary.get n).outcome with
      | good e l =>
        have free := rest'.resolve_right fun h => h n selected e l outcome
        rcases loops with h | h <;> rw [h] at free <;> cases free
      | empty =>
        rw [State.driveStage_of_empty loops selected outcome, State.holdUpdate_sde]
      | faulty kinds =>
        rw [State.driveStage_of_faulty loops selected outcome, State.holdUpdate_sde, State.faultyEpoch_eq]
        split <;> rfl
      | none =>
        have idle : b.driveStage (s.tsg.seconds - 1) s.summary = b := by
          rw [State.driveStage_of_selected away selected, State.driveItem, outcome]
        rw [idle]
  · have still : b.driveStage (s.tsg.seconds - 1) s.summary = b := State.driveStage_of_rest away loops rest'
    rw [still]
    exact ⟨rfl, fun _ => rfl⟩

/-- Where no GOOD epoch drives, site time and the RMU stand. -/
theorem State.driveStage_rests (closed : s.SlotsClosed b) (rest : s.sde.clock = .holdover ∨ s.undriven) :
    let c := b.driveStage (s.tsg.seconds - 1) s.summary
    b.Moves none none c ∧ c.tsg.timeValid = s.tsg.timeValid := by
  have noGood : ¬(b.drives ∧ ∃ n e l, b.sde.selected = some n ∧ (s.summary.get n).outcome = .good e l) := by
    rintro ⟨drives, n, e, l, selected, good⟩
    rw [closed.drives] at drives
    rw [closed.sde] at selected
    rcases rest with clock | clock | none
    · rcases drives with h | h | h <;> rw [h] at clock <;> cases clock
    · rcases drives with h | h | h <;> rw [h] at clock <;> cases clock
    · exact none n selected e l good
  obtain ⟨tsg, rmu⟩ := State.driveStage_still (k := s.tsg.seconds - 1) noGood
  dsimp only
  refine ⟨State.Moves.still ?_ rmu, ?_⟩
  · rw [tsg]
  · rw [tsg]; exact closed.timeValid

/-- The judgement of assistance reads nothing that the closes of the slots write. -/
theorem State.SlotsClosed.judgeAssistance (closed : s.SlotsClosed b) (lf : SlotItem) :
    (b.judgeAssistance lf).sde = (s.judgeAssistance lf).sde ∧
      (b.judgeAssistance lf).tsg.fApp = (s.judgeAssistance lf).tsg.fApp := by
  have assistance : b.assistance lf = s.assistance lf := by
    unfold State.assistance; rw [closed.sde, closed.spm]
  have fApp : b.tsg.fApp = s.tsg.fApp := by rw [closed.tsg]
  have seconds : b.tsg.seconds = s.tsg.seconds := by rw [closed.tsg]
  have bin : b.currentBin = s.currentBin := State.currentBin_congr closed.ols
  unfold State.judgeAssistance
  rw [assistance, closed.sde, fApp]
  cases s.assistance lf with
  | some f =>
    dsimp only
    cases s.sde.assisted with
    | true => exact ⟨closed.sde, rfl⟩
    | false =>
      refine ⟨?_, rfl⟩
      show { b.sde with assisted := true } = { s.sde with assisted := true }
      rw [closed.sde]
  | none =>
    dsimp only
    cases s.sde.assisted with
    | true =>
      refine ⟨?_, fApp⟩
      rw [if_pos rfl, if_pos rfl, State.endAssistance_sde, State.endAssistance_sde, closed.sde, fApp, seconds, bin]
    | false => exact ⟨closed.sde, fApp⟩

end

end Sys2Proof.Machine
end

section
/-!
PROOFS. The clock after a GOOD epoch of the selected slot: the counts toward lock and its loss, and the selection that it then
follows (R52 to R60, R121).
-/

namespace Sys2Proof.Machine

section
variable {s b c g : State} {n : SlotId} {e : Int} {label : Option Seconds}

/-! ## The conditions, by the clock -/

theorem State.stepsAt_of_acquire (acquire : s.sde.clock = .acquire) : s.stepsAt e ↔ s.ordersStep e := by
  rw [State.stepsAt_iff]; exact and_iff_right (.inl acquire)

theorem State.locksAt_of_acquire (acquire : s.sde.clock = .acquire) :
    s.locksAt e ↔ s.within e ∧ 15 ≤ s.sde.lockCount ∧ ¬s.ordersStep e := by
  have notBridge : s.sde.clock ≠ .bridge := by rw [acquire]; decide
  rw [← State.stepsAt_of_acquire acquire]
  refine and_congr_right fun _ => ⟨fun h => ?_, fun h => .inl ⟨acquire, h⟩⟩
  exact (h.resolve_right notBridge).2

theorem State.locksAt_of_bridge (bridge : s.sde.clock = .bridge) : s.locksAt e ↔ s.within e :=
  ⟨And.left, fun h => ⟨h, .inr bridge⟩⟩

theorem State.not_locksAt_of_locked (locked : s.sde.clock = .locked) : ¬s.locksAt e := by
  rintro ⟨-, ⟨acquire, -⟩ | bridge⟩
  · rw [locked] at acquire; cases acquire
  · rw [locked] at bridge; cases bridge

theorem State.decidesAt_of_locked (locked : s.sde.clock = .locked) :
    s.decidesAt e ↔ ¬s.within e ∧ (s.sde.decisionPending = true ∨ 3 ≤ s.sde.lockLoss) := by
  simp [State.decidesAt, locked]

theorem State.decidesAt_of_bridge (bridge : s.sde.clock = .bridge) : s.decidesAt e ↔ ¬s.within e := by
  simp [State.decidesAt, bridge]

/-- The epoch leaves the clock LOCKED, as the statement reads it (R53, R57, R59). -/
theorem State.updatesLockedAt_iff (drives : s.drives) :
    s.updatesLockedAt e ↔
      s.sde.clock = .acquire ∧ ¬s.ordersStep e ∧ s.within e ∧ 15 ≤ s.sde.lockCount ∨
        s.sde.clock = .locked ∧ (s.within e ∨ s.sde.decisionPending = false ∧ s.sde.lockLoss < 3) ∨
        s.sde.clock = .bridge ∧ s.within e := by
  unfold State.updatesLockedAt
  rcases drives with acquire | locked | bridge
  · rw [State.locksAt_of_acquire acquire, acquire]
    simp only [reduceCtorEq, false_and, or_false, true_and]
    exact ⟨fun ⟨within, full, noStep⟩ => ⟨noStep, within, full⟩, fun ⟨noStep, within, full⟩ => ⟨within, full, noStep⟩⟩
  · rw [iff_false_intro (State.not_locksAt_of_locked locked), State.decidesAt_of_locked locked, locked]
    simp only [reduceCtorEq, false_and, or_false, false_or, true_and, not_and_or, not_not, not_or, Bool.not_eq_true,
      Nat.not_le]
  · rw [State.locksAt_of_bridge bridge, bridge]
    simp only [reduceCtorEq, false_and, or_false, false_or, true_and]

section
variable (d : s.GoodDriven n e label b g c)
include d

/-! ## The SDE's record after the epoch -/

/-- The counting of the epoch stands through its update. -/
theorem State.GoodDriven.record {steps decides locks within : Bool} (isSteps : decide (s.stepsAt e) = steps)
    (isDecides : decide (s.decidesAt e) = decides) (isLocks : decide (s.locksAt e) = locks)
    (isWithin : decide (s.within e) = within) :
    let a := s.sde.afterGood steps decides locks within
    c.sde.clock = a.clock ∧ c.sde.lockCount = a.lockCount ∧ c.sde.lockLoss = a.lockLoss ∧
      c.sde.decisionPending = a.decisionPending ∧ c.sde.stepDecisionPending = a.stepDecisionPending ∧
      c.sde.stepNow = a.stepNow ∧ c.sde.bridgeRemaining = a.bridgeRemaining ∧
      c.sde.lockedSinceStart = a.lockedSinceStart ∧ c.sde.lastSelected = s.sde.lastSelected := by
  have counted := d.counted.sde
  rw [isSteps, isDecides, isLocks, isWithin] at counted
  dsimp only
  rw [d.sde]
  dsimp only
  rw [State.averaged_sde]
  dsimp only
  rw [counted]
  exact ⟨rfl, rfl, rfl, rfl, rfl, rfl, rfl, rfl, rfl⟩

theorem State.GoodDriven.choice : c.choice s.summary = chooseSlot s.summary s.tru.config s.sde.selected := by
  unfold State.choice
  rw [d.tru, d.update_selected, d.selected]

theorem State.GoodDriven.lastSelected : c.sde.lastSelected = s.sde.lastSelected :=
  (d.record rfl rfl rfl rfl).2.2.2.2.2.2.2.2

/-- Where the selection stands, the record of the epoch is that of the close. -/
theorem State.GoodDriven.stands (same : chooseSlot s.summary s.tru.config s.sde.selected = s.sde.selected)
    {steps decides locks within : Bool} (isSteps : decide (s.stepsAt e) = steps)
    (isDecides : decide (s.decidesAt e) = decides) (isLocks : decide (s.locksAt e) = locks)
    (isWithin : decide (s.within e) = within) :
    let a := s.sde.afterGood steps decides locks within
    let t := c.closedOn s.summary
    t.sde.clock = a.clock ∧ t.sde.lockCount = a.lockCount ∧ t.sde.lockLoss = a.lockLoss ∧
      t.sde.decisionPending = a.decisionPending ∧ t.sde.stepDecisionPending = a.stepDecisionPending ∧
      t.sde.stepNow = a.stepNow ∧ t.sde.bridgeRemaining = a.bridgeRemaining ∧
      t.sde.lockedSinceStart = a.lockedSinceStart ∧ t.tsg.timeValid = (s.tsg.timeValid || locks) := by
  obtain ⟨r1, r2, r3, r4, r5, r6, r7, r8, -⟩ := d.record isSteps isDecides isLocks isWithin
  obtain ⟨sde, tsg, -⟩ := State.closedOn_of_same d.away
    ((d.choice.trans same).trans (d.update_selected.trans d.selected.symm).symm)
  dsimp only
  rw [sde, tsg, d.timeValid, isLocks]
  exact ⟨r1, r2, r3, r4, r5, r6, r7, r8, rfl⟩

/-! ## Where the selection stands -/

variable (same : chooseSlot s.summary s.tru.config s.sde.selected = s.sde.selected)
include same

/-- A GOOD epoch in ACQUIRE counts toward lock (R53, R62). -/
theorem State.GoodDriven.stands_acquire (acquire : s.sde.clock = .acquire) :
    let t := c.closedOn s.summary
    t.sde.stepDecisionPending = false ∧ t.sde.stepNow = false ∧
      (s.ordersStep e ∨ ¬s.within e →
        t.sde.clock = .acquire ∧ t.sde.lockCount = 0 ∧ t.tsg.timeValid = s.tsg.timeValid) ∧
      (¬s.ordersStep e → s.within e → s.sde.lockCount < 15 →
        t.sde.clock = .acquire ∧ t.sde.lockCount = s.sde.lockCount + 1 ∧ t.tsg.timeValid = s.tsg.timeValid) ∧
      (¬s.ordersStep e → s.within e → 15 ≤ s.sde.lockCount →
        t.sde.clock = .locked ∧ t.tsg.timeValid = true ∧ t.sde.lockedSinceStart = true ∧ t.sde.lockLoss = 0) := by
  have decides : decide (s.decidesAt e) = true := decide_eq_true (.inl acquire)
  have locks := State.locksAt_of_acquire (e := e) acquire
  have steps := State.stepsAt_of_acquire (e := e) acquire
  dsimp only
  refine ⟨?_, ?_, fun unlocked => ?_, fun noStep within few => ?_, fun noStep within full => ?_⟩
  · exact (d.stands same rfl decides rfl rfl).2.2.2.2.1
  · exact (d.stands same rfl decides rfl rfl).2.2.2.2.2.1
  · have noLock : decide (s.locksAt e) = false := decide_eq_false fun h => by
      obtain ⟨within, -, noStep⟩ := locks.mp h
      exact unlocked.elim noStep fun h => h within
    obtain ⟨clock, count, -, -, -, -, -, -, valid⟩ := d.stands same rfl decides noLock rfl
    rw [clock, count, valid, Bool.or_false]
    refine ⟨by simp [Sde.afterGood, acquire], if_pos ?_, rfl⟩
    rw [Bool.or_eq_true, decide_eq_true_iff, Bool.not_eq_true', decide_eq_false_iff_not]
    exact unlocked.imp_left steps.mpr
  · obtain ⟨clock, count, -, -, -, -, -, -, valid⟩ := d.stands same (decide_eq_false fun h => noStep (steps.mp h)) decides
      (decide_eq_false fun h => absurd (locks.mp h).2.1 (Nat.not_le.mpr few)) (decide_eq_true within)
    rw [clock, count, valid, Bool.or_false]
    refine ⟨by simp [Sde.afterGood, acquire], ?_, rfl⟩
    show min 16 (s.sde.lockCount + 1) = _
    omega
  · obtain ⟨clock, -, loss, -, -, -, -, since, valid⟩ := d.stands same (decide_eq_false fun h => noStep (steps.mp h))
      decides (decide_eq_true (locks.mpr ⟨within, full, noStep⟩)) (decide_eq_true within)
    rw [clock, loss, valid, since]
    exact ⟨rfl, Bool.or_true _, Bool.or_true _, rfl⟩

/-- A GOOD epoch in LOCKED counts toward the loss of lock (R55, R57). -/
theorem State.GoodDriven.stands_locked (locked : s.sde.clock = .locked) :
    let t := c.closedOn s.summary
    (s.within e → t.sde.clock = .locked ∧ t.sde.lockLoss = 0 ∧ t.sde.decisionPending = false) ∧
      (¬s.within e → s.sde.decisionPending = false → s.sde.lockLoss < 3 →
        t.sde.clock = .locked ∧ t.sde.lockLoss = s.sde.lockLoss + 1) ∧
      (¬s.within e → s.sde.decisionPending = true ∨ 3 ≤ s.sde.lockLoss →
        t.sde.clock = .acquire ∧ t.sde.lockCount = 0 ∧ t.sde.decisionPending = false ∧
          t.sde.stepDecisionPending = false) := by
  have decides := State.decidesAt_of_locked (e := e) locked
  have noLock : decide (s.locksAt e) = false := decide_eq_false (State.not_locksAt_of_locked locked)
  have noStep (h : ¬s.decidesAt e) : decide (s.stepsAt e) = false := decide_eq_false fun x => h x.1
  dsimp only
  refine ⟨fun within => ?_, fun beyond none few => ?_, fun beyond lost => ?_⟩
  · have stays : ¬s.decidesAt e := fun h => (decides.mp h).1 within
    obtain ⟨clock, -, loss, pending, -⟩ :=
      d.stands same (noStep stays) (decide_eq_false stays) noLock (decide_eq_true within)
    rw [clock, loss, pending]
    simp [Sde.afterGood, locked]
  · have stays : ¬s.decidesAt e := fun h => (decides.mp h).2.elim (fun on => by rw [none] at on; cases on)
      fun three => absurd three (Nat.not_le.mpr few)
    obtain ⟨clock, -, loss, -⟩ := d.stands same (noStep stays) (decide_eq_false stays) noLock (decide_eq_false beyond)
    rw [clock, loss]
    refine ⟨by simp [Sde.afterGood, locked], ?_⟩
    have counts : (s.sde.afterGood false false false false).lockLoss = min 4 (s.sde.lockLoss + 1) := by
      simp [Sde.afterGood, locked, none]
    rw [counts]
    omega
  · obtain ⟨clock, count, -, pending, stepPending, -⟩ :=
      d.stands same rfl (decide_eq_true (decides.mpr ⟨beyond, lost⟩)) noLock (decide_eq_false beyond)
    rw [clock, count, pending, stepPending]
    simp [Sde.afterGood, locked]

/-- A GOOD epoch in BRIDGE decides it (R59). -/
theorem State.GoodDriven.stands_bridge (bridge : s.sde.clock = .bridge) :
    let t := c.closedOn s.summary
    t.sde.bridgeRemaining = 0 ∧ t.sde.decisionPending = false ∧
      (s.within e → t.sde.clock = .locked ∧ t.tsg.timeValid = true ∧ t.sde.lockLoss = 0) ∧
      (¬s.within e → t.sde.clock = .acquire ∧ t.sde.lockCount = 0 ∧ t.sde.stepDecisionPending = false) := by
  have locks := State.locksAt_of_bridge (e := e) bridge
  have decides := State.decidesAt_of_bridge (e := e) bridge
  dsimp only
  by_cases within : s.within e
  · obtain ⟨clock, -, loss, pending, -, -, remaining, -, valid⟩ := d.stands same rfl
      (decide_eq_false fun h => decides.mp h within) (decide_eq_true (locks.mpr within)) (decide_eq_true within)
    rw [clock, loss, pending, remaining, valid]
    exact ⟨by simp [Sde.afterGood], by simp [Sde.afterGood], fun _ => ⟨rfl, Bool.or_true _, by simp [Sde.afterGood]⟩,
      fun h => absurd within h⟩
  · obtain ⟨clock, count, -, pending, stepPending, -, remaining, -⟩ := d.stands same rfl
      (decide_eq_true (decides.mpr within)) (decide_eq_false fun h => within (locks.mp h)) (decide_eq_false within)
    rw [clock, count, pending, stepPending, remaining]
    refine ⟨?_, ?_, fun h => absurd h within, fun _ => ⟨?_, ?_, rfl⟩⟩ <;> simp [Sde.afterGood, bridge]

end

/-! ## Where the selection moves -/

theorem State.not_steps_of_locked (locked : s.updatesLockedAt e) : ¬s.stepsAt e := fun steps =>
  locked.elim (State.not_locksAt_of_steps steps) fun h => h.2 steps.1

section
variable (d : s.GoodDriven n e label b g c)
include d

/-- Where no step is ordered, E at an entry is that of the close (R121). -/
theorem State.GoodDriven.entryE (noStep : ¬s.stepsAt e) : c.entryE = s.closeEntryE := by
  have moves := d.moves
  dsimp only at moves
  rw [if_neg noStep] at moves
  exact State.entryE_of_moves d.closed moves d.tru d.lastSelected

theorem State.GoodDriven.closed_timeValid :
    (c.closedOn s.summary).tsg.timeValid = (s.tsg.timeValid || decide (s.locksAt e)) := by
  rw [(State.closedOn_frame s.summary c).1]
  exact d.timeValid

theorem State.GoodDriven.closed_lockedSinceStart (locks : s.locksAt e) :
    (c.closedOn s.summary).sde.lockedSinceStart = true := by
  obtain ⟨-, -, -, -, -, -, -, -, -, since, -⟩ := State.closedOn_sde d.away s.summary
  rw [since, (d.record rfl rfl (decide_eq_true locks) rfl).2.2.2.2.2.2.2.1]
  exact Bool.or_true _

variable (moved : chooseSlot s.summary s.tru.config s.sde.selected ≠ s.sde.selected)
include moved

theorem State.GoodDriven.choice_moved : c.choice s.summary ≠ c.sde.selected := by
  rw [d.choice, d.update_selected, ← d.selected]
  exact moved

/-- LOCKED after the epoch, and the selection lost (R56, R121). -/
theorem State.GoodDriven.lost_locked (locked : s.updatesLockedAt e)
    (lost : chooseSlot s.summary s.tru.config s.sde.selected = none) :
    let t := c.closedOn s.summary
    t.sde.lockLoss = 0 ∧ t.sde.decisionPending = false ∧ t.sde.e = min s.closeEntryE eCap ∧
      (0 < s.tru.config.bridgeTime →
        t.sde.clock = .bridge ∧ t.sde.bridgeRemaining = s.tru.config.bridgeTime ∧
          t.tsg.fApp = clampCorr t.sde.fInt ∧ t.sde.anchorCorr = t.sde.fInt) ∧
      (s.tru.config.bridgeTime = 0 →
        t.sde.clock = .holdover ∧ t.sde.anchorCorr = t.sde.fAvg ∧ t.sde.hours = 0) := by
  have clock : c.sde.clock = .locked := by rw [d.clock, if_pos locked]
  have followed := State.closedOn_of_lost_locked clock (d.choice_moved moved) (d.choice.trans lost)
  obtain ⟨fInt, -, fAvg, -⟩ := State.closedOn_sde d.away s.summary
  dsimp only at followed ⊢
  rw [d.tru, d.entryE (State.not_steps_of_locked locked), ← fInt, ← fAvg] at followed
  exact followed

/-- ACQUIRE after the epoch, and the selection lost (R54, R60, R121). -/
theorem State.GoodDriven.lost_acquire (unlocked : ¬s.updatesLockedAt e)
    (lost : chooseSlot s.summary s.tru.config s.sde.selected = none) :
    let t := c.closedOn s.summary
    t.sde.stepDecisionPending = false ∧
      (s.tsg.timeValid = true →
        t.sde.clock = .holdover ∧ t.sde.anchorCorr = t.sde.fAvg ∧ t.sde.hours = 0 ∧
          (¬s.ordersStep e → t.sde.e = min s.closeEntryE eCap)) ∧
      (s.tsg.timeValid = false → t.sde.clock = .freerun ∧ t.sde.e = eCap) := by
  have clock : c.sde.clock = .acquire := by rw [d.clock, if_neg unlocked]
  have valid : c.tsg.timeValid = s.tsg.timeValid := by
    rw [d.timeValid, decide_eq_false fun h => unlocked (.inl h), Bool.or_false]
  obtain ⟨pending, holds, runs⟩ := State.closedOn_of_lost_acquire clock (d.choice_moved moved) (d.choice.trans lost)
  obtain ⟨-, -, fAvg, -⟩ := State.closedOn_sde d.away s.summary
  rw [valid] at holds runs
  rw [← fAvg] at holds
  refine ⟨pending, fun on => ?_, runs⟩
  obtain ⟨isClock, anchor, hours, isE⟩ := holds on
  exact ⟨isClock, anchor, hours, fun noStep => by rw [isE, d.entryE fun h => noStep h.2]⟩

/-- The selection moves to a slot (R52, R57). -/
theorem State.GoodDriven.switched (found : chooseSlot s.summary s.tru.config s.sde.selected ≠ none) :
    let t := c.closedOn s.summary
    (s.updatesLockedAt e → t.sde.clock = .locked ∧ t.sde.decisionPending = true) ∧
      (¬s.updatesLockedAt e → t.sde.clock = .acquire ∧ t.sde.lockCount = 0 ∧ t.sde.stepDecisionPending = true) := by
  obtain ⟨clock, -, acquires, locks⟩ := State.closedOn_of_switch d.loops (d.choice_moved moved) (by rw [d.choice]; exact found)
  have count := ((State.closedOn_marks s.summary c).2 (d.choice_moved moved)).2.1
  rw [d.clock] at clock acquires locks
  refine ⟨fun locked => ?_, fun unlocked => ?_⟩
  · rw [if_pos locked] at clock locks
    exact ⟨clock, locks rfl⟩
  · rw [if_neg unlocked] at clock acquires
    exact ⟨clock, count, acquires rfl⟩

end

end

end Sys2Proof.Machine
end

section
/-!
PROOFS. The clock at an epoch close (O57).
-/

namespace Sys2Proof.Machine

section
variable {s b c : State} {n : SlotId}

/-! ## A close that no GOOD epoch drives -/

/-- The drive stage of a close of s that no GOOD epoch drives, outside HOLDOVER: from b, the slots closed, to c. -/
structure State.Rests (s b c : State) : Prop where
  closed : s.SlotsClosed b
  away : s.sde.clock ≠ .holdover
  sde : c.sde = { s.sde with lockCount := c.sde.lockCount, e := c.sde.e, tol := c.sde.tol }
  moves : b.Moves none none c
  valid : c.tsg.timeValid = s.tsg.timeValid
  tru : c.tru = s.tru
  still : ¬(s.sde.clock = .acquire ∨ s.sde.clock = .locked) → c = b

theorem State.driveStage_tru (closed : s.SlotsClosed b) :
    (b.driveStage (s.tsg.seconds - 1) s.summary).tru = s.tru := (State.driveStage_frame _ _ b).1.trans closed.tru

theorem State.rests_of_undriven (closed : s.SlotsClosed b) (away : s.sde.clock ≠ .holdover) (rest : s.undriven) :
    s.Rests b (b.driveStage (s.tsg.seconds - 1) s.summary) := by
  obtain ⟨sde, still⟩ := State.driveStage_of_undriven closed away rest
  obtain ⟨moves, valid⟩ := State.driveStage_rests closed (.inr rest)
  exact ⟨closed, away, sde, moves, valid, State.driveStage_tru closed, still⟩

section
variable (r : s.Rests b c)
include r

theorem State.Rests.clock : c.sde.clock = s.sde.clock := by rw [r.sde]

theorem State.Rests.selected : c.sde.selected = s.sde.selected := by rw [r.sde]

theorem State.Rests.choice : c.choice s.summary = chooseSlot s.summary s.tru.config s.sde.selected := by
  unfold State.choice
  rw [r.tru, r.selected]

theorem State.Rests.entryE : c.entryE = s.closeEntryE :=
  State.entryE_of_moves r.closed r.moves r.tru (by rw [r.sde])

theorem State.Rests.stands (same : chooseSlot s.summary s.tru.config s.sde.selected = s.sde.selected) :
    (c.closedOn s.summary).sde.clock = s.sde.clock := by
  rw [(State.closedOn_of_same (by rw [r.clock]; exact r.away) (r.choice.trans (same.trans r.selected.symm))).1]
  exact r.clock

theorem State.Rests.moved (moves : chooseSlot s.summary s.tru.config s.sde.selected ≠ s.sde.selected) :
    c.choice s.summary ≠ c.sde.selected := by
  rw [r.choice, r.selected]
  exact moves

/-- Undriven in ACQUIRE, the clock follows the selection (R52, R54, R60). -/
theorem State.Rests.acquire (acquire : s.sde.clock = .acquire) :
    let t := c.closedOn s.summary
    let new := chooseSlot s.summary s.tru.config s.sde.selected
    (new = s.sde.selected → t.sde.clock = .acquire) ∧
      (new ≠ s.sde.selected → new ≠ none →
        t.sde.clock = .acquire ∧ t.sde.lockCount = 0 ∧ t.sde.stepDecisionPending = true) ∧
      (new ≠ s.sde.selected → new = none →
        t.sde.stepDecisionPending = false ∧
          (s.tsg.timeValid = true →
            t.sde.clock = .holdover ∧ t.sde.anchorCorr = s.sde.fAvg ∧ t.sde.hours = 0 ∧
              t.sde.e = min s.closeEntryE eCap) ∧
          (s.tsg.timeValid = false → t.sde.clock = .freerun ∧ t.sde.e = eCap)) := by
  have clock : c.sde.clock = .acquire := r.clock.trans acquire
  have fAvg : c.sde.fAvg = s.sde.fAvg := by rw [r.sde]
  refine ⟨fun same => (r.stands same).trans acquire, fun moves found => ?_, fun moves lost => ?_⟩
  · obtain ⟨isClock, -, pending, -⟩ :=
      State.closedOn_of_switch (.inl clock) (r.moved moves) (by rw [r.choice]; exact found)
    exact ⟨isClock.trans clock, ((State.closedOn_marks s.summary c).2 (r.moved moves)).2.1, pending clock⟩
  · have followed := State.closedOn_of_lost_acquire clock (r.moved moves) (r.choice.trans lost)
    dsimp only at followed
    rw [r.valid, fAvg, r.entryE] at followed
    exact followed

/-- Undriven in LOCKED, the clock follows the selection (R56, R57). -/
theorem State.Rests.locked (locked : s.sde.clock = .locked) :
    let t := c.closedOn s.summary
    let new := chooseSlot s.summary s.tru.config s.sde.selected
    (new = s.sde.selected → t.sde.clock = .locked) ∧
      (new ≠ s.sde.selected → new ≠ none → t.sde.clock = .locked ∧ t.sde.decisionPending = true) ∧
      (new ≠ s.sde.selected → new = none →
        t.sde.lockLoss = 0 ∧ t.sde.decisionPending = false ∧ t.sde.e = min s.closeEntryE eCap ∧
          (0 < s.tru.config.bridgeTime →
            t.sde.clock = .bridge ∧ t.sde.bridgeRemaining = s.tru.config.bridgeTime ∧ t.sde.fInt = s.sde.fInt ∧
              t.tsg.fApp = clampCorr s.sde.fInt ∧ t.sde.anchorCorr = s.sde.fInt) ∧
          (s.tru.config.bridgeTime = 0 →
            t.sde.clock = .holdover ∧ t.sde.anchorCorr = s.sde.fAvg ∧ t.sde.hours = 0)) := by
  have clock : c.sde.clock = .locked := r.clock.trans locked
  have fAvg : c.sde.fAvg = s.sde.fAvg := by rw [r.sde]
  have fInt : c.sde.fInt = s.sde.fInt := by rw [r.sde]
  refine ⟨fun same => (r.stands same).trans locked, fun moves found => ?_, fun moves lost => ?_⟩
  · obtain ⟨isClock, -, -, pending⟩ :=
      State.closedOn_of_switch (.inr clock) (r.moved moves) (by rw [r.choice]; exact found)
    exact ⟨isClock.trans clock, pending clock⟩
  · obtain ⟨loss, pending, isE, bridges, holds⟩ :=
      State.closedOn_of_lost_locked clock (r.moved moves) (r.choice.trans lost)
    rw [r.entryE] at isE
    rw [r.tru, fInt] at bridges
    rw [r.tru, fAvg] at holds
    refine ⟨loss, pending, isE, fun some => ?_, holds⟩
    obtain ⟨isClock, remaining, fApp, anchor⟩ := bridges some
    exact ⟨isClock, remaining, (State.closedOn_sde (by rw [r.clock]; exact r.away) s.summary).1.trans fInt, fApp, anchor⟩

/-- Undriven in BRIDGE, a moved selection is noted (R58). -/
theorem State.Rests.bridge (bridge : s.sde.clock = .bridge) :
    let t := c.closedOn s.summary
    let new := chooseSlot s.summary s.tru.config s.sde.selected
    t.sde.clock = .bridge ∧ t.tsg.fApp = s.tsg.fApp ∧
      (new ≠ s.sde.selected → t.sde.decisionPending = new.isSome) ∧
      (new = s.sde.selected → t.sde.decisionPending = s.sde.decisionPending) := by
  obtain ⟨clock, tsg, moved, same⟩ := State.closedOn_of_bridge (items := s.summary) (r.clock.trans bridge)
  have pending : c.sde.decisionPending = s.sde.decisionPending := by rw [r.sde]
  rw [r.choice, r.selected] at moved same
  rw [pending] at same
  refine ⟨clock, ?_, moved, same⟩
  rw [tsg, r.still (by rw [bridge]; decide), r.closed.tsg]

/-- In FREERUN a gain takes the clock to ACQUIRE (R52). -/
theorem State.Rests.freerun (free : s.sde.clock = .freerun) :
    let t := c.closedOn s.summary
    let new := chooseSlot s.summary s.tru.config s.sde.selected
    (s.sde.selected = none → new ≠ none →
      t.sde.clock = .acquire ∧ t.sde.lockCount = 0 ∧ t.sde.stepDecisionPending = true ∧ t.sde.fInt = s.sde.fInt) ∧
      (s.sde.selected ≠ none ∨ new = none → t.sde.clock = .freerun) := by
  obtain ⟨gains, stays⟩ := State.closedOn_of_freerun (items := s.summary) (r.clock.trans free)
  have fInt : c.sde.fInt = s.sde.fInt := by rw [r.sde]
  rw [r.selected, r.choice] at gains stays
  refine ⟨fun none found => ?_, stays⟩
  obtain ⟨clock, count, pending⟩ := gains none found
  exact ⟨clock, count, pending, (State.closedOn_sde (by rw [r.clock]; exact r.away) s.summary).1.trans fInt⟩

end

/-! ## HOLDOVER -/

/-- In HOLDOVER assistance is judged, and a slot selected takes the clock to ACQUIRE (R60, R78, R115). -/
theorem State.closedOn_holdover (closed : s.SlotsClosed b) (holdover : s.sde.clock = .holdover) :
    let c := b.driveStage (s.tsg.seconds - 1) s.summary
    let t := c.closedOn s.summary
    let new := chooseSlot s.summary s.tru.config s.sde.selected
    let held := s.judgeAssistance (s.summary.get 2)
    t.tsg.fApp = held.tsg.fApp ∧
      (new ≠ none →
        t.sde.clock = .acquire ∧ t.sde.fInt = t.tsg.fApp ∧ t.sde.assisted = false ∧ t.sde.lockCount = 0 ∧
          t.sde.stepDecisionPending = true) ∧
      (new = none →
        t.sde.clock = .holdover ∧ t.sde.fInt = s.sde.fInt ∧ t.sde.assisted = held.sde.assisted ∧
          t.sde.anchorCorr = held.sde.anchorCorr ∧ t.sde.anchorBin = held.sde.anchorBin ∧
          t.sde.anchorSeconds = held.sde.anchorSeconds ∧ t.sde.hours = held.sde.hours) := by
  have clockB : b.sde.clock = .holdover := by rw [closed.sde]; exact holdover
  have tru := State.driveStage_tru closed
  have selected : (b.driveStage (s.tsg.seconds - 1) s.summary).sde.selected = s.sde.selected := by
    rw [State.driveStage_selected, closed.sde]
  obtain ⟨sde, fApp⟩ := closed.judgeAssistance (s.summary.get 2)
  have isHeld : b.driveStage (s.tsg.seconds - 1) s.summary = b.judgeAssistance (s.summary.get 2) :=
    State.driveStage_of_holdover clockB
  have kept : (s.judgeAssistance (s.summary.get 2)).sde.clock = s.sde.clock ∧
      (s.judgeAssistance (s.summary.get 2)).sde.fInt = s.sde.fInt := by
    unfold State.judgeAssistance
    split
    · dsimp only; split <;> exact ⟨rfl, rfl⟩
    · split <;> exact ⟨rfl, rfl⟩
  dsimp only
  rw [isHeld] at tru selected ⊢
  generalize b.judgeAssistance (s.summary.get 2) = c at *
  have choice : c.choice s.summary = chooseSlot s.summary s.tru.config s.sde.selected := by
    unfold State.choice; rw [tru, selected]
  obtain ⟨tsg, acquires, holds⟩ := State.closedOn_of_holdover (items := s.summary) (c := c)
    (by rw [sde]; exact kept.1.trans holdover)
  rw [choice] at acquires holds
  rw [sde, kept.2] at holds
  rw [tsg]
  exact ⟨fApp, acquires, holds⟩

/-! ## Every close -/

/-- A close is driven by a GOOD epoch of the selected slot, or finds HOLDOVER, or is not driven. -/
theorem State.close_cases (s : State) :
    s.sde.clock = .holdover ∨ s.sde.clock ≠ .holdover ∧ s.undriven ∨
      s.drives ∧ ∃ n e l, s.sde.selected = some n ∧ (s.summary.get n).outcome = .good e l := by
  by_cases good : ∃ n e l, s.sde.selected = some n ∧ (s.summary.get n).outcome = .good e l
  · cases clock : s.sde.clock with
    | holdover => exact .inl rfl
    | freerun => exact .inr (.inl ⟨by decide, .inl clock⟩)
    | acquire => exact .inr (.inr ⟨.inl clock, good⟩)
    | locked => exact .inr (.inr ⟨.inr (.inl clock), good⟩)
    | bridge => exact .inr (.inr ⟨.inr (.inr clock), good⟩)
  · by_cases holdover : s.sde.clock = .holdover
    · exact .inl holdover
    · exact .inr (.inl ⟨holdover, .inr fun n selected e l outcome => good ⟨n, e, l, selected, outcome⟩⟩)

theorem State.judgeAssistance_lastSelected (lf : SlotItem) (s : State) :
    (s.judgeAssistance lf).sde.lastSelected = s.sde.lastSelected := by
  unfold State.judgeAssistance
  split
  · dsimp only; split <;> rfl
  · split <;> rfl

/-- The drive stage leaves the last selected slot. -/
theorem State.driveStage_lastSelected (closed : s.SlotsClosed b)
    (next : exec .epochClose s = .next ((b.driveStage (s.tsg.seconds - 1) s.summary).closedOn s.summary)) :
    (b.driveStage (s.tsg.seconds - 1) s.summary).sde.lastSelected = s.sde.lastSelected := by
  rcases s.close_cases with holdover | ⟨away, rest⟩ | ⟨drives, n, e, l, selected, good⟩
  · rw [State.driveStage_of_holdover (by rw [closed.sde]; exact holdover), State.judgeAssistance_lastSelected, closed.sde]
  · rw [(State.rests_of_undriven closed away rest).sde]
  · obtain ⟨g, d⟩ := State.goodDriven_of_closed closed next drives selected good
    exact d.lastSelected

end

end Sys2Proof.Machine
end

section
/-!
PROOFS. The clock at an epoch close (O57).
-/

namespace Sys2Proof.Machine

/-- Settles O57: the drive by whether a GOOD epoch drives the close, the selection that the clock then follows, and CLOCK_STATE and
SELECTION through the stages. -/
theorem clockFollowsEpochs : Obligations.ClockFollowsEpochs := by
  intro s due
  obtain ⟨b, closed, next⟩ := epochClose_stages due
  change exec .epochClose s = .next ((b.driveStage (s.tsg.seconds - 1) s.summary).closedOn s.summary) at next
  have last := State.driveStage_lastSelected closed next
  have tru := State.driveStage_tru closed
  obtain ⟨step, set, ⟨moves, -⟩⟩ := State.driveStage_movesOnOrder closed
  have files := State.driveStage_files (s.tsg.seconds - 1) s.summary b
  have reports := (closed.reports.trans (State.driveStage_reports (s.tsg.seconds - 1) s.summary b)).trans
    (State.closedOn_reports s.summary _)
  have before : (b.driveStage (s.tsg.seconds - 1) s.summary).sde.selected = s.sde.selected := by
    rw [State.driveStage_selected, closed.sde]
  have choice : (b.driveStage (s.tsg.seconds - 1) s.summary).choice s.summary =
      chooseSlot s.summary s.tru.config s.sde.selected := by unfold State.choice; rw [tru, before]
  obtain ⟨keeps, marks⟩ := State.closedOn_marks s.summary (b.driveStage (s.tsg.seconds - 1) s.summary)
  rw [choice, before, last] at keeps marks
  refine ⟨(b.driveStage (s.tsg.seconds - 1) s.summary).closedOn s.summary, next, ?_⟩
  dsimp only
  refine ⟨(State.closedOn_selected _ _).trans choice, keeps, fun moved => ?_, fun n e l selected good => ⟨fun same => ?_,
    fun moved drives => ?_⟩, fun rest => ⟨?_, fun free => ?_, fun acquire => ?_, fun locked => ?_, fun bridge => ?_,
    fun holdover => ?_⟩, reports.told⟩
  · obtain ⟨lastSelected, count, mismatch, now⟩ := marks moved
    have moves' : (b.driveStage (s.tsg.seconds - 1) s.summary).choice s.summary ≠
        (b.driveStage (s.tsg.seconds - 1) s.summary).sde.selected := by rw [choice, before]; exact moved
    have selects (n : SlotId) := State.closedOn_selects (n := n) closed moves moves'
    rw [choice, before] at selects
    refine ⟨lastSelected, count, mismatch, now, fun n => (selects n).1, fun n => (selects n).2, fun p inn => ?_⟩
    have inn' : (b.driveStage (s.tsg.seconds - 1) s.summary).attached p = true := by
      rw [← inn]; exact State.attached_congr (congrArg Tru.tenants (State.closedOn_frame _ _).2.2.1.symm) p
    have tells := State.closedOn_tells moves' inn'
    rw [choice] at tells
    exact State.told_of_tells (by simp [Report.kind])
      (.earlier ((closed.files p).before.trans (files p).before) tells) inn
  · have driven (drives : s.drives) := State.goodDriven_of_closed closed next drives selected good
    refine ⟨fun acquire => ?_, fun locked => ?_, fun bridge => ?_⟩
    · obtain ⟨g, d⟩ := driven (.inl acquire)
      exact d.stands_acquire same acquire
    · obtain ⟨g, d⟩ := driven (.inr (.inl locked))
      exact d.stands_locked same locked
    · obtain ⟨g, d⟩ := driven (.inr (.inr bridge))
      exact d.stands_bridge same bridge
  · obtain ⟨g, d⟩ := State.goodDriven_of_closed closed next drives selected good
    have updates := State.updatesLockedAt_iff (e := e) drives
    refine ⟨fun locks away => ?_, fun stays => ?_, fun locks found => ?_, fun unlocked found => ?_, fun locks lost => ?_,
      fun unlocked lost => ?_⟩
    · have enters : s.locksAt e := (updates.mpr locks).resolve_right fun h => away h.1
      exact ⟨by rw [d.closed_timeValid, decide_eq_true enters, Bool.or_true], d.closed_lockedSinceStart enters⟩
    · have noLock : ¬s.locksAt e := fun enters =>
        stays.elim (fun h => h (updates.mp (.inl enters))) fun locked => State.not_locksAt_of_locked locked enters
      rw [d.closed_timeValid, decide_eq_false noLock, Bool.or_false]
    · exact (d.switched moved found).1 (updates.mpr locks)
    · exact (d.switched moved found).2 fun h => unlocked (updates.mp h)
    · exact d.lost_locked moved (updates.mpr locks) lost
    · exact d.lost_acquire moved (fun h => unlocked (updates.mp h)) lost
  · have rests : s.sde.clock = .holdover ∨ s.undriven := rest.elim (fun h => .inr (.inl h)) (Or.imp_right .inr)
    rw [(State.closedOn_frame _ _).1]
    exact (State.driveStage_rests closed rests).2
  · exact (State.rests_of_undriven closed (by rw [free]; decide) (.inl free)).freerun free
  · have none := (rest.resolve_left (by rw [acquire]; decide)).resolve_left (by rw [acquire]; decide)
    exact (State.rests_of_undriven closed (by rw [acquire]; decide) (.inr none)).acquire acquire
  · have none := (rest.resolve_left (by rw [locked]; decide)).resolve_left (by rw [locked]; decide)
    exact (State.rests_of_undriven closed (by rw [locked]; decide) (.inr none)).locked locked
  · have none := (rest.resolve_left (by rw [bridge]; decide)).resolve_left (by rw [bridge]; decide)
    exact (State.rests_of_undriven closed (by rw [bridge]; decide) (.inr none)).bridge bridge
  · exact State.closedOn_holdover closed holdover

end Sys2Proof.Machine
end
